-- ==== Sys2Proof/Word.lean ====
section
/-! DEFINITION. Word.lean: the plain word types of the TQ-96 model and bounded-table access. Bit vectors are kept for
what the manual treats as bits: the bytes of the program link, the 16-flag image good mask, the position masks of a
bank reply and the CRC register. Counts, numbers, angles and offsets are `Nat` or `Int`. -/

namespace Sys2Proof

/-- One byte of the program link (R176). -/
abbrev Byte := BitVec 8

/-- The entry `i` of a table of `n` entries; an index outside the table reads as the default entry. -/
def look {α : Type} [Inhabited α] {n : Nat} (t : Vector α n) (i : Nat) : α := (t[i]?).getD default

/-- The table with entry `i` replaced; an index outside the table changes nothing. -/
def put {α : Type} {n : Nat} (t : Vector α n) (i : Nat) (x : α) : Vector α n := t.setIfInBounds i x

/-- The table with entry `i` changed by `f`. -/
def adjust {α : Type} [Inhabited α] {n : Nat} (t : Vector α n) (i : Nat) (f : α → α) : Vector α n :=
  put t i (f (look t i))

end Sys2Proof
end

