-- ==== Sys2Proof/Syntax.lean ====
section
/-! DEFINITION. Syntax.lean: the commands of the TQ-96, one constructor per row of spec/opcode_table.json, and the types
of their operands. The table gives no row an operand, so an operand here is what the event itself carries by its rule
(a byte, a sample, a bank reply, the level of a line that the event samples). The rows of dispatched records carry no
operand: the record they take stands in the input buffer (R180). -/

namespace Sys2Proof

/-- The ten windows of the cam table, in the order of Table 1-2. -/
inductive Window where
  | index | fire | verify | gate | transfer | descend | clinch | sense | retract | decision
  deriving DecidableEq, Repr, Inhabited

/-- The two lead contacts (R132). -/
inductive Lead where
  | a | b
  deriving DecidableEq, Repr, Inhabited

/-- The LEVEL input lines other than E-STOP, which has rows of its own (Table 8-3). -/
inductive LevelLine where
  | guardOpen | airLow | binFull
  deriving DecidableEq, Repr, Inhabited

/-- The stage position of a position sample: a quarter turn, or TURNING (R108). -/
inductive Stage where
  | turning
  | quarter (q : Nat)
  deriving DecidableEq, Repr, Inhabited

/-- The levels of the four LEVEL input lines (Table 8-3). -/
structure LevelLines where
  eStop : Bool := false
  guardOpen : Bool := false
  airLow : Bool := false
  binFull : Bool := false
  deriving DecidableEq, Repr, Inhabited

/-- The RATE straps at power-on reset, each set when it is strapped to ground (Table 11-1). -/
structure Straps where
  rate1 : Bool := false
  rate0 : Bool := false
  deriving DecidableEq, Repr, Inhabited

/-- What an encoder sample's window events find on the other lines at that moment: the levels they sample (PRESENCE at
VERIFY open, R90; JAWS CLOSED at the grant, R129; HEAD DOWN at DESCEND open, R130; HEAD UP at RETRACT open, R131; the
leads at SENSE open, R132), the tick count a measurement still running at VERIFY close has reached (R91), and the order
in which windows that share the sample's angle are taken (R7: the windows listed first, in the listed order, then the
others in table order). -/
structure Station where
  presenceA : Bool := false
  presenceB : Bool := false
  jawsClosed : Bool := false
  headDown : Bool := false
  headUp : Bool := false
  leadA : Bool := false
  leadB : Bool := false
  verifyCount : Nat := 0
  order : List Window := []
  deriving DecidableEq, Repr, Inhabited

/-- The commands: one constructor per row of the table of operations and events. -/
inductive Instr where
  /-- R18: power-up or the RESET pin, with the straps and the LEVEL lines as they stand. -/
  | powerOnReset (straps : Straps) (levels : LevelLines)
  /-- R1: one decoded encoder count; `mark` when it crosses the index mark. -/
  | encoderSample (forward : Bool) (mark : Bool) (station : Station)
  /-- R91: the comparator trips at tick `count` of the running measurement or phase. -/
  | measureSenseTrip (count : Nat)
  /-- R92: the running diode phase's count exceeds the last band's max count. -/
  | verifyPhaseLimit
  /-- R99: GATE HOME goes negated. -/
  | gateHomeNegated
  /-- R99: GATE HOME goes asserted. -/
  | gateHomeAsserted
  /-- R127: at TRANSFER a step waits, and its dwell count reaches the dwell limit. -/
  | dwellTimeout
  /-- R86: a CHAIN INDEX pulse. -/
  | chainIndexPulse
  /-- R88: a STRIP sensor pulse. -/
  | stripSensorPulse
  /-- R129: JAWS CLOSED goes asserted. -/
  | jawsClosedAsserted
  /-- R130: HEAD DOWN goes asserted. -/
  | headDownAsserted
  /-- R130: CLINCH RETURN goes from negated to asserted. -/
  | clinchReturnRise
  /-- R132: a lead contact closes. -/
  | leadContactClose (lead : Lead)
  /-- R131: HEAD UP goes from negated to asserted. -/
  | headUpAsserted
  /-- R108: a position sample; `passed` when it passes the port's line check. -/
  | positionSample (passed : Bool) (number : Nat) (x : Int) (y : Int) (stage : Stage)
  /-- R110: the silence time reaches 10 ms. -/
  | tableDriveSilent
  /-- R107: a 20 ms mark after at least 20 ms without a sample of the current number. -/
  | targetCommandResend
  /-- R115: SPAN AT TARGET rises; `withSend` when it falls at the same moment as a send. -/
  | spanAtTargetRise (withSend : Bool)
  /-- R115: SPAN AT TARGET goes negated. -/
  | spanAtTargetFall
  /-- R122: PROFILE ACK rises; `withDrive` when it falls at the same moment as a drive of new outputs. -/
  | profileAckRise (withDrive : Bool)
  /-- R122: PROFILE ACK goes negated. -/
  | profileAckFall
  /-- R53: a 20 ms mark of the timebase. -/
  | pollFrame
  /-- R54: a bank's reply; bit `n` of a mask stands for position `n` of the bank. -/
  | bankReply (bank : Nat) (frame : Nat) (home : BitVec 8) (loaded : BitVec 8) (empties : BitVec 8)
  /-- R139: a LEVEL line other than E-STOP goes asserted. -/
  | levelInputAsserted (line : LevelLine)
  /-- R139: a LEVEL line other than E-STOP goes negated. -/
  | levelInputNegated (line : LevelLine)
  /-- R166: E-STOP goes asserted. -/
  | eStopAsserted
  /-- R166: E-STOP goes negated. -/
  | eStopNegated
  /-- R173: a 1 ms tick while HALTED. -/
  | haltedMillisecond
  /-- R177: a byte received; `stopBit` when its stop bit was present. -/
  | linkByteReceived (byte : Byte) (stopBit : Bool)
  /-- R178: the third 1 ms tick without a byte. -/
  | linkGapTimeout
  /-- R182: a RETURN CREDIT record with payload byte `c` completes. -/
  | returnCredit (c : Byte)
  /-- R182: sending of the head of the upstream queue begins. -/
  | sendStart
  /-- R182: the last byte of the record being sent has gone. -/
  | recordSent
  /-- R34: a STEP RESULT is placed. -/
  | stepResultPlacement
  /-- R36: the BOARD RESULT is placed. -/
  | boardResultPlacement
  /-- R147: an ALARM NOTICE is placed. -/
  | alarmNoticePlacement
  /-- R20: the dispatcher takes a BOARD START record. -/
  | boardStart
  /-- R22: the dispatcher takes a STEP record. -/
  | step
  /-- R33: the dispatcher takes a BOARD END record. -/
  | boardEnd
  /-- R29: the dispatcher takes a BAD IMAGE record. -/
  | badImage
  /-- R4: the dispatcher takes a LOAD of table 0. -/
  | loadCamTable
  /-- R79: the dispatcher takes a LOAD of table 1. -/
  | loadChainGeometry
  /-- R37: the dispatcher takes a LOAD of table 2. -/
  | loadKind
  /-- R40: the dispatcher takes a LOAD of table 3. -/
  | loadDispenser
  /-- R183: the dispatcher takes a LOAD of table 4. -/
  | loadBand
  /-- R102: the dispatcher takes a LOAD of table 5. -/
  | loadImage
  /-- R103: the dispatcher takes a LOAD of table 6. -/
  | loadTableConfiguration
  /-- R120: the dispatcher takes a LOAD of table 7. -/
  | loadClinchProfile
  /-- R137: the dispatcher takes a LOAD of table 8. -/
  | loadAlarmClass
  /-- R167: the dispatcher takes a LOAD of table 9. -/
  | loadCounterConfiguration
  /-- R183: the dispatcher takes a LOAD of table 10. -/
  | loadLimits
  /-- R183: the dispatcher takes a READ record. -/
  | read
  /-- R11: the dispatcher takes a CONTROL RUN. -/
  | run
  /-- R15: the dispatcher takes a CONTROL STOP. -/
  | stop
  /-- R154: the dispatcher takes a CONTROL RESUME; `headUp` is the level of HEAD UP at that event (R156). -/
  | resume (headUp : Bool)
  /-- R159: the dispatcher takes a CONTROL PURGE. -/
  | purge
  /-- R163: the dispatcher takes a CONTROL ABORT BOARD. -/
  | abortBoard
  /-- R175: the dispatcher takes a CONTROL CLEAR STATISTICS. -/
  | clearStatistics
  /-- R172: the dispatcher takes a CONTROL CLEAR COUNTERS. -/
  | clearCounters
  /-- R165: the dispatcher takes a CONTROL RESET. -/
  | linkReset
  /-- R140: the dispatcher takes an ACKNOWLEDGE ALARM record. -/
  | acknowledgeAlarm
  /-- R181: the dispatcher takes a QUERY record. -/
  | query
  /-- R181: the dispatcher takes a record that no other row names. -/
  | unknownTypeRecord
  /-- R11, R153: the START key; `headUp` is the level of HEAD UP at that event. -/
  | panelStart (headUp : Bool)
  /-- R15: the STOP key. -/
  | panelStop
  /-- R141: the ACK key. -/
  | panelAck
  /-- R159, R153: the PURGE key; `headUp` is the level of HEAD UP at that event. -/
  | panelPurge (headUp : Bool)
  deriving DecidableEq, Repr, Inhabited

end Sys2Proof
end

