-- ==== Sys2Proof/Decode.lean ====
section
/-! DEFINITION. Decode.lean: the command that a word spells by the bits of spec/opcode_table.json. The table gives no row
any bits: a command of the TQ-96 is an event or a record of the program link, whose bytes are taken by the receiver (R177)
and the dispatcher (R180). So no word spells a command (log entry 7). -/

namespace Sys2Proof

/-- The command that a word of the table's bits spells: none, for no row has bits. -/
def decodeTableWord (_nbits _w : Nat) : Option Instr := none

end Sys2Proof
end

