-- ==== Sys2Proof/Config.lean ====
section
/-! DEFINITION. Config.lean: the fixed sizes of the part, each with the rule that gives it. The spec leaves no value
of the part to the implementation, so there is no opaque constant here: what the environment decides (a line's level at
an event, the tick count of a measurement, the order in which windows that share an angle are taken) is an operand of
the command that meets it. -/

namespace Sys2Proof.Config

/-- Encoder counts in one revolution (1.1). -/
abbrev countsPerRevolution : Nat := 1440

/-- Highest shaft angle (Table 1-1). -/
abbrev lastAngle : Nat := 1439

/-- Highest index distance, the missing-index count (R1, R3). -/
abbrev missingIndexDistance : Int := 1441

/-- Lowest index distance (R1). -/
abbrev lowestDistance : Int := -1439

/-- Counts above the park angle at which the shaft is still at park (R9). -/
abbrev parkBand : Nat := 20

/-- Places of the step window (R24). -/
abbrev windowPlaces : Nat := 256

/-- Steps a board can have (Table 2-1). -/
abbrev maxSteps : Nat := 65536

/-- Places of the input buffer (R179). -/
abbrev bufferPlaces : Nat := 8

/-- Places of the upstream queue (R182). -/
abbrev upstreamPlaces : Nat := 64

/-- Longest payload of a record (R176). -/
abbrev maxPayload : Nat := 60

/-- Highest value of the production counters (Table 10-3, 10.4, 10.5). -/
abbrev counterTop : Nat := 4294967295

/-- Highest verify count (R91). -/
abbrev countTop : Nat := 65535

/-- Highest value of a link error counter (R178). -/
abbrev linkErrorTop : Nat := 65535

/-- Highest occurrence count of an alarm code (Table 8-1). -/
abbrev occurrenceTop : Nat := 255

/-- Samples of a full coarse run (R109). -/
abbrev coarseFull : Nat := 8

/-- Samples of a full fine run (R109). -/
abbrev fineFull : Nat := 16

/-- Silence, in milliseconds, at which the table drive is silent (R110). -/
abbrev silenceLimit : Nat := 10

/-- Milliseconds between two 20 ms marks of the timebase (R53, R107). -/
abbrev markPeriod : Nat := 20

/-- Ticks of the timebase without a byte at which a record under way is discarded (R178). -/
abbrev gapTicks : Nat := 3

/-- Longest fault run (R98). -/
abbrev faultRunLength : Nat := 4

end Sys2Proof.Config
end

