-- ==== Sys2Proof/Machine/State.lean ====
section
/-! DEFINITION. Machine/State.lean: everything the spec gives the TQ-96 to hold, block by block (Table 0-1), as plain
data; the reasons a step can stop; and the state after power-on reset. Items the spec derives (frontier, presented alarm,
stop demand, lamps, FEED READY, settle state, the output lines that follow a rule) are computed in Machine/Flags.lean
and not stored. -/

namespace Sys2Proof.Machine

/-! ## Shaft monitor (chapter 1, Table 9-1) -/

/-- Table 1-6: the machine states, numbered as in byte 2 of Table 11-19. -/
inductive MachineState where
  | stopped | homing | waiting | cycling | halted | recovering | purging
  deriving DecidableEq, Repr, Inhabited

/-- Table 1-5: the shaft drive states. -/
inductive Drive where
  | held | driving
  deriving DecidableEq, Repr, Inhabited

/-- Table 1-2: one cam entry. Entries 0 to 9 hold a window's start and end angle; entry 10 holds the park angle as
`start` and leaves `stop` 0. -/
structure CamEntry where
  loaded : Bool
  start : Nat
  stop : Nat
  deriving DecidableEq, Repr, Inhabited

/-- R155, R158: the choices for an UNCERTAIN step. -/
inductive ResumeChoice where
  | reinsert | accept | mark
  deriving DecidableEq, Repr, Inhabited

/-- The shaft monitor (Tables 1-1, 1-2, 1-5, 1-6, 9-1; 1.3; 1.5). -/
structure Shaft where
  angle : Nat
  registered : Bool
  distance : Int
  cam : Vector CamEntry 11
  drive : Drive
  machine : MachineState
  stopPending : Bool
  purgeRequested : Bool
  resumeChoice : ResumeChoice
  /-- A park request held while DRIVING (R9). -/
  parkRequested : Bool
  /-- The live flag of the present revolution (1.3). -/
  live : Bool
  /-- The advance flag of the present revolution (1.3). -/
  advance : Bool
  /-- The open or closed state of each window (1.3), indexed as in Table 1-2. -/
  opened : Vector Bool 10
  /-- DECISION has opened in the present revolution (R17 asks). -/
  decided : Bool
  /-- The shaft monitor chose to continue at the present revolution's DECISION open (R14, R84). -/
  continues : Bool
  /-- TRANSFER has opened in the present revolution, so the step at offset 0 has had its offer (R124, R127;
  log entry 33). -/
  offerTaken : Bool
  deriving DecidableEq, Repr, Inhabited

/-! ## Board manager (chapter 2) -/

/-- Table 2-1: board state. -/
inductive BoardPhase where
  | none | opened | closing
  deriving DecidableEq, Repr, Inhabited

/-- Table 2-1: end status. -/
inductive EndStatus where
  | complete | aborted
  deriving DecidableEq, Repr, Inhabited

/-- Table 2-4: step states. -/
inductive StepState where
  | queued | planned | fired | verified | diverting | stripping | inserting | uncertain | resolved
  deriving DecidableEq, Repr, Inhabited

/-- Table 2-4: outcomes, numbered as in Table 11-10. -/
inductive StepOutcome where
  | inserted | misinserted | skippedBadImage | skippedOutOfField | failed | aborted
  deriving DecidableEq, Repr, Inhabited

/-- Table 3-1: misinsert policy. -/
inductive Policy where
  | stop | mark
  deriving DecidableEq, Repr, Inhabited

/-- R94, R95: verify results, numbered as in Table 11-10. -/
inductive VerifyResult where
  | pass | passAlt | value | opened | short | missing | reversed
  deriving DecidableEq, Repr, Inhabited

/-- Table 2-4: the verify record of a step. -/
structure VerifyRecord where
  result : VerifyResult
  band : Option Nat
  count : Option Nat
  deriving DecidableEq, Repr, Inhabited

/-- Table 2-4: the context of one accepted step. -/
structure StepContext where
  number : Nat
  kind : Nat
  image : Nat
  x : Nat
  y : Nat
  theta : Nat
  tier : Nat
  override : Option Policy
  target : Option (Int × Int)
  state : StepState
  source : Option Nat
  slot : Option Nat
  makeUps : Nat
  dwell : Nat
  verify : Option VerifyRecord
  slip : Bool
  passAlt : Bool
  badImage : Bool
  operator : Bool
  outcome : Option StepOutcome
  deriving DecidableEq, Repr, Inhabited

/-- Table 2-1: the tallies of BOARD RESULT. -/
structure Tallies where
  accepted : Nat := 0
  inserted : Nat := 0
  misinserted : Nat := 0
  skipped : Nat := 0
  failed : Nat := 0
  aborted : Nat := 0
  makeUps : Nat := 0
  deriving DecidableEq, Repr, Inhabited

/-- The board manager: the board record (Table 2-1), the step window (2.4) and the report order (R34). -/
structure Board where
  phase : BoardPhase
  id : Nat
  goodMask : BitVec 16
  dx : Int
  dy : Int
  expectedCount : Option Nat
  expectedStep : Nat
  lastTier : Nat
  endStatus : EndStatus
  tallies : Tallies
  /-- The contexts of the step window, in step-number order (2.4). -/
  window : List StepContext
  /-- The resolved contexts awaiting their STEP RESULT, by step number, in order of resolution (R34). -/
  reportOrder : List Nat
  deriving DecidableEq, Repr, Inhabited

/-! ## Source table (chapter 3) -/

/-- Table 3-1: test modes, numbered as in Table 11-15. -/
inductive TestMode where
  | resistive | capacitive | diode | jumper | none
  deriving DecidableEq, Repr, Inhabited

/-- Table 3-1: selection modes. -/
inductive Selection where
  | fill | spread
  deriving DecidableEq, Repr, Inhabited

/-- Table 3-1: the fields of a loaded kind entry. -/
structure Kind where
  mode : TestMode
  range : Nat
  bandStart : Nat
  bandCount : Nat
  expectedLo : Nat
  expectedHi : Nat
  alternate : Option (Nat × Nat)
  span : Nat
  profile : Nat
  policy : Policy
  sources : List Nat
  selection : Selection
  pin : Option Nat
  statistics : Nat
  deriving DecidableEq, Repr, Inhabited

/-- A kind entry, loaded or unloaded, with its derived state (Table 3-2). -/
structure KindEntry where
  entry : Option Kind
  lastUsed : Nat
  noSource : Bool
  deriving DecidableEq, Repr, Inhabited

/-- Table 3-4: reel states, numbered as in Table 11-16. -/
inductive ReelState where
  | loaded | low | empty
  deriving DecidableEq, Repr, Inhabited

/-- Table 3-4: conditions, numbered as in Table 11-16. -/
inductive Condition where
  | operational | proving | suspect
  deriving DecidableEq, Repr, Inhabited

/-- A dispenser entry: loaded fields (Table 3-3) and derived state (Table 3-4). -/
structure Dispenser where
  loaded : Bool
  installed : Bool
  offset : Nat
  capacity : Nat
  threshold : Nat
  enabled : Bool
  count : Nat
  reel : ReelState
  condition : Condition
  jammed : Bool
  missing : Nat
  badPart : Nat
  proving : Bool
  lowReported : Bool
  outReported : Bool
  deriving DecidableEq, Repr, Inhabited

/-- One fire of a fire frame: the dispenser, the step whose slot was fired and its kind (R53, R55). -/
structure Fire where
  dispenser : Nat
  step : Nat
  kind : Nat
  deriving DecidableEq, Repr, Inhabited

/-- An outstanding fire frame: its number, its fires and the banks that have replied (R53). -/
structure FireFrame where
  number : Nat
  fires : List Fire
  replied : List Nat
  deriving DecidableEq, Repr, Inhabited

/-- The source table (chapter 3). -/
structure Source where
  kinds : Vector KindEntry 256
  dispensers : Vector Dispenser 96
  frame : Nat
  outstanding : Option FireFrame
  deriving DecidableEq, Repr, Inhabited

/-! ## Sequence planner (chapter 4) -/

/-- Table 4-1: stop causes, numbered as in byte 18 of Table 11-19. -/
inductive StopCause where
  | empty | noSource | horizon | held | machine | frozen
  deriving DecidableEq, Repr, Inhabited

/-- Table 4-1: the planner's own state. -/
structure Planner where
  freeze : Bool
  stopCause : StopCause
  makeUpLimit : Nat
  deriving DecidableEq, Repr, Inhabited

/-! ## Chain tracker (chapter 5) -/

/-- Table 5-1: verify states of an OCCUPIED slot. -/
inductive VerifyState where
  | unmeasured | passed | failed
  deriving DecidableEq, Repr, Inhabited

/-- Table 5-1: dispositions. -/
inductive Disposition where
  | insert | divert | strip
  deriving DecidableEq, Repr, Inhabited

/-- Table 5-2: reasons, in its order. -/
inductive Reason where
  | verify | missing | stray | deselected | purge | orphan | tier | gateFail
  deriving DecidableEq, Repr, Inhabited

/-- Table 5-1: the contents of an OCCUPIED slot; the reason is absent while the disposition is INSERT. -/
structure Component where
  step : Option Nat
  source : Option Nat
  kind : Option Nat
  verify : VerifyState
  disposition : Disposition
  reason : Option Reason
  /-- It was turned FAILED at its departure from offset V, no verify result having been made (R85), so it leaves the
  chain without having been measured (R47; log entry 31). -/
  unjudged : Bool
  deriving DecidableEq, Repr, Inhabited

/-- Table 5-1: slot conditions. -/
inductive Slot where
  | empty
  | reserved (step : Nat) (source : Nat)
  | occupied (c : Component)
  deriving DecidableEq, Repr, Inhabited

/-- The chain tracker: chain geometry (R79), the chain map and the items of Table 5-3. `slots` is indexed by pitch
number and has no entry while the geometry is unloaded. -/
structure Chain where
  loaded : Bool
  length : Nat
  verifyOffset : Nat
  gateOffset : Nat
  slots : List Slot
  pointer : Nat
  grant : Bool
  indexSeen : Bool
  stripPending : Option Nat
  gateDone : Bool
  gatePending : Option Nat
  /-- GATE FIRE asserted by the tracker's own rules (R99, R100). -/
  gateFire : Bool
  deriving DecidableEq, Repr, Inhabited

/-! ## Component verifier (5.7) -/

/-- R93: the reading of a count against a band set. -/
inductive Reading where
  | short
  | opened
  | band (b : Nat)
  deriving DecidableEq, Repr, Inhabited

/-- R91, R92: the phase of a running measurement; the reverse phase keeps the forward reading and count. -/
inductive Phase where
  | single
  | forward
  | reverse (reading : Reading) (count : Nat)
  deriving DecidableEq, Repr, Inhabited

/-- A measurement under way: the pitch at the verify station, the slot's kind id, the fields the kind's entry held at
VERIFY open (R90) and the phase. MEASURE DRIVE and RANGE 0–1 follow from it. -/
structure Measurement where
  pitch : Nat
  kindId : Nat
  kind : Kind
  phase : Phase
  deriving DecidableEq, Repr, Inhabited

/-- The component verifier (5.7): band table, short limit, fault run, measurement under way. -/
structure Verifier where
  bands : Vector (Option Nat) 128
  shortLimit : Nat
  faultRun : List Nat
  running : Option Measurement
  /-- The range code on RANGE 0–1, as the last measurement set it (R91; log entry 42). -/
  range : Nat
  deriving DecidableEq, Repr, Inhabited

/-! ## Table positioner (chapter 6) -/

/-- R102: an image table entry. -/
structure Image where
  installed : Bool
  ox : Nat
  oy : Nat
  deriving DecidableEq, Repr, Inhabited

/-- R103: the table configuration (Table 6-2). -/
structure TableConfig where
  loaded : Bool
  kx : Nat
  ky : Nat
  hx : Nat
  hy : Nat
  rx : Nat
  ry : Nat
  xMin : Int
  xMax : Int
  yMin : Int
  yMax : Int
  fine : Nat
  coarse : Nat
  deriving DecidableEq, Repr, Inhabited

/-- Table 6-1: the current target without its number. -/
structure Target where
  x : Int
  y : Int
  q : Nat
  served : Nat
  deriving DecidableEq, Repr, Inhabited

/-- The table positioner (Table 6-1). The target number is kept while no target is held (R118). -/
structure Positioner where
  images : Vector Image 16
  config : TableConfig
  targetNumber : Nat
  target : Option Target
  coarseRun : Nat
  fineRun : Nat
  silence : Nat
  silenceReported : Bool
  candidate : Option Nat
  lock : Option Nat
  /-- The kind of the locked step, kept with the lock (R116; log entry 32). -/
  lockKind : Option Nat
  slipReported : Bool
  spanTarget : Option Nat
  spanReady : Bool
  /-- A span value has been sent since SPAN AT TARGET last went asserted (R115). -/
  spanSent : Bool
  /-- Milliseconds, up to 20, in which no sample has carried the current target number (R107). -/
  unmatched : Nat
  deriving DecidableEq, Repr, Inhabited

/-! ## Head and clinch controller (chapter 7) -/

/-- R120: clinch directions, numbered as in Table 11-15. -/
inductive Direction where
  | inward | outward | cutOnly
  deriving DecidableEq, Repr, Inhabited

/-- R120: the fields of a loaded clinch profile. -/
structure Profile where
  direction : Direction
  cut : Nat
  deriving DecidableEq, Repr, Inhabited

/-- R121: the profile output, with the direction and cut length code driven for it. -/
structure ProfileOutput where
  number : Nat
  values : Profile
  deriving DecidableEq, Repr, Inhabited

/-- Table 7-1: the insertion record. -/
structure InsertionRecord where
  step : Nat
  kind : Nat
  source : Option Nat
  jaws : Bool
  down : Bool
  returned : Bool
  leadA : Bool
  leadB : Bool
  up : Bool
  deriving DecidableEq, Repr, Inhabited

/-- The head and clinch controller (Table 7-1). -/
structure Head where
  profiles : Vector (Option Profile) 16
  output : Option ProfileOutput
  ready : Bool
  /-- A profile has been driven since PROFILE ACK last went asserted (R122). -/
  driven : Bool
  /-- The clinch profile of the last candidate handed over (R121). -/
  handed : Option Nat
  /-- HEAD INHIBIT asserted by the controller's own rules (R123). -/
  inhibit : Bool
  record : Option InsertionRecord
  upAwaited : Bool
  dwellLimit : Nat
  deriving DecidableEq, Repr, Inhabited

/-! ## Alarm controller (chapter 8) -/

/-- Table 8-1: classes, numbered as there. -/
inductive AlarmClass where
  | note | holdFeed | stopAtPark | stopNow
  deriving DecidableEq, Repr, Inhabited

/-- Table 8-1: the states of a code, numbered as in Table 11-11. -/
inductive AlarmState where
  | idle | active | latched
  deriving DecidableEq, Repr, Inhabited

/-- Table 8-1: a code's context. -/
structure AlarmContext where
  step : Option Nat := none
  dispenser : Option Nat := none
  kind : Option Nat := none
  deriving DecidableEq, Repr, Inhabited

/-- Table 8-1: an alarm table entry, without its fixed code and type. -/
structure AlarmEntry where
  cls : AlarmClass
  state : AlarmState
  ackPending : Bool
  count : Nat
  context : AlarmContext
  noticePending : Bool
  deriving DecidableEq, Repr, Inhabited

/-- The alarm controller: the alarm table and the notice list (R146). -/
structure Alarm where
  codes : Vector AlarmEntry 32
  notices : List Nat
  deriving DecidableEq, Repr, Inhabited

/-! ## Production counters (chapter 10) -/

/-- Table 10-2: what an event counter counts, numbered as in Table 11-15. -/
inductive CountEvent where
  | none | advance | dwell | fire | verifyPass | verifyFail | divert | strip | insert | misinsert | makeUp
  | alarmOccurrence | chainOccupancy | queueDepth | frontier
  deriving DecidableEq, Repr, Inhabited

/-- Tables 10-2 and 10-3: an event counter's configuration and running state. -/
structure EventCounter where
  event : CountEvent
  matchA : Nat
  matchB : Nat
  threshold : Nat
  invert : Bool
  edge : Bool
  limit : Nat
  enable : Bool
  value : Nat
  occurred : Bool
  previous : Bool
  limitReported : Bool
  deriving DecidableEq, Repr, Inhabited

/-- 10.4: the residency counters. -/
structure Residency where
  insert : Nat := 0
  hole : Nat := 0
  dwell : Nat := 0
  halted : Nat := 0
  deriving DecidableEq, Repr, Inhabited

/-- R174: a statistics block. -/
structure Statistics where
  fired : Nat := 0
  inserted : Nat := 0
  verifyFail : Nat := 0
  misinsert : Nat := 0
  deriving DecidableEq, Repr, Inhabited

/-- The production counters (chapter 10). -/
structure Counters where
  events : Vector EventCounter 4
  residency : Residency
  statistics : Vector Statistics 64
  deriving DecidableEq, Repr, Inhabited

/-! ## Outputs that are sent -/

/-- What the part sends on its serial outputs: target commands on TD TX (R107), span values on SPAN TX (R115), fire and
poll frames on BANK DATA OUT (R53; for each of the 12 banks the position to fire, or none), and the frames of records on
LINK TX (R176, R182). -/
inductive Emission where
  | targetCommand (number : Nat) (x : Int) (y : Int) (q : Nat)
  | spanValue (span : Nat)
  | fireFrame (number : Nat) (positions : List (Option Nat))
  | pollFrame (number : Nat)
  | linkRecord (bytes : List Byte)
  deriving DecidableEq, Repr, Inhabited

/-! ## Link port (chapter 11) -/

/-- R177: the receiver's states. -/
inductive RxPhase where
  | hunt | type | length | payload | check
  deriving DecidableEq, Repr, Inhabited

/-- The receiver: its state, what it has kept of the record under way, whether the input buffer held 8 records at the
record's sync byte (R177), and the 1 ms ticks since the last byte (R178). -/
structure Receiver where
  phase : RxPhase
  type : Byte
  length : Nat
  payload : List Byte
  crcHigh : Option Byte
  full : Bool
  gap : Nat
  deriving DecidableEq, Repr, Inhabited

/-- A complete record without its frame: type and payload (R176). -/
structure Record where
  type : Byte
  payload : List Byte
  deriving DecidableEq, Repr, Inhabited

/-- The link port (chapter 11). -/
structure LinkPort where
  straps : Straps
  receiver : Receiver
  /-- The input buffer, oldest first (R179). -/
  input : List Record
  /-- The upstream queue, head first (R182). -/
  upstream : List Record
  /-- The record at the head of the upstream queue is being sent (R182). -/
  sending : Bool
  credit : Nat
  framingErrors : Nat
  crcErrors : Nat
  overrunErrors : Nat
  deriving DecidableEq, Repr, Inhabited

/-! ## The whole machine -/

/-- The ten blocks other than the link port, the position of the 1 ms timebase within its 20 ms period, and the record
of what the part has sent, newest first (the model's own: it makes a send visible). The blocks' own rules never touch the
link port, the LEVEL lines or the queue of commands, so they are functions on this structure. -/
structure Blocks where
  shaft : Shaft
  board : Board
  source : Source
  planner : Planner
  chain : Chain
  verifier : Verifier
  positioner : Positioner
  head : Head
  alarm : Alarm
  counters : Counters
  time : Nat
  sent : List Emission
  deriving DecidableEq, Repr, Inhabited

/-- The state of the TQ-96: its blocks, the link port, the levels of the LEVEL input lines as their events have left
them, and the queue of commands that wait, first in, first out (the model's own). -/
structure State where
  blocks : Blocks
  link : LinkPort
  levels : LevelLines
  pending : List Instr
  deriving DecidableEq, Repr, Inhabited

/-- The reasons a step can stop with a fault. There is none: the spec gives every command an effect, or lets it pass
without one, in every state. -/
inductive Fault where
  deriving DecidableEq, Repr

/-- The reasons a step can be refused. -/
inductive Refusal where
  /-- Raised by an arm of `exec` whose command has no meaning yet (safe: nothing is claimed of it). No arm raises it. -/
  | notModelled (mnemonic : String)
  deriving DecidableEq, Repr

/-! ## Values after power-on reset -/

/-- R58: an unloaded kind entry. -/
def KindEntry.unloaded : KindEntry := { entry := none, lastUsed := 3, noSource := false }

/-- R58: an unloaded dispenser entry. -/
def Dispenser.unloaded : Dispenser :=
  { loaded := false, installed := false, offset := 0, capacity := 0, threshold := 0, enabled := false, count := 0,
    reel := .empty, condition := .operational, jammed := false, missing := 0, badPart := 0, proving := false,
    lowReported := false, outReported := false }

/-- R18: the shaft monitor after power-on reset; R158: the default resume choice. -/
def Shaft.reset : Shaft :=
  { angle := 0, registered := false, distance := 0, cam := Vector.replicate 11 ⟨false, 0, 0⟩, drive := .held,
    machine := .stopped, stopPending := false, purgeRequested := false, resumeChoice := .reinsert,
    parkRequested := false, live := false, advance := false, opened := Vector.replicate 10 false, decided := false,
    continues := false, offerTaken := false }

/-- R19: the board manager after a reset. The other fields of the board record are undefined while the board is NONE and
read by no block; the model gives them zeros (log entry 2). -/
def Board.reset : Board :=
  { phase := .none, id := 0, goodMask := 0, dx := 0, dy := 0, expectedCount := none, expectedStep := 0, lastTier := 0,
    endStatus := .complete, tallies := ⟨0, 0, 0, 0, 0, 0, 0⟩, window := [], reportOrder := [] }

/-- R58: the source table after power-on reset. -/
def Source.reset : Source :=
  { kinds := Vector.replicate 256 KindEntry.unloaded, dispensers := Vector.replicate 96 Dispenser.unloaded, frame := 0,
    outstanding := none }

/-- R78: the planner after power-on reset. -/
def Planner.reset : Planner := { freeze := false, stopCause := .empty, makeUpLimit := 3 }

/-- R80: the chain tracker after power-on reset; R79: the geometry is unloaded. -/
def Chain.reset : Chain :=
  { loaded := false, length := 0, verifyOffset := 0, gateOffset := 0, slots := [], pointer := 0, grant := false,
    indexSeen := false, stripPending := none, gateDone := false, gatePending := none, gateFire := false }

/-- R98: the verifier after power-on reset. -/
def Verifier.reset : Verifier :=
  { bands := Vector.replicate 128 none, shortLimit := 2, faultRun := [], running := none, range := 0 }

/-- R103: the unloaded table configuration reads 0 in every field. -/
def TableConfig.unloaded : TableConfig :=
  { loaded := false, kx := 0, ky := 0, hx := 0, hy := 0, rx := 0, ry := 0, xMin := 0, xMax := 0, yMin := 0, yMax := 0,
    fine := 0, coarse := 0 }

/-- R118: the positioner after power-on reset. -/
def Positioner.reset : Positioner :=
  { images := Vector.replicate 16 ⟨false, 0, 0⟩, config := TableConfig.unloaded, targetNumber := 0, target := none,
    coarseRun := 0, fineRun := 0, silence := 0, silenceReported := false, candidate := none, lock := none,
    lockKind := none, slipReported := false, spanTarget := none, spanReady := false, spanSent := false, unmatched := 0 }

/-- R136: the head and clinch controller after power-on reset. -/
def Head.reset : Head :=
  { profiles := Vector.replicate 16 none, output := none, ready := false, driven := false, handed := none,
    inhibit := true, record := none, upAwaited := false, dwellLimit := 16 }

/-- Table 8-2: the default class of a code. -/
def AlarmClass.ofCode (code : Nat) : AlarmClass :=
  if code ≤ 8 ∨ code = 20 then .stopNow
  else if code ≤ 19 ∨ code = 21 then .stopAtPark
  else if code = 22 then .holdFeed
  else .note

/-- R150: an entry of the alarm table after power-on reset. -/
def AlarmEntry.reset (cls : AlarmClass) : AlarmEntry :=
  { cls := cls, state := .idle, ackPending := false, count := 0, context := ⟨none, none, none⟩, noticePending := false }

/-- R150: the alarm controller after power-on reset, before the LEVEL inputs are sampled. -/
def Alarm.reset : Alarm :=
  { codes := Vector.ofFn fun code : Fin 32 => AlarmEntry.reset (AlarmClass.ofCode code), notices := [] }

/-- R167: an event counter after power-on reset. -/
def EventCounter.reset : EventCounter :=
  { event := .none, matchA := 255, matchB := 255, threshold := 0, invert := false, edge := false, limit := 0,
    enable := false, value := 0, occurred := false, previous := false, limitReported := false }

/-- R167, R173, R175: the production counters after power-on reset. -/
def Counters.reset : Counters :=
  { events := Vector.replicate 4 EventCounter.reset, residency := ⟨0, 0, 0, 0⟩,
    statistics := Vector.replicate 64 ⟨0, 0, 0, 0⟩ }

/-- R184: the receiver after power-on reset. -/
def Receiver.reset : Receiver :=
  { phase := .hunt, type := 0, length := 0, payload := [], crcHigh := none, full := false, gap := 0 }

/-- R184: the link port after power-on reset, with the straps read as `straps`. -/
def LinkPort.reset (straps : Straps) : LinkPort :=
  { straps := straps, receiver := Receiver.reset, input := [], upstream := [], sending := false, credit := 0,
    framingErrors := 0, crcErrors := 0, overrunErrors := 0 }

/-- Every block after power-on reset, before the LEVEL inputs are sampled. -/
def Blocks.reset : Blocks :=
  { shaft := Shaft.reset, board := Board.reset, source := Source.reset, planner := Planner.reset,
    chain := Chain.reset, verifier := Verifier.reset, positioner := Positioner.reset, head := Head.reset,
    alarm := Alarm.reset, counters := Counters.reset, time := 0, sent := [] }

/-- The machine right after power-on reset, powered up with no LEVEL line asserted and both RATE straps open (log entry
1): every block's values are the spec's, and no command waits. -/
def State.reset : State :=
  { blocks := Blocks.reset, link := LinkPort.reset ⟨false, false⟩, levels := ⟨false, false, false, false⟩,
    pending := [] }

/-! ## Updates, one per block -/

def Blocks.onShaft (b : Blocks) (f : Shaft → Shaft) : Blocks := { b with shaft := f b.shaft }
def Blocks.onBoard (b : Blocks) (f : Board → Board) : Blocks := { b with board := f b.board }
def Blocks.onSource (b : Blocks) (f : Source → Source) : Blocks := { b with source := f b.source }
def Blocks.onPlanner (b : Blocks) (f : Planner → Planner) : Blocks := { b with planner := f b.planner }
def Blocks.onChain (b : Blocks) (f : Chain → Chain) : Blocks := { b with chain := f b.chain }
def Blocks.onVerifier (b : Blocks) (f : Verifier → Verifier) : Blocks := { b with verifier := f b.verifier }
def Blocks.onPositioner (b : Blocks) (f : Positioner → Positioner) : Blocks := { b with positioner := f b.positioner }
def Blocks.onHead (b : Blocks) (f : Head → Head) : Blocks := { b with head := f b.head }
def Blocks.onAlarm (b : Blocks) (f : Alarm → Alarm) : Blocks := { b with alarm := f b.alarm }
def Blocks.onCounters (b : Blocks) (f : Counters → Counters) : Blocks := { b with counters := f b.counters }
def Blocks.emit (b : Blocks) (e : Emission) : Blocks := { b with sent := e :: b.sent }
def State.onBlocks (s : State) (f : Blocks → Blocks) : State := { s with blocks := f s.blocks }
def State.onLink (s : State) (f : LinkPort → LinkPort) : State := { s with link := f s.link }

end Sys2Proof.Machine
end

