-- ==== Sys2Proof/Machine/Flags.lean ====
section
/-! DEFINITION. Machine/Flags.lean: every item the spec derives from stored state: window and park tests, the cam table's
order, slot offsets, the frontier and work, the queue view, the presented alarm, the stop demand and the lamps,
availability of dispensers, band checks and readings, the settle state, the head's three readiness questions, and the
levels of the output lines. Nothing here changes state. -/

namespace Sys2Proof.Machine

/-! ## Shaft monitor -/

/-- The cam entry of a window (Table 1-2). -/
def windowIndex : Window → Nat
  | .index => 0 | .fire => 1 | .verify => 2 | .gate => 3 | .transfer => 4
  | .descend => 5 | .clinch => 6 | .sense => 7 | .retract => 8 | .decision => 9

/-- The ten windows in table order. -/
def allWindows : List Window :=
  [.index, .fire, .verify, .gate, .transfer, .descend, .clinch, .sense, .retract, .decision]

/-- Whether a window stands open (1.3). -/
def Shaft.isOpen (s : Shaft) (w : Window) : Bool := look s.opened (windowIndex w)

/-- The cam entry of a window. -/
def Shaft.arc (s : Shaft) (w : Window) : CamEntry := look s.cam (windowIndex w)

/-- The park angle (Table 1-2, entry 10). -/
def Shaft.parkAngle (s : Shaft) : Nat := (look s.cam 10).start

/-- R9: the shaft is at park while REGISTERED with its angle from the park angle to 20 counts above it, or to 1439. -/
def Shaft.atPark (s : Shaft) : Bool :=
  s.registered && decide (s.parkAngle ≤ s.angle)
    && decide (s.angle ≤ min (s.parkAngle + Config.parkBand) Config.lastAngle)

/-- Table 1-6: the states in which the shaft turns. -/
def MachineState.turning : MachineState → Bool
  | .homing | .cycling | .recovering | .purging => true
  | .stopped | .waiting | .halted => false

/-- R7: FIRE, VERIFY and GATE act only in an advance. -/
def actsOnlyInAdvance : Window → Bool
  | .fire | .verify | .gate => true
  | _ => false

/-- Table 1-3 in order: each condition after the first with the entry named when it fails. -/
def camConditions (s : Shaft) : List (Bool × Nat) :=
  let start := fun w => (s.arc w).start
  let stop := fun w => (s.arc w).stop
  [ (decide (stop .index < start .fire), 1), (decide (stop .index < start .verify), 2),
    (decide (stop .index < start .gate), 3), (decide (stop .index < start .transfer), 4),
    (decide (stop .transfer < start .descend), 5), (decide (stop .descend ≤ start .clinch), 6),
    (decide (start .clinch ≤ start .sense), 7), (decide (stop .sense < start .retract), 8),
    (decide (stop .retract < start .decision), 9), (decide (stop .fire < start .decision), 1),
    (decide (stop .verify < start .decision), 2), (decide (stop .gate < start .decision), 3),
    (decide (stop .clinch < start .decision), 6), (decide (stop .decision < s.parkAngle), 10) ]

/-- R5: the cam entry named by the first condition of Table 1-3 that fails, or none when the table passes. -/
def Shaft.camFault (s : Shaft) : Option Nat :=
  match (List.range 11).find? (fun i => !(look s.cam i).loaded) with
  | some i => some i
  | none => ((camConditions s).find? (fun c => !c.1)).map Prod.snd

/-! ## Chain map -/

/-- The pitch number at an offset (5.2). -/
def Chain.pitchAt (c : Chain) (offset : Nat) : Nat := (c.pointer + offset) % c.length

/-- The slot of a pitch; while the geometry is unloaded there is none, and it reads as EMPTY (R79). -/
def Chain.slotOf (c : Chain) (pitch : Nat) : Slot := (c.slots[pitch]?).getD .empty

/-- The slot at an offset (5.2). -/
def Chain.slotAt (c : Chain) (offset : Nat) : Slot := c.slotOf (c.pitchAt offset)

/-- The offset of a pitch (5.2). -/
def Chain.offsetOf (c : Chain) (pitch : Nat) : Nat := (pitch + c.length - c.pointer) % c.length

/-- A slot that is RESERVED or OCCUPIED. -/
def Slot.used : Slot → Bool
  | .empty => false
  | .reserved _ _ => true
  | .occupied _ => true

def Slot.isReserved : Slot → Bool
  | .reserved _ _ => true
  | _ => false

def Slot.isOccupied : Slot → Bool
  | .occupied _ => true
  | _ => false

/-- The step a slot names. -/
def Slot.step? : Slot → Option Nat
  | .empty => none
  | .reserved n _ => some n
  | .occupied c => c.step

/-- A slot that holds the reason PURGE. -/
def Slot.purgeMarked : Slot → Bool
  | .occupied c => decide (c.reason = some .purge)
  | _ => false

/-- The frontier plus one: 0 when no slot is RESERVED or OCCUPIED (section 6 of the introduction, R81). -/
def Chain.frontierPlus (c : Chain) : Nat :=
  (List.range c.length).foldl (fun m j => if (c.slotAt j).used then j + 1 else m) 0

/-- Work exists when a slot is RESERVED or OCCUPIED (1.5, R81). -/
def Chain.work (c : Chain) : Bool := c.slots.any Slot.used

/-- Some slot holds the reason PURGE (R73, R161). -/
def Chain.anyPurge (c : Chain) : Bool := c.slots.any Slot.purgeMarked

def Chain.reservedCount (c : Chain) : Nat := (c.slots.filter Slot.isReserved).length

def Chain.occupiedCount (c : Chain) : Nat := (c.slots.filter Slot.isOccupied).length

/-- The pitch of the slot that names a step (R80). -/
def Chain.pitchOfStep (c : Chain) (n : Nat) : Option Nat :=
  (List.range c.slots.length).find? (fun p => decide ((c.slotOf p).step? = some n))

/-- Before the gate (2.6, R82): above G, or at G with gate done clear. -/
def Chain.beforeGate (c : Chain) (pitch : Nat) : Bool :=
  decide (c.gateOffset < c.offsetOf pitch) || (decide (c.offsetOf pitch = c.gateOffset) && !c.gateDone)

/-- The slot at offset 0 lets an index be granted: EMPTY, or OCCUPIED with disposition STRIP (R84). -/
def Chain.headClear (c : Chain) : Bool :=
  match c.slotAt 0 with
  | .empty => true
  | .reserved _ _ => false
  | .occupied o => decide (o.disposition = .strip)

/-! ## Step window -/

/-- The context of a step in the step window. -/
def Board.context? (b : Board) (n : Nat) : Option StepContext := b.window.find? (fun c => decide (c.number = n))

/-- The queue view: the QUEUED contexts in step-number order (2.4). -/
def Board.queue (b : Board) : List Nat :=
  (b.window.filter (fun c => decide (c.state = .queued))).map StepContext.number

/-- The PLANNED steps numbered `k` or above, in step-number order (R70). -/
def Board.plannedFrom (b : Board) (k : Nat) : List Nat :=
  (b.window.filter (fun c => decide (c.state = .planned) && decide (k ≤ c.number))).map StepContext.number

/-- R27: the board holds an unresolved step of a tier lower than `tier`. -/
def Board.lowerTierUnresolved (b : Board) (tier : Nat) : Bool :=
  b.window.any (fun c => decide (c.state ≠ .resolved) && decide (c.tier < tier))

/-- The image's flag in the good mask (Table 2-1). -/
def Board.imageGood (b : Board) (image : Nat) : Bool := b.goodMask.getLsbD image

/-- A board is OPEN or CLOSING. -/
def Board.standing (b : Board) : Bool := decide (b.phase ≠ .none)

/-! ## Alarms -/

/-- Table 8-1: the LEVEL codes; every other code is EDGE. -/
def isLevelCode (code : Nat) : Bool := decide (code = 0 ∨ code = 20 ∨ code = 21 ∨ code = 22)

/-- A class as a level of demand, numbered as in byte 51 of Table 11-19: 0 stands for none. -/
def AlarmClass.level : AlarmClass → Nat
  | .note => 1
  | .holdFeed => 2
  | .stopAtPark => 3
  | .stopNow => 4

/-- A code that is ACTIVE or LATCHED. -/
def AlarmEntry.standing (e : AlarmEntry) : Bool := decide (e.state ≠ .idle)

/-- The level a code adds to the demand: its class while it stands, else 0. -/
def Alarm.levelOf (a : Alarm) (code : Nat) : Nat :=
  if (look a.codes code).standing then (look a.codes code).cls.level else 0

/-- R144: the stop demand, 0 none to 4 STOP-NOW. -/
def Alarm.demand (a : Alarm) : Nat := (List.range 32).foldl (fun m code => max m (a.levelOf code)) 0

/-- R143: the presented alarm, the standing code of highest class and, within it, of lowest number. -/
def Alarm.presented (a : Alarm) : Option Nat :=
  if a.demand = 0 then none else (List.range 32).find? (fun code => decide (a.levelOf code = a.demand))

def Alarm.countState (a : Alarm) (st : AlarmState) : Nat :=
  ((List.range 32).filter (fun code => decide ((look a.codes code).state = st))).length

/-- R148: LAMP ALARM. -/
def Alarm.lampAlarm (a : Alarm) : Bool := (List.range 32).any (fun code => decide (3 ≤ a.levelOf code))

/-- R148: LAMP HOLD. -/
def Alarm.lampHold (a : Alarm) : Bool := (List.range 32).any (fun code => decide (a.levelOf code = 2))

/-- R148: LAMP RUN. -/
def Shaft.lampRun (s : Shaft) : Bool := decide (s.machine = .cycling) || decide (s.machine = .waiting)

/-- R166: code 0 is ACTIVE. -/
def Alarm.eStopActive (a : Alarm) : Bool := decide ((look a.codes 0).state = .active)

/-! ## Kinds and dispensers -/

/-- The fields of a loaded kind. -/
def Source.kind? (s : Source) (k : Nat) : Option Kind := (look s.kinds k).entry

/-- A dispenser's bank (3.2). -/
def bankOf (d : Nat) : Nat := d / 8

/-- R53: a bank is expected when at least one of its dispensers is installed. -/
def Source.expectedBank (s : Source) (bank : Nat) : Bool :=
  (List.range 8).any (fun p => (look s.dispensers (bank * 8 + p)).installed)

/-- The pinned source of a kind is `d`. -/
def Kind.pins (k : Kind) (d : Nat) : Bool := decide (k.pin.bind (fun i => k.sources[i]?) = some d)

/-- R49 without the enable condition. -/
def Dispenser.serviceable (d : Dispenser) : Bool :=
  d.installed && decide (d.reel ≠ .empty) && decide (d.condition ≠ .suspect) && !d.jammed
    && !(decide (d.condition = .proving) && d.proving)

/-- R49: dispenser `d` is available for a kind with fields `k`. -/
def Source.available (s : Source) (d : Nat) (k : Kind) : Bool :=
  (look s.dispensers d).serviceable && ((look s.dispensers d).enabled || k.pins d)

/-- R51: what a reservation on `d` for a kind with fields `k` needs; the proving-in-flight flag asks for no replan. -/
def Source.holdable (s : Source) (d : Nat) (k : Kind) : Bool :=
  let e := look s.dispensers d
  e.installed && decide (e.reel ≠ .empty) && decide (e.condition ≠ .suspect) && !e.jammed && (e.enabled || k.pins d)

/-- R50: the candidates of a kind, each as its source index and its dispenser id. -/
def Source.candidates (s : Source) (k : Kind) : List (Nat × Nat) :=
  let named : List (Nat × Nat) := match k.pin with
    | some i => (k.sources[i]?).toList.map (fun d => (i, d))
    | none => k.sources.zipIdx.map (fun p : Nat × Nat => (p.2, p.1))
  named.filter (fun p => s.available p.2 k)

/-- R40: the dispenser is available for its own kinds (log entry 12). -/
def Source.availableForOwn (s : Source) (d : Nat) : Bool :=
  (look s.dispensers d).serviceable
    && ((look s.dispensers d).enabled
      || (List.range 256).any (fun k => match s.kind? k with | some e => e.pins d | none => false))

/-- R52: the dispenser has become available for a kind for which it was not available before. -/
def Source.gained (before after : Source) (d : Nat) : Bool :=
  let was := look before.dispensers d
  let now := look after.dispensers d
  now.serviceable
    && ((now.enabled && !(was.serviceable && was.enabled))
      || (!was.serviceable
        && (List.range 256).any (fun k => match after.kind? k with | some e => e.pins d | none => false)))

/-! ## Bands and readings -/

/-- R38: the first entry of a band set that is unloaded or fails to exceed its predecessor, or none. An entry above the
band table counts as unloaded. -/
def Verifier.bandFault (v : Verifier) (k : Kind) : Option Nat :=
  ((List.range k.bandCount).find? (fun n =>
    match look v.bands (k.bandStart + n) with
    | none => true
    | some top => decide (0 < n) && decide (top ≤ (look v.bands (k.bandStart + n - 1)).getD 0))).map (k.bandStart + ·)

/-- The max count of the last band of a kind's band set (R92). -/
def Verifier.lastMax (v : Verifier) (k : Kind) : Nat := (look v.bands (k.bandStart + k.bandCount - 1)).getD 0

/-- R93: the reading of a count that tripped. -/
def Verifier.readCount (v : Verifier) (k : Kind) (count : Nat) : Reading :=
  if count ≤ v.shortLimit then .short
  else match (List.range k.bandCount).find? (fun b => decide (count ≤ (look v.bands (k.bandStart + b)).getD 0)) with
    | some b => .band b
    | none => .opened

def Kind.inExpected (k : Kind) (b : Nat) : Bool := decide (k.expectedLo ≤ b) && decide (b ≤ k.expectedHi)

/-- Within the alternate range and not within the expected range (R94, R95). -/
def Kind.inAlternate (k : Kind) (b : Nat) : Bool :=
  match k.alternate with
  | some r => decide (r.1 ≤ b) && decide (b ≤ r.2) && !k.inExpected b
  | none => false

/-- R94: the verify record of a reading in modes R, C and J. -/
def singleRecord (k : Kind) (r : Reading) (count : Nat) : VerifyRecord :=
  let band := match r with | .band b => some b | _ => none
  let result := match k.mode with
    | .jumper => if r = .short then VerifyResult.pass else .value
    | _ => match r with
      | .short => .short
      | .opened => .opened
      | .band b => if k.inExpected b then .pass else if k.inAlternate b then .passAlt else .value
  ⟨result, band, some count⟩

/-- R95: the verify record of a diode's two phases, by the rows of Table 5-6 in order. -/
def diodeRecord (k : Kind) (fwd : Reading) (fwdCount : Nat) (rev : Reading) (revCount : Nat) : VerifyRecord :=
  match fwd, rev with
  | .opened, .opened => ⟨.opened, none, some fwdCount⟩
  | .short, .short => ⟨.short, none, some fwdCount⟩
  | .band b, .opened =>
    if k.inExpected b then ⟨.pass, some b, some fwdCount⟩
    else if k.inAlternate b then ⟨.passAlt, some b, some fwdCount⟩
    else ⟨.value, some b, some fwdCount⟩
  | .opened, .band b =>
    if k.inExpected b then ⟨.reversed, some b, some revCount⟩ else ⟨.value, none, some fwdCount⟩
  | .band b, _ => ⟨.value, some b, some fwdCount⟩
  | _, _ => ⟨.value, none, some fwdCount⟩

/-! ## Table, span and clinch -/

/-- R109: the settle states, numbered as in byte 23 of Table 11-19. -/
inductive Settle where
  | moving | coarse | fine
  deriving DecidableEq, Repr, Inhabited

/-- R109: the settle state follows from the runs. -/
def Positioner.settle (p : Positioner) : Settle :=
  if p.coarseRun < Config.coarseFull then .moving
  else if p.fineRun < Config.fineFull then .coarse
  else .fine

/-- R111, R117: a target is held whose counts and q equal the step's table target and theta. -/
def Positioner.targetIs (p : Positioner) (c : StepContext) : Bool :=
  match p.target with
  | some t => decide (c.target = some (t.x, t.y)) && decide (t.q = c.theta)
  | none => false

/-- R111: the settle question. -/
def Positioner.settledFor (p : Positioner) (c : StepContext) : Bool :=
  decide (p.lock = none) && decide (p.settle = .fine) && p.targetIs c

/-- R115: the span question. -/
def Positioner.spanHolds (p : Positioner) (span : Nat) : Bool := p.spanReady && decide (p.spanTarget = some span)

/-- R122: the profile question. -/
def Head.profileHolds (h : Head) (p : Nat) : Bool :=
  h.ready && match h.output with
    | some o => decide (o.number = p) && decide (look h.profiles p = some o.values)
    | none => false

/-! ## Output lines -/

/-- SHAFT RUN: asserted while DRIVING, held negated during an emergency stop (Table 1-5, R166). -/
def Blocks.shaftRunLine (b : Blocks) : Bool := decide (b.shaft.drive = .driving) && !b.alarm.eStopActive

/-- SHAFT BRAKE (Table 1-5, R166). -/
def Blocks.shaftBrakeLine (b : Blocks) : Bool := decide (b.shaft.drive = .held) || b.alarm.eStopActive

/-- HEAD INHIBIT (R123, R166). -/
def Blocks.headInhibitLine (b : Blocks) : Bool := b.head.inhibit || b.alarm.eStopActive

/-- GATE FIRE (R99, R166). -/
def Blocks.gateFireLine (b : Blocks) : Bool := b.chain.gateFire && !b.alarm.eStopActive

/-- MEASURE DRIVE: the kind and the direction it is driven for, or none while released (R91, R92, R166). -/
def Blocks.measureDriveLine (b : Blocks) : Option (TestMode × Bool) :=
  if b.alarm.eStopActive then none
  else b.verifier.running.map fun m =>
    (m.kind.mode, match m.phase with | .reverse _ _ => false | _ => true)

/-- RANGE 0–1: the range code of the kind last measured. R91 sets the lines at a measurement's start and releases MEASURE
DRIVE alone at its end, so they are held until the next one; before the first they present 0 (DESIGN CHOICE, log entry 42). -/
def Blocks.rangeLines (b : Blocks) : Nat := b.verifier.range

def Direction.index : Direction → Nat
  | .inward => 0
  | .outward => 1
  | .cutOnly => 2

/-- PROFILE 0 to 5 as a number, bit `n` for PROFILE `n`: 0 while released (R121, R166). -/
def Blocks.profileLines (b : Blocks) : Nat :=
  if b.alarm.eStopActive then 0
  else match b.head.output with
    | none => 0
    | some o => 2 ^ o.values.direction.index + 8 * (o.values.cut % 4) + 32

/-- FEED READY: at least 2 of the 8 places of the input buffer are free (R179). -/
def LinkPort.feedReady (l : LinkPort) : Bool := decide (l.input.length + 2 ≤ Config.bufferPlaces)

/-- The link rate in bit/s (Table 11-1). -/
def Straps.rate (s : Straps) : Nat :=
  match s.rate1, s.rate0 with
  | false, false => 57600
  | false, true => 115200
  | true, false => 230400
  | true, true => 460800

end Sys2Proof.Machine
end

