-- ==== Sys2Proof/Machine/Operands.lean ====
section
/-! DEFINITION. Machine/Operands.lean: the bytes of the program link. Reading fields out of a payload, writing them into
one, the CRC and the frame (R176), the fields of each LOAD (Table 11-15), and the payload of every record the part sends
(11.8). -/

namespace Sys2Proof.Machine

/-! ## Fields of a payload -/

/-- Byte `i` of a payload. -/
def byteAt (p : List Byte) (i : Nat) : Nat := ((p[i]?).getD 0).toNat

/-- Bit `n` of byte `i`. -/
def bitAt (p : List Byte) (i n : Nat) : Bool := ((p[i]?).getD 0).getLsbD n

/-- A field of two bytes, high byte first (R176). -/
def u16At (p : List Byte) (i : Nat) : Nat := byteAt p i * 256 + byteAt p (i + 1)

/-- A field of three bytes. -/
def u24At (p : List Byte) (i : Nat) : Nat := u16At p i * 256 + byteAt p (i + 2)

/-- A field of four bytes. -/
def u32At (p : List Byte) (i : Nat) : Nat := u16At p i * 65536 + u16At p (i + 2)

/-- A number of `2 * half` values read in two's complement (R176). -/
def signedOf (half n : Nat) : Int := if n < half then (n : Int) else (n : Int) - 2 * half

def s16At (p : List Byte) (i : Nat) : Int := signedOf 32768 (u16At p i)

def s32At (p : List Byte) (i : Nat) : Int := signedOf 2147483648 (u32At p i)

/-! ## Writing fields -/

def byteOf (n : Nat) : Byte := BitVec.ofNat 8 n

def be16 (n : Nat) : List Byte := [byteOf (n / 256), byteOf n]

def be24 (n : Nat) : List Byte := [byteOf (n / 65536), byteOf (n / 256), byteOf n]

def be32 (n : Nat) : List Byte := [byteOf (n / 16777216), byteOf (n / 65536), byteOf (n / 256), byteOf n]

/-- A signed field of four bytes in two's complement. -/
def beSigned32 (x : Int) : List Byte := be32 (x % 4294967296).toNat

/-- The weight of bit `n` of a byte, when set. -/
def flag (set : Bool) (n : Nat) : Nat := if set then 2 ^ n else 0

/-- A number that may be absent, and is then sent as 0 (11.8). -/
def orZero (n : Option Nat) : Nat := n.getD 0

/-! ## The frame (R176) -/

/-- One bit of the CRC: shift left, and combine with x^12 + x^5 + 1 when the bit shifted out is set. -/
def crcBit (crc : BitVec 16) : BitVec 16 := if crc.msb then (crc <<< 1) ^^^ 0x1021#16 else crc <<< 1

/-- One byte of the CRC, highest bit first. -/
def crcByte (crc : BitVec 16) (x : Byte) : BitVec 16 :=
  (List.range 8).foldl (fun c _ => crcBit c) (crc ^^^ (x.zeroExtend 16 <<< 8))

/-- R176: the CRC-16 over type, length and payload, from the initial value FFFFh. -/
def crcOf (xs : List Byte) : BitVec 16 := xs.foldl crcByte 0xFFFF#16

/-- The CRC of a record. -/
def Record.crc (r : Record) : BitVec 16 := crcOf (r.type :: byteOf r.payload.length :: r.payload)

/-- Table 11-8: the record's frame. -/
def Record.frame (r : Record) : List Byte :=
  0xA5#8 :: r.type :: byteOf r.payload.length :: (r.payload ++ be16 r.crc.toNat)

/-! ## Types of records (Table 11-3) -/

def typeBoardStart : Byte := 0x01#8
def typeStep : Byte := 0x02#8
def typeBoardEnd : Byte := 0x03#8
def typeBadImage : Byte := 0x04#8
def typeLoad : Byte := 0x10#8
def typeRead : Byte := 0x11#8
def typeControl : Byte := 0x12#8
def typeAcknowledge : Byte := 0x13#8
def typeQuery : Byte := 0x14#8
def typeReturnCredit : Byte := 0x1F#8

/-- The rows of the command table that take a record, by the record's type and, for a LOAD or a CONTROL, its table id or
subcommand. A record that no row names falls to `other` (log entry 8). -/
inductive Row where
  | boardStart | step | boardEnd | badImage
  | load (table : Nat)
  | read
  | control (subcommand : Nat)
  | acknowledge
  | query
  | other
  deriving DecidableEq, Repr, Inhabited

/-- The row that takes a record. -/
def Record.row (r : Record) : Row :=
  if r.type = typeBoardStart then .boardStart
  else if r.type = typeStep then .step
  else if r.type = typeBoardEnd then .boardEnd
  else if r.type = typeBadImage then .badImage
  else if r.type = typeLoad then
    if 1 ≤ r.payload.length ∧ byteAt r.payload 0 ≤ 10 then .load (byteAt r.payload 0) else .other
  else if r.type = typeRead then .read
  else if r.type = typeControl then
    if 1 ≤ r.payload.length ∧ byteAt r.payload 0 ≤ 7 then .control (byteAt r.payload 0) else .other
  else if r.type = typeAcknowledge then .acknowledge
  else if r.type = typeQuery then .query
  else .other

/-- R180: the stream records. -/
def Record.isStream (r : Record) : Bool :=
  match r.row with
  | .boardStart | .step | .boardEnd | .badImage => true
  | _ => false

/-- R180: a CONTROL record with the RESET subcommand, of the length its layout gives. One of another length, which is no
RESET but a record to be refused RANGE (R181), waits while no place is free, like every other record (R180 does not say;
DESIGN CHOICE, log entry 50). -/
def Record.isReset (r : Record) : Bool := decide (r.row = .control 7) && decide (r.payload.length = 2)

/-! ## Refusals (Tables 11-5 and 11-18) -/

/-- Table 11-5: refusal reasons, numbered from 0 in its order. -/
inductive RefusalReason where
  | busy | range | noBoard | boardOpen | sequence | tier | countMismatch | state | alarmsOutstanding | notLatched
  | fixed | config | unknownType
  deriving DecidableEq, Repr, Inhabited

def RefusalReason.code : RefusalReason → Nat
  | .busy => 0 | .range => 1 | .noBoard => 2 | .boardOpen => 3 | .sequence => 4 | .tier => 5 | .countMismatch => 6
  | .state => 7 | .alarmsOutstanding => 8 | .notLatched => 9 | .fixed => 10 | .config => 11 | .unknownType => 12

/-- Table 11-18: the forms of a refusal's detail. -/
inductive Detail where
  | none
  | entry (table : Nat) (index : Nat)
  | field (byte : Nat)
  | number (n : Nat)
  deriving DecidableEq, Repr, Inhabited

/-- Table 11-18: bytes 2 to 6 of a REFUSAL. -/
def Detail.bytes : Detail → List Byte
  | .none => [0, 0, 0, 0, 0]
  | .entry table index => byteOf 1 :: byteOf table :: (be16 index ++ [0])
  | .field byte => [byteOf 2, byteOf byte, 0, 0, 0]
  | .number n => byteOf 3 :: be32 n

/-- Table 11-18: the REFUSAL of a record of the given type. -/
def refusal (type : Byte) (reason : RefusalReason) (detail : Detail) : Record :=
  { type := 0x84#8, payload := type :: byteOf reason.code :: detail.bytes }

/-! ## LOAD contents (Table 11-15) -/

def sourceIdsAt (p : List Byte) : List Nat := (List.range (byteAt p 15)).map (fun i => byteAt p (16 + i))

/-- R37: the first field of a kind LOAD that fails, in the order of Table 3-1, as the payload byte at which it begins
(log entry 10), or none. -/
def kindFieldFault (p : List Byte) : Option Nat :=
  let count := byteAt p 5
  let rangeFails := fun lo hi => decide (count ≤ hi) || decide (hi < lo)
  let ids := sourceIdsAt p
  let tests : List (Bool × Nat) :=
    [ (decide (4 < byteAt p 2 % 8), 2), (decide (3 < byteAt p 3), 3),
      (decide (127 < byteAt p 4) || decide (count = 0) || decide (32 < count), 4),
      (rangeFails (byteAt p 6) (byteAt p 7), 6),
      (bitAt p 8 0 && rangeFails (byteAt p 9) (byteAt p 10), 8),
      (decide (u16At p 11 < 50) || decide (300 < u16At p 11), 11), (decide (15 < byteAt p 13), 13),
      (decide (1 < byteAt p 14), 14),
      (decide (byteAt p 15 = 0) || decide (4 < byteAt p 15) || ids.any (fun d => decide (95 < d)) || !decide ids.Nodup, 15),
      (decide (1 < byteAt p 20), 20), (decide (byteAt p 21 ≠ 255) && decide (byteAt p 15 ≤ byteAt p 21), 21),
      (decide (63 < byteAt p 22), 22) ]
  (tests.find? Prod.fst).map Prod.snd

def testModeOf : Nat → TestMode
  | 0 => .resistive | 1 => .capacitive | 2 => .diode | 3 => .jumper | _ => .none

def TestMode.code : TestMode → Nat
  | .resistive => 0 | .capacitive => 1 | .diode => 2 | .jumper => 3 | .none => 4

def policyOf (n : Nat) : Policy := if n = 0 then .stop else .mark

def Policy.code : Policy → Nat
  | .stop => 0 | .mark => 1

/-- Table 11-15, id 2: the fields of a kind LOAD. -/
def kindOfBytes (p : List Byte) : Kind :=
  { mode := testModeOf (byteAt p 2 % 8), range := byteAt p 3, bandStart := byteAt p 4, bandCount := byteAt p 5,
    expectedLo := byteAt p 6, expectedHi := byteAt p 7,
    alternate := if bitAt p 8 0 then some (byteAt p 9, byteAt p 10) else none,
    span := u16At p 11, profile := byteAt p 13, policy := policyOf (byteAt p 14), sources := sourceIdsAt p,
    selection := if byteAt p 20 = 0 then .fill else .spread,
    pin := if byteAt p 21 = 255 then none else some (byteAt p 21), statistics := byteAt p 22 }

/-- Table 11-15, id 2: the contents of a kind from byte 2 of a LOAD on. -/
def Kind.bytes (k : Kind) : List Byte :=
  [byteOf k.mode.code, byteOf k.range, byteOf k.bandStart, byteOf k.bandCount, byteOf k.expectedLo,
    byteOf k.expectedHi, byteOf (flag k.alternate.isSome 0), byteOf (k.alternate.getD (0, 0)).1,
    byteOf (k.alternate.getD (0, 0)).2]
  ++ be16 k.span ++ [byteOf k.profile, byteOf k.policy.code, byteOf k.sources.length]
  ++ (List.range 4).map (fun i => byteOf (orZero k.sources[i]?))
  ++ [byteOf (if k.selection = .fill then 0 else 1), byteOf (k.pin.getD 255), byteOf k.statistics]

/-- Table 11-15, id 6: the fields of a table configuration LOAD; a coarse window below the fine window is taken as
equal to it (R103). -/
def tableConfigOfBytes (p : List Byte) : TableConfig :=
  { loaded := true, kx := u16At p 2, ky := u16At p 4, hx := u16At p 6, hy := u16At p 8, rx := u16At p 10,
    ry := u16At p 12, xMin := s32At p 14, xMax := s32At p 18, yMin := s32At p 22, yMax := s32At p 26,
    fine := byteAt p 30, coarse := max (byteAt p 31) (byteAt p 30) }

/-- R103: the first field of Table 6-2 that fails, as the payload byte at which it begins, or none. Table 6-2 has pairs as one
field where Table 11-15 numbers their members: of the scale the member that is 0 is named, kx first, and of a limit pair its
min (DESIGN CHOICE, log entry 53). A Wc of 0 is outside Table 6-2's values and is also below every Wf, which R103 takes as Wf
without refusal: it is refused (DESIGN CHOICE, log entry 67). -/
def tableConfigFault (p : List Byte) : Option Nat :=
  let tests : List (Bool × Nat) :=
    [ (decide (u16At p 2 = 0), 2), (decide (u16At p 4 = 0), 4), (decide (s32At p 18 < s32At p 14), 14),
      (decide (s32At p 26 < s32At p 22), 22), (decide (byteAt p 30 = 0), 30), (decide (byteAt p 31 = 0), 31) ]
  (tests.find? Prod.fst).map Prod.snd

def TableConfig.bytes (t : TableConfig) : List Byte :=
  be16 t.kx ++ be16 t.ky ++ be16 t.hx ++ be16 t.hy ++ be16 t.rx ++ be16 t.ry
  ++ beSigned32 t.xMin ++ beSigned32 t.xMax ++ beSigned32 t.yMin ++ beSigned32 t.yMax
  ++ [byteOf t.fine, byteOf t.coarse]

def directionOf : Nat → Direction
  | 0 => .inward | 1 => .outward | _ => .cutOnly

def alarmClassOf : Nat → AlarmClass
  | 0 => .note | 1 => .holdFeed | 2 => .stopAtPark | _ => .stopNow

def AlarmClass.code : AlarmClass → Nat
  | .note => 0 | .holdFeed => 1 | .stopAtPark => 2 | .stopNow => 3

def countEventOf : Nat → CountEvent
  | 1 => .advance | 2 => .dwell | 3 => .fire | 4 => .verifyPass | 5 => .verifyFail | 6 => .divert | 7 => .strip
  | 8 => .insert | 9 => .misinsert | 10 => .makeUp | 11 => .alarmOccurrence | 12 => .chainOccupancy
  | 13 => .queueDepth | 14 => .frontier | _ => .none

def CountEvent.code : CountEvent → Nat
  | .none => 0 | .advance => 1 | .dwell => 2 | .fire => 3 | .verifyPass => 4 | .verifyFail => 5 | .divert => 6
  | .strip => 7 | .insert => 8 | .misinsert => 9 | .makeUp => 10 | .alarmOccurrence => 11 | .chainOccupancy => 12
  | .queueDepth => 13 | .frontier => 14

/-- Table 11-15, id 9: an event counter as a LOAD leaves it (R167). -/
def counterOfBytes (p : List Byte) : EventCounter :=
  { event := countEventOf (byteAt p 2), matchA := byteAt p 3, matchB := byteAt p 4, threshold := byteAt p 5,
    invert := bitAt p 6 2, edge := bitAt p 6 1, limit := u32At p 7, enable := bitAt p 6 0,
    value := 0, occurred := false, previous := false, limitReported := false }

def EventCounter.bytes (c : EventCounter) : List Byte :=
  [byteOf c.event.code, byteOf c.matchA, byteOf c.matchB, byteOf c.threshold,
    byteOf (flag c.invert 2 + flag c.edge 1 + flag c.enable 0)] ++ be32 c.limit

def resumeChoiceOf : Nat → ResumeChoice
  | 0 => .reinsert | 1 => .accept | _ => .mark

def ResumeChoice.code : ResumeChoice → Nat
  | .reinsert => 0 | .accept => 1 | .mark => 2

/-! ## Records the part sends -/

def StepOutcome.code : StepOutcome → Nat
  | .inserted => 0 | .misinserted => 1 | .skippedBadImage => 2 | .skippedOutOfField => 3 | .failed => 4 | .aborted => 5

def VerifyResult.code : VerifyResult → Nat
  | .pass => 0 | .passAlt => 1 | .value => 2 | .opened => 3 | .short => 4 | .missing => 5 | .reversed => 6

/-- Tables 2-6 and 11-10: the STEP RESULT of a context. -/
def StepContext.resultRecord (c : StepContext) : Record :=
  let count := c.verify.bind VerifyRecord.count
  { type := 0x81#8,
    payload := be16 c.number
      ++ [byteOf (match c.outcome with | some o => o.code | none => 0), byteOf (c.source.getD 255),
          byteOf (flag c.slip 7 + flag c.passAlt 6 + flag c.badImage 5 + flag c.operator 4 + flag count.isSome 3
            + c.makeUps % 8),
          byteOf (match c.verify with | some v => v.result.code | none => 255),
          byteOf ((c.verify.bind VerifyRecord.band).getD 255)]
      ++ be16 (orZero count) }

/-- R36, Table 11-17: the BOARD RESULT of a board. -/
def Board.resultRecord (b : Board) : Record :=
  { type := 0x82#8,
    payload := be32 b.id ++ [byteOf (if b.endStatus = .complete then 0 else 1)] ++ be24 b.tallies.accepted
      ++ be24 b.tallies.inserted ++ be24 b.tallies.misinserted ++ be24 b.tallies.skipped ++ be24 b.tallies.failed
      ++ be24 b.tallies.aborted ++ be24 b.tallies.makeUps }

def AlarmState.code : AlarmState → Nat
  | .idle => 0 | .active => 1 | .latched => 2

/-- R145, Table 11-11: the ALARM NOTICE of a code, from its entry as it stands. -/
def AlarmEntry.noticeRecord (e : AlarmEntry) (code : Nat) : Record :=
  { type := 0x83#8,
    payload := [byteOf code,
        byteOf (e.cls.code * 64 + e.state.code * 16 + flag e.ackPending 3 + flag e.context.step.isSome 2
          + flag e.context.dispenser.isSome 1 + flag e.context.kind.isSome 0),
        byteOf e.count]
      ++ be16 (orZero e.context.step) ++ [byteOf (orZero e.context.dispenser), byteOf (orZero e.context.kind)] }

/-- A READ REPLY: table id, index, loaded bit and contents (11.8). -/
def readReply (table index : Nat) (loaded : Bool) (contents : List Byte) : Record :=
  { type := 0x85#8, payload := byteOf table :: byteOf index :: byteOf (flag loaded 0) :: contents }

/-- Table 11-16, id 8. -/
def AlarmEntry.readBytes (e : AlarmEntry) (code : Nat) : List Byte :=
  [byteOf e.cls.code,
    byteOf (flag (!isLevelCode code) 7 + flag e.noticePending 6 + e.state.code * 16 + flag e.ackPending 3
      + flag e.context.step.isSome 2 + flag e.context.dispenser.isSome 1 + flag e.context.kind.isSome 0),
    byteOf e.count]
  ++ be16 (orZero e.context.step) ++ [byteOf (orZero e.context.dispenser), byteOf (orZero e.context.kind)]

def ReelState.code : ReelState → Nat
  | .loaded => 0 | .low => 1 | .empty => 2

def Condition.code : Condition → Nat
  | .operational => 0 | .proving => 1 | .suspect => 2

/-- Table 11-16, id 11. -/
def Dispenser.readBytes (d : Dispenser) (available : Bool) : List Byte :=
  be16 d.count
  ++ [byteOf d.reel.code, byteOf d.condition.code, byteOf d.missing, byteOf d.badPart,
      byteOf (flag d.jammed 0 + flag d.proving 1 + flag d.lowReported 2 + flag d.outReported 3 + flag available 4)]

/-- Table 11-16, id 12, with the ids of the kind's available sources. -/
def KindEntry.readBytes (k : KindEntry) (available : List Nat) : List Byte :=
  [byteOf k.lastUsed, byteOf (flag k.noSource 0), byteOf available.length]
  ++ (List.range 4).map (fun i => byteOf ((available[i]?).getD 255))

def VerifyState.code : VerifyState → Nat
  | .unmeasured => 0 | .passed => 1 | .failed => 2

def Disposition.code : Disposition → Nat
  | .insert => 0 | .divert => 1 | .strip => 2

/-- Table 11-16, id 13: 0 absent, then 1 to 8 in the order of Table 5-2. -/
def Reason.code : Reason → Nat
  | .verify => 1 | .missing => 2 | .stray => 3 | .deselected => 4 | .purge => 5 | .orphan => 6 | .tier => 7
  | .gateFail => 8

/-- Table 11-16, id 13. -/
def Slot.readBytes (s : Slot) (pitch : Nat) : List Byte :=
  match s with
  | .empty => byteOf pitch :: List.replicate 9 0
  | .reserved n d =>
    [byteOf pitch, 1, byteOf 3] ++ be16 n ++ [byteOf d, 0, 0, 0, 0]
  | .occupied c =>
    [byteOf pitch, 2, byteOf (flag c.step.isSome 0 + flag c.source.isSome 1 + flag c.kind.isSome 2)]
    ++ be16 (orZero c.step)
    ++ [byteOf (orZero c.source), byteOf (orZero c.kind), byteOf c.verify.code, byteOf c.disposition.code,
        byteOf (match c.reason with | some r => r.code | none => 0)]

/-- Table 11-16, id 14, one counter. -/
def EventCounter.readBytes (c : EventCounter) : List Byte :=
  be32 c.value ++ [byteOf (flag c.occurred 0 + flag c.previous 1 + flag c.limitReported 2)]

def MachineState.code : MachineState → Nat
  | .stopped => 0 | .homing => 1 | .waiting => 2 | .cycling => 3 | .halted => 4 | .recovering => 5 | .purging => 6

def BoardPhase.code : BoardPhase → Nat
  | .none => 0 | .opened => 1 | .closing => 2

def StopCause.code : StopCause → Nat
  | .empty => 0 | .noSource => 1 | .horizon => 2 | .held => 3 | .machine => 4 | .frozen => 5

def Settle.code : Settle → Nat
  | .moving => 0 | .coarse => 1 | .fine => 2

/-- R117: the current target equals the target of the step named by the slot at offset 0. -/
def Blocks.targetAtHead (b : Blocks) : Bool :=
  match (b.chain.slotAt 0).step?.bind b.board.context? with
  | some c => b.positioner.targetIs c
  | none => false

/-- Bytes 0 to 22 of Table 11-19: shaft monitor, board manager, planner and chain tracker. -/
def statusChain (b : Blocks) : List Byte :=
  be16 b.shaft.angle ++ [byteOf (flag b.shaft.registered 7 + b.shaft.machine.code), byteOf b.board.phase.code]
  ++ be32 (if b.board.standing then b.board.id else 0) ++ be24 b.board.expectedStep ++ be16 b.board.window.length
  ++ be16 b.board.queue.length ++ be16 (orZero b.board.queue.head?)
  ++ [byteOf b.chain.frontierPlus,
      byteOf (b.planner.stopCause.code + flag b.planner.freeze 4 + flag (decide (2 ≤ b.alarm.demand)) 5
        + flag b.board.queue.head?.isSome 6),
      byteOf b.chain.pointer, byteOf b.chain.reservedCount, byteOf b.chain.occupiedCount,
      byteOf (flag b.chain.grant 0 + flag b.chain.stripPending.isSome 1)]

/-- Bytes 23 to 44 of Table 11-19: table positioner. -/
def statusTable (b : Blocks) : List Byte :=
  let p := b.positioner
  [byteOf p.settle.code, byteOf p.coarseRun, byteOf p.fineRun, byteOf p.silence,
    byteOf (match p.target with | some _ => p.targetNumber | none => 0)]
  ++ beSigned32 (match p.target with | some t => t.x | none => 0)
  ++ beSigned32 (match p.target with | some t => t.y | none => 0)
  ++ [byteOf ((match p.target with | some t => t.q | none => 0) % 4 + flag p.target.isSome 2 + flag p.lock.isSome 3
      + flag p.candidate.isSome 4 + flag p.spanTarget.isSome 5 + flag p.spanReady 6 + flag b.targetAtHead 7)]
  ++ be16 (match p.target with | some t => t.served | none => 0)
  ++ be16 (orZero p.candidate) ++ be16 (orZero p.lock) ++ be16 (orZero p.spanTarget)

/-- Bytes 45 to 49 of Table 11-19: head and clinch controller. -/
def statusHead (b : Blocks) : List Byte :=
  let h := b.head
  [byteOf (flag b.headInhibitLine 0 + flag h.record.isSome 1 + flag h.upAwaited 2 + flag h.output.isSome 3
      + flag h.ready 4),
    byteOf (match h.record with
      | some r => flag r.jaws 5 + flag r.down 4 + flag r.returned 3 + flag r.leadA 2 + flag r.leadB 1 + flag r.up 0
      | none => 0)]
  ++ be16 (match h.record with | some r => r.step | none => 0)
  ++ [byteOf (match h.output with | some o => o.number | none => 0)]

/-- Bytes 50 to 56 of Table 11-19: alarm controller. -/
def statusAlarm (b : Blocks) : List Byte :=
  let a := b.alarm
  [byteOf (a.presented.getD 255),
    byteOf ((match a.presented with
        | some code => (look a.codes code).cls.code * 64 + (look a.codes code).state.code * 16
            + flag (look a.codes code).ackPending 3
        | none => 0) + a.demand),
    byteOf (match a.presented with | some code => (look a.codes code).count | none => 0),
    byteOf (flag a.lampAlarm 2 + flag a.lampHold 1 + flag b.shaft.lampRun 0),
    byteOf (a.countState .active), byteOf (a.countState .latched), byteOf a.notices.length]

/-- R181, Table 11-19: the STATUS REPLY. -/
def statusReply (b : Blocks) (l : LinkPort) : Record :=
  { type := 0x86#8,
    payload := statusChain b ++ statusTable b ++ statusHead b ++ statusAlarm b
      ++ [byteOf l.credit, byteOf l.input.length, byteOf l.upstream.length] }

end Sys2Proof.Machine
end

