-- ==== Sys2Proof/Machine/Ops.lean ====
section
/-! DEFINITION. Machine/Ops.lean: the shared operations that change the alarm table, the production counters, the step
window, the table positioner and the chain map, without their consequences for the shaft and the planner: those are in
Machine/React.lean and Machine/Planning.lean. An operation that may make a planning event due returns it as a flag beside
the blocks. -/

namespace Sys2Proof.Machine

/-! ## Production counters (chapter 10) -/

/-- What a report to the production counters carries (Table 10-1): nothing, or a kind or alarm code, which may be none. -/
inductive Carry where
  | plain
  | tagged (tag : Option Nat)
  deriving DecidableEq, Repr, Inhabited

/-- R168: the report matches the counter's match fields. -/
def EventCounter.accepts (c : EventCounter) : Carry → Bool
  | .plain => true
  | .tagged none => decide (c.matchA = 255 ∨ c.matchB = 255)
  | .tagged (some k) => decide (c.matchA = k ∨ c.matchB = k ∨ c.matchA = 255 ∨ c.matchB = 255)

/-- R171: an addition to a counter, and whether it raises COUNTER LIMIT. -/
def EventCounter.add (c : EventCounter) (n : Nat) : EventCounter × Bool :=
  let value := min (c.value + n) Config.counterTop
  let hit := decide (c.limit ≠ 0) && decide (c.limit ≤ value) && !c.limitReported
  ({ c with value := value, limitReported := c.limitReported || hit }, hit)

/-- R168: a counter takes a report of a simple event. -/
def EventCounter.takeReport (event : CountEvent) (carry : Carry) (c : EventCounter) : EventCounter × Bool :=
  if c.enable = true ∧ c.event = event ∧ c.accepts carry = true then
    if c.edge then ({ c with occurred := true }, false) else c.add 1
  else (c, false)

/-- The counters after each takes `f`, and the COUNTER LIMIT codes so raised (R171: 28 to 31), in ascending counter number,
the order in which they occur and join the notice list (R146 and R171 give none; log entry 44). -/
def takeEach (events : Vector EventCounter 4) (f : EventCounter → EventCounter × Bool) :
    Vector EventCounter 4 × List Nat :=
  (events.map (fun c => (f c).1), ((List.range 4).filter (fun n => (f (look events n)).2)).map (28 + ·))

/-! ## Alarm occurrences (8.2, 8.3) -/

/-- R146: a notice for a code is made. -/
def Alarm.makeNotice (a : Alarm) (code : Nat) : Alarm :=
  if (look a.codes code).noticePending then a
  else { codes := adjust a.codes code (fun e => { e with noticePending := true }), notices := a.notices ++ [code] }

/-- R138: an occurrence of an EDGE code. A code that is not IDLE is counted and makes no notice. -/
def Alarm.occur (a : Alarm) (code : Nat) (context : AlarmContext) : Alarm :=
  if (look a.codes code).state = .idle then
    ({ a with codes := adjust a.codes code (fun e => { e with state := .latched, count := 1, context := context }) }
      ).makeNotice code
  else
    let again := fun e : AlarmEntry => { e with count := min (e.count + 1) Config.occurrenceTop, context := context }
    { a with codes := adjust a.codes code again }

/-- R138, R171: occurrences are taken one after another; each is reported to the counters, and a COUNTER LIMIT that the
report raises is taken next, before the codes that still wait (R171 gives several codes of one report and what follows from
them no order; DESIGN CHOICE, log entry 65). `fuel` bounds their number: each counter reports its limit once. -/
def raiseAll : Nat → List (Nat × AlarmContext) → Blocks → Blocks
  | 0, _, b => b
  | _ + 1, [], b => b
  | fuel + 1, (code, context) :: rest, b =>
    let report := takeEach b.counters.events (EventCounter.takeReport .alarmOccurrence (.tagged (some code)))
    raiseAll fuel (report.2.map (fun n => (n, AlarmContext.mk none none none)) ++ rest)
      ((b.onAlarm (fun a => a.occur code context)).onCounters (fun c => { c with events := report.1 }))

/-- An occurrence of an EDGE code reaches the alarm table and the counters (R138). What the demand then asks of the other
blocks is `react`'s. -/
def raise (code : Nat) (context : AlarmContext) (b : Blocks) : Blocks := raiseAll 6 [(code, context)] b

/-- COUNTER LIMIT occurrences (R171). -/
def raiseLimits (codes : List Nat) (b : Blocks) : Blocks :=
  raiseAll 10 (codes.map (fun n => (n, AlarmContext.mk none none none))) b

/-- A report of a simple event to the event counters (R168). -/
def countEvent (event : CountEvent) (carry : Carry) (b : Blocks) : Blocks :=
  let report := takeEach b.counters.events (EventCounter.takeReport event carry)
  raiseLimits report.2 (b.onCounters (fun c => { c with events := report.1 }))

/-- A counter of chapter 10 raised by one, and no higher than its top. -/
def bump (n : Nat) : Nat := min (n + 1) Config.counterTop

/-- R174: one count of the statistics block that a kind's entry names is raised; an unloaded kind names no block. -/
def countStatistics (f : Statistics → Statistics) (kind : Nat) (b : Blocks) : Blocks :=
  match b.source.kind? kind with
  | none => b
  | some k => b.onCounters (fun c => { c with statistics := adjust c.statistics k.statistics f })

/-- A FIRE report (Table 10-1). -/
def reportFire (kind : Nat) (b : Blocks) : Blocks :=
  countStatistics (fun t => { t with fired := bump t.fired }) kind (countEvent .fire (.tagged (some kind)) b)

/-- An INSERT report (Table 10-1). -/
def reportInsert (kind : Nat) (b : Blocks) : Blocks :=
  countStatistics (fun t => { t with inserted := bump t.inserted }) kind (countEvent .insert (.tagged (some kind)) b)

/-- A MISINSERT report (Table 10-1). -/
def reportMisinsert (kind : Nat) (b : Blocks) : Blocks :=
  countStatistics (fun t => { t with misinsert := bump t.misinsert }) kind
    (countEvent .misinsert (.tagged (some kind)) b)

/-- A VERIFY PASS or VERIFY FAIL report (Table 10-1). -/
def reportVerify (passed : Bool) (kind : Nat) (b : Blocks) : Blocks :=
  if passed then countEvent .verifyPass (.tagged (some kind)) b
  else
    countStatistics (fun t => { t with verifyFail := bump t.verifyFail }) kind
      (countEvent .verifyFail (.tagged (some kind)) b)

/-- R139: the entry of a LEVEL code whose condition appears. -/
def AlarmEntry.appeared (e : AlarmEntry) : AlarmEntry :=
  let count := if e.state = .idle then 1 else min (e.count + 1) Config.occurrenceTop
  let context := if e.state = .idle then ⟨none, none, none⟩ else e.context
  { e with state := .active, ackPending := false, count := count, context := context }

/-- R139: the alarm table at the appearance of a LEVEL condition. -/
def Alarm.appear (a : Alarm) (code : Nat) : Alarm :=
  ({ a with codes := adjust a.codes code AlarmEntry.appeared }).makeNotice code

/-- R139: the appearance of a LEVEL condition, reported to the counters. An ACTIVE code already stands and takes none. -/
def appear (code : Nat) (b : Blocks) : Blocks :=
  if (look b.alarm.codes code).state = .active then b
  else
    countEvent .alarmOccurrence (.tagged (some code)) (b.onAlarm fun a => a.appear code)

/-- R139: the entry of an ACTIVE code whose condition clears. -/
def AlarmEntry.cleared (e : AlarmEntry) : AlarmEntry :=
  { e with state := if e.ackPending then .idle else .latched, ackPending := false }

/-- R139: the clearing of a LEVEL condition. -/
def Alarm.clear (a : Alarm) (code : Nat) : Alarm :=
  if (look a.codes code).state = .active then
    ({ a with codes := adjust a.codes code AlarmEntry.cleared }).makeNotice code
  else a

/-- R140: an acknowledgement of a code that is not IDLE. -/
def Alarm.acknowledge (a : Alarm) (code : Nat) : Alarm :=
  match (look a.codes code).state with
  | .idle => a
  | .latched => ({ a with codes := adjust a.codes code fun e => { e with state := .idle } }).makeNotice code
  | .active => { a with codes := adjust a.codes code fun e => { e with ackPending := true } }

/-! ## Step window (chapter 2) -/

/-- The context of step `n` changed by `f`. -/
def Blocks.onStep (b : Blocks) (n : Nat) (f : StepContext → StepContext) : Blocks :=
  b.onBoard fun d => { d with window := d.window.map (fun c => if c.number = n then f c else c) }

/-- The context of step `n`. -/
def Blocks.context? (b : Blocks) (n : Nat) : Option StepContext := b.board.context? n

/-- R28: the tally of an outcome, and the make-ups, raised. -/
def Tallies.resolve (t : Tallies) (o : StepOutcome) (makeUps : Nat) : Tallies :=
  let t := { t with makeUps := t.makeUps + makeUps }
  match o with
  | .inserted => { t with inserted := t.inserted + 1 }
  | .misinserted => { t with misinserted := t.misinserted + 1 }
  | .skippedBadImage | .skippedOutOfField => { t with skipped := t.skipped + 1 }
  | .failed => { t with failed := t.failed + 1 }
  | .aborted => { t with aborted := t.aborted + 1 }

/-- R28: an unresolved step is resolved; it joins the tail of the report order. -/
def resolve (n : Nat) (o : StepOutcome) (b : Blocks) : Blocks :=
  match b.context? n with
  | none => b
  | some c =>
    if c.state = .resolved then b
    else
      (b.onStep n fun c => { c with state := .resolved, slot := none, outcome := some o }).onBoard fun d =>
        { d with tallies := d.tallies.resolve o c.makeUps, reportOrder := d.reportOrder ++ [n] }

/-- A number put into an ascending list before the first that is not below it. -/
def insertAscending (n : Nat) : List Nat → List Nat
  | [] => [n]
  | m :: rest => if n ≤ m then n :: m :: rest else m :: insertAscending n rest

/-- The numbers of a list in ascending order. -/
def ascending (l : List Nat) : List Nat := l.foldr insertAscending []

/-- R28: the resolutions in the report order after its first `n` put in ascending step number. -/
def Board.orderReports (n : Nat) (d : Board) : Board :=
  { d with reportOrder := d.reportOrder.take n ++ ascending (d.reportOrder.drop n) }

/-- R28: the end of an event that began with `before`: the steps it has resolved, those of a brake that it called for among
them, have joined the report order in ascending step number. -/
def orderReports (before after : Blocks) : Blocks := after.onBoard (Board.orderReports before.board.reportOrder.length)

/-- R32: a step of a bad image is resolved SKIPPED-BAD-IMAGE with the BAD-IMAGE flag set. -/
def resolveBadImage (n : Nat) (b : Blocks) : Blocks :=
  resolve n .skippedBadImage (b.onStep n fun c => { c with badImage := true })

/-- R26, R69, R74: a step returns to QUEUED; its slot becomes absent and its dwell count 0. -/
def StepContext.requeue (c : StepContext) : StepContext := { c with state := .queued, slot := none, dwell := 0 }

/-! ## Chain map (chapter 5) -/

/-- The slot of a pitch replaced. -/
def Blocks.setSlot (b : Blocks) (pitch : Nat) (s : Slot) : Blocks :=
  b.onChain fun c => { c with slots := c.slots.set pitch s }

/-! ## Table positioner and profile outputs (chapters 6 and 7) -/

/-- R121: the controller compares the profile output with entry `p` and drives, releases or leaves it. -/
def Head.compareProfile (h : Head) (p : Nat) : Head :=
  match look h.profiles p with
  | some v =>
    if h.output = some ⟨p, v⟩ then h
    else { h with output := some ⟨p, v⟩, ready := false, driven := true }
  | none => { h with output := none, ready := false }

/-- R115: a span differing from the span target is sent. -/
def applySpan (span : Nat) (b : Blocks) : Blocks :=
  if b.positioner.spanTarget = some span then b
  else
    (b.onPositioner fun p => { p with spanTarget := some span, spanReady := false, spanSent := true }).emit
      (.spanValue span)

/-- R107: the command of the current target. -/
def Positioner.command (p : Positioner) (t : Target) : Emission := .targetCommand p.targetNumber t.x t.y t.q

/-- R107, R114: a new current target: its number is raised, from 255 to 0, and the settle starts again. The time without a
sample of the current number starts again from 0 with the new number (R107 does not say when it starts; DESIGN CHOICE, log
entry 51). -/
def Positioner.aim (p : Positioner) (t : Target) : Positioner :=
  let number := (p.targetNumber + 1) % 256
  { p with targetNumber := number, target := some t, coarseRun := 0, fineRun := 0, unmatched := 0 }

/-- R114: the candidate's target becomes the current target, or the step served changes. -/
def applyTarget (c : StepContext) (b : Blocks) : Blocks :=
  match c.target with
  | none => b
  | some xy =>
    if b.positioner.targetIs c then
      b.onPositioner fun p => { p with target := p.target.map fun t => { t with served := c.number } }
    else
      let target : Target := ⟨xy.1, xy.2, c.theta, c.number⟩
      let b := b.onPositioner fun p => p.aim target
      b.emit (b.positioner.command target)

/-- R112: the candidate, the step named by the OCCUPIED slot of lowest offset with disposition INSERT whose step is
FIRED or VERIFIED. -/
def Blocks.candidate (b : Blocks) : Option Nat :=
  ((List.range b.chain.length).filterMap fun j =>
    match b.chain.slotAt j with
    | .occupied o =>
      if o.disposition = .insert then
        match o.step.bind b.context? with
        | some c => if c.state = .fired ∨ c.state = .verified then some c.number else none
        | none => none
      else none
    | _ => none).head?

/-- R114, R115, R121: a candidate is applied. -/
def applyCandidate (n : Nat) (b : Blocks) : Blocks :=
  match b.context? n with
  | none => b
  | some c =>
    let b := applyTarget c b
    match b.source.kind? c.kind with
    | none => b
    | some k =>
      (applySpan k.span b).onHead fun h => { h.compareProfile k.profile with handed := some k.profile }

/-- R112: the positioner chooses the candidate afresh and, while the lock is FREE, applies it. With no candidate nothing is
handed over and the profile output is not compared (log entry 43). -/
def choose (b : Blocks) : Blocks :=
  let candidate := b.candidate
  let b := b.onPositioner fun p => { p with candidate := candidate }
  match candidate, b.positioner.lock with
  | some n, none => applyCandidate n b
  | _, _ => b

/-- R113: the lock is released, and the candidate chosen afresh. A LOAD of table 7 taken under the lock is compared by this
handover (R121); with no candidate to hand over it is compared at the next handover (log entry 43). -/
def releaseLock (b : Blocks) : Blocks :=
  if b.positioner.lock.isSome then
    choose (b.onPositioner fun p => { p with lock := none, lockKind := none, slipReported := false })
  else b

/-! ## Dispensers (chapter 3) -/

/-- The entry of dispenser `d` changed by `f`. -/
def Blocks.onDispenser (b : Blocks) (d : Nat) (f : Dispenser → Dispenser) : Blocks :=
  b.onSource fun s => { s with dispensers := adjust s.dispensers d f }

/-- R45: REEL LOW is reported once. -/
def reportLow (d : Nat) (b : Blocks) : Blocks :=
  if (look b.source.dispensers d).lowReported then b
  else raise 26 ⟨none, some d, none⟩ (b.onDispenser d fun e => { e with lowReported := true })

/-- R45: REEL OUT is reported once. -/
def reportOut (d : Nat) (b : Blocks) : Blocks :=
  if (look b.source.dispensers d).outReported then b
  else raise 24 ⟨none, some d, none⟩ (b.onDispenser d fun e => { e with outReported := true })

/-- R52: at a gain of availability the NO SOURCE flags of the kinds the dispenser can now serve are cleared, and a
planning event is due. -/
def settleGain (before : Source) (d : Nat) (b : Blocks) : Blocks × Bool :=
  if Source.gained before b.source d then
    (b.onSource fun s =>
      { s with kinds := s.kinds.map fun k =>
          match k.entry with
          | some e => if (s.candidates e).any (fun p => decide (p.2 = d)) then { k with noSource := false } else k
          | none => k }, true)
  else (b, false)

/-- R47: a proving-in-flight flag is cleared, which may make the dispenser available again. -/
def clearProving (d : Nat) (b : Blocks) : Blocks × Bool :=
  settleGain b.source d (b.onDispenser d fun e => { e with proving := false })

/-! ## Reservations (4.4) -/

/-- R69: the reservation of a step is undone. The flag is set when a dispenser became available again (R52). -/
def undoReservation (n : Nat) (b : Blocks) : Blocks × Bool :=
  match b.chain.pitchOfStep n with
  | none => (b, false)
  | some pitch =>
    match b.chain.slotOf pitch with
    | .reserved _ d =>
      let freed := clearProving d ((b.setSlot pitch .empty).onStep n fun c => { c.requeue with source := none })
      (choose freed.1, freed.2)
    | _ => (b, false)

/-- R69: the reservation of a step is undone, a planning event being due in any case. -/
def cancelStep (b : Blocks) (n : Nat) : Blocks := (undoReservation n b).1

/-- R70: the reservations of every PLANNED step numbered `k` or above are cancelled, in ascending step number. -/
def cancelFrom (k : Nat) (b : Blocks) : Blocks := (b.board.plannedFrom k).foldl cancelStep b

/-- R51: the lowest-numbered step whose reservation names `d` and can no longer hold it. -/
def Blocks.lostStep (b : Blocks) (d : Nat) : Option Nat :=
  ((b.board.plannedFrom 0).filter fun n =>
    match b.chain.pitchOfStep n, b.context? n with
    | some pitch, some c =>
      (match b.chain.slotOf pitch with | .reserved _ e => decide (e = d) | _ => false)
        && !(match b.source.kind? c.kind with | some k => b.source.holdable d k | none => false)
    | _, _ => false).head?

/-- R51, R52: the consequences of a change to a dispenser's availability, the source table having been `before` just
before the event. -/
def settleDispenser (before : Source) (d : Nat) (b : Blocks) : Blocks × Bool :=
  let lost := b.lostStep d
  let b := match lost with | some k => cancelFrom k b | none => b
  let gain := settleGain before d b
  (gain.1, gain.2 || lost.isSome)

/-- R42: a fire lowers the reel count, which may make the reel LOW or EMPTY. -/
def fireReel (b : Blocks) (d : Nat) : Blocks :=
  let count := (look b.source.dispensers d).count - 1
  let was := look b.source.dispensers d
  let b := b.onDispenser d fun e => { e with count := count }
  if count = 0 then reportOut d (b.onDispenser d fun e => { e with reel := .empty })
  else if was.threshold ≠ 0 ∧ count = was.threshold ∧ was.reel = .loaded then
    reportLow d (b.onDispenser d fun e => { e with reel := .low })
  else b

/-- R41, R44: a reel put back to full, in the condition its refill leaves behind. -/
def Dispenser.refilled (e : Dispenser) (condition : Condition) : Dispenser :=
  { e with
    count := e.capacity
    reel := if e.threshold = e.capacity ∧ e.threshold ≠ 0 then .low else .loaded
    condition := condition, jammed := false, missing := 0, badPart := 0, proving := false, lowReported := false,
    outReported := false }

/-- R41, R44: the refill of a dispenser, with the REEL LOW it may raise (R45). -/
def refill (d : Nat) (condition : Condition) (b : Blocks) : Blocks :=
  let b := b.onDispenser d fun e => e.refilled condition
  if (look b.source.dispensers d).reel = .low then reportLow d b else b

/-! ## Leaving the chain and make-ups (4.6, 5.4) -/

/-- Why a step is returned for a make-up (Table 4-3). -/
inductive Return where
  | slot (r : Option Reason)
  | lost
  | reinsert
  deriving DecidableEq, Repr, Inhabited

/-- R75: the reasons that count against the step. -/
def Return.counted : Return → Bool
  | .slot (some .verify) | .slot (some .missing) | .slot (some .gateFail) | .lost | .reinsert => true
  | _ => false

/-- R74, R75: a step is returned for a make-up, resolved SKIPPED-BAD-IMAGE or failed. The flag is set when a replan from
the step followed, whose planning event is then due. -/
def returnStep (n : Nat) (why : Return) (b : Blocks) : Blocks × Bool :=
  match b.context? n with
  | none => (b, false)
  | some c =>
    if !b.board.imageGood c.image then (resolveBadImage n b, false)
    else if why.counted then
      if c.makeUps + 1 ≤ b.planner.makeUpLimit then
        let b := b.onStep n fun c => { c.requeue with makeUps := c.makeUps + 1 }
        (cancelFrom n (countEvent .makeUp (.tagged (some c.kind)) b), true)
      else (raise 18 ⟨some n, c.source, some c.kind⟩ (resolve n .failed b), false)
    else (cancelFrom n (b.onStep n StepContext.requeue), true)

/-- R73: the planning freeze is cleared when the last slot holding the reason PURGE leaves that condition. -/
def settlePurge (b : Blocks) : Blocks × Bool :=
  if b.planner.freeze = true ∧ b.chain.anyPurge = false then
    (b.onPlanner fun p => { p with freeze := false }, true)
  else (b, false)

/-- R47: the component has been given no verify result. -/
def Component.unproved (o : Component) : Bool := decide (o.verify = .unmeasured) || o.unjudged

/-- R83, R47: a component leaves the chain by the gate or by a strip; one that was never measured no longer proves its
source. The step is returned first, with its MAKE-UP report or STEP FAILED, and the DIVERT or STRIP report is made last, so a
COUNTER LIMIT of that report follows the return's codes in the notice list (R83 gives no order; DESIGN CHOICE, log entry 61). -/
def depart (byGate : Bool) (pitch : Nat) (b : Blocks) : Blocks × Bool :=
  match b.chain.slotOf pitch with
  | .occupied o =>
    let b := b.setSlot pitch .empty
    let returned := match o.step with
      | some n => returnStep n (.slot o.reason) b
      | none => (b, false)
    let proved := match o.source with
      | some d => if o.unproved then clearProving d returned.1 else (returned.1, false)
      | none => (returned.1, false)
    let counted := countEvent (if byGate then .divert else .strip) (.tagged o.kind) proved.1
    let purged := settlePurge counted
    (choose purged.1, returned.2 || proved.2 || purged.2)
  | _ => (b, false)

end Sys2Proof.Machine
end

