-- ==== Sys2Proof/Machine/React.lean ====
section
/-! DEFINITION. Machine/React.lean: what the stop demand asks of the other blocks (R144): hold onset (R72), braking at once
and parking (R8, R9, R16, R17), and HALTED entry (R152). A planning event made here is always blocked, so none of these
runs a planning pass. -/

namespace Sys2Proof.Machine

/-- R60: why a planning event makes no pass, if it makes none: HELD, MACHINE or FROZEN, in that order. -/
def Blocks.blockedBy (b : Blocks) : Option StopCause :=
  if 2 ≤ b.alarm.demand then some .held
  else if b.shaft.machine = .halted ∨ b.shaft.machine = .recovering ∨ b.shaft.machine = .purging then some .machine
  else if b.planner.freeze then some .frozen
  else none

/-- R60: a planning event that is blocked sets the stop cause and is not remembered. -/
def noteBlocked (b : Blocks) : Blocks :=
  match b.blockedBy with
  | some cause => b.onPlanner fun p => { p with stopCause := cause }
  | none => b

/-- R72: the onset of a hold cancels every reservation, and its planning event is blocked. -/
def holdOnset (b : Blocks) : Blocks := noteBlocked (cancelFrom 0 b)

/-- R134: a brake ends a live revolution that holds an insertion record. -/
def interruptInsertion (b : Blocks) : Blocks :=
  match b.head.record with
  | none => b
  | some r =>
    let b := b.onStep r.step fun c => if c.state = .inserting then { c with state := .uncertain } else c
    b.onHead fun h => { h with upAwaited := h.upAwaited || !r.up, inhibit := true, record := none }

/-- R88: a strip still pending when a brake closes INDEX is taken as done. -/
def cutOffStrip (b : Blocks) : Blocks :=
  match b.chain.stripPending with
  | none => b
  | some pitch =>
    if b.shaft.isOpen .index then (depart false pitch (b.onChain fun c => { c with stripPending := none })).1 else b

/-- R100: a gate action still pending at a brake is taken as complete. -/
def cutOffGate (b : Blocks) : Blocks :=
  match b.chain.gatePending with
  | none => b
  | some pitch => (depart true pitch (b.onChain fun c => { c with gatePending := none, gateFire := false })).1

/-- R97: a measurement still running at a brake is ended without a result. -/
def endMeasurement (b : Blocks) : Blocks := b.onVerifier fun v => { v with running := none }

/-- R55: a fire frame stops being outstanding with no judgment made. -/
def dropFireFrame (b : Blocks) : Blocks := b.onSource fun s => { s with outstanding := none }

/-- The present revolution is no longer live: every window is closed without its close event (R8). -/
def Shaft.endRevolution (s : Shaft) : Shaft :=
  { s with
    live := false, advance := false, opened := Vector.replicate 10 false, decided := false, continues := false
    offerTaken := false }

/-- R8: a brake ends the live revolution, and each owner settles the work whose window it cuts short. -/
def cutShort (b : Blocks) : Blocks :=
  if b.shaft.live then
    let settled := cutOffGate (endMeasurement (dropFireFrame (cutOffStrip b)))
    (interruptInsertion (orderReports b settled)).onShaft Shaft.endRevolution
  else b

/-- R9: the shaft is braked at once; any run to park ends unfinished (R10) and no index stays granted (R84). -/
def brake (b : Blocks) : Blocks :=
  cutShort ((b.onShaft fun s => { s with drive := .held, parkRequested := false }).onChain fun c =>
    { c with grant := false })

/-- R152: the machine enters HALTED: every reservation is cancelled, the planning event is blocked, and the STOP-pending
flag is cleared. A purge asked for with a recovery that ends here is dropped (R157). -/
def enterHalted (b : Blocks) : Blocks :=
  let b := b.onShaft fun s => { s with machine := .halted, stopPending := false, purgeRequested := false }
  noteBlocked (cancelFrom 0 (b.onChain fun c => { c with grant := false }))

/-- R16: the shaft monitor acts on a STOP-NOW demand. -/
def stopNow (b : Blocks) : Blocks :=
  match b.shaft.machine with
  | .homing | .cycling | .recovering | .purging => enterHalted (brake b)
  | .waiting => enterHalted b
  | .stopped | .halted => b

/-- R17: the shaft monitor acts on a rise of the demand to STOP-AT-PARK. In a live revolution before DECISION opens the
park is left to the DECISION choice (R14). R14 and R12 test the demand again where they choose, so a demand that falls
meanwhile is not remembered: the revolution may continue, and a park may end in STOPPED or WAITING, where R17 by itself says
that the machine parks and enters HALTED (DEDUCED, log entry 45). -/
def stopAtPark (b : Blocks) : Blocks :=
  match b.shaft.machine with
  | .cycling | .purging =>
    if b.shaft.angle < b.shaft.parkAngle then
      if b.shaft.live && !b.shaft.decided then b else b.onShaft fun s => { s with parkRequested := true }
    else enterHalted (brake b)
  | .homing | .recovering =>
    if b.shaft.registered = true ∧ b.shaft.angle < b.shaft.parkAngle then b else enterHalted (brake b)
  | .waiting => enterHalted b
  | .stopped | .halted => b

/-- R144: between two alarm tables some code of class STOP-NOW became ACTIVE or LATCHED, or a standing code was given that
class. -/
def struckNow (before after : Alarm) : Bool :=
  (List.range 32).any fun code =>
    decide (after.levelOf code = 4)
      && (decide ((look after.codes code).state ≠ (look before.codes code).state)
        || decide ((look before.codes code).cls ≠ .stopNow))

/-- R144: the other blocks are told of a rise of the demand since the alarm table was `before`, and of a further code of
class STOP-NOW. -/
def reactRise (before : Alarm) (b : Blocks) : Blocks :=
  let now := b.alarm.demand
  let after := b.alarm
  let b := if before.demand < 2 ∧ 2 ≤ now then holdOnset b else b
  if now = 4 ∧ (before.demand < 4 ∨ struckNow before after = true) then stopNow b
  else if now = 3 ∧ before.demand < 3 then stopAtPark b
  else b

/-- An occurrence of an EDGE code with all that its class asks for (R138, R144). -/
def occur (code : Nat) (context : AlarmContext) (b : Blocks) : Blocks := reactRise b.alarm (raise code context b)

end Sys2Proof.Machine
end

