-- ==== Sys2Proof/Machine/Planning.lean ====
section
/-! DEFINITION. Machine/Planning.lean: the planning pass (4.2, 4.3), planning events (R59, R60), the replan (R70), and the
moves between machine states that a reservation, a park or a RESUME brings (R12 to R14, R157, R160). -/

namespace Sys2Proof.Machine

/-- R84: the index grant's conditions, the first one being `continues`. -/
def Blocks.grantFor (b : Blocks) (continues : Bool) : Bool :=
  continues && b.chain.headClear && decide (b.alarm.demand < 3)

/-- R13: a run starts: the drive goes to DRIVING and the first index grant is decided, its first condition taken as met. -/
def startTurning (m : MachineState) (b : Blocks) : Blocks :=
  let grant := b.grantFor true
  (b.onShaft fun s => { s with machine := m, drive := .driving, parkRequested := false }).onChain fun c =>
    { c with grant := grant }

/-- The machine enters STOPPED; the STOP-pending flag is cleared (R15). -/
def enterStopped (b : Blocks) : Blocks := b.onShaft fun s => { s with machine := .stopped, stopPending := false }

/-- R13: WAITING goes on to STOPPED with the board NONE, and to CYCLING when work exists. -/
def settleWaiting (b : Blocks) : Blocks :=
  if b.shaft.machine = .waiting then
    if b.board.phase = .none then enterStopped b
    else if b.chain.work then startTurning .cycling b
    else b
  else b

/-- R62: the base offset of a candidate, one above the larger of the frontier and its station offset. -/
def Blocks.baseOffset (b : Blocks) (d : Nat) : Nat :=
  max b.chain.frontierPlus ((look b.source.dispensers d).offset + 1)

/-- R63: some RESERVED slot whose source lies in the bank of `d` has the fire wait that offset `j` gives `d`. -/
def Blocks.clashes (b : Blocks) (d j : Nat) : Bool :=
  (List.range b.chain.length).any fun i =>
    match b.chain.slotAt i with
    | .reserved _ e =>
      decide (bankOf e = bankOf d)
        && decide (i + (look b.source.dispensers d).offset = j + (look b.source.dispensers e).offset)
    | _ => false

/-- R63: the offset at which a candidate can be reserved, or none when it is infeasible. -/
def Blocks.offsetFor (b : Blocks) (d : Nat) : Option Nat :=
  (List.range b.chain.length).find? fun j => decide (b.baseOffset d ≤ j) && !b.clashes d j

/-- R65: the place of a source index in the SPREAD order that starts after the last-used index `u`. -/
def spreadRank (u i : Nat) : Nat := (i + 3 - u % 4) % 4

/-- R65: among tied candidates, each a source index and a dispenser, the one the selection mode takes. -/
def breakTie (mode : Selection) (u : Nat) (tied : List (Nat × Nat)) : Option (Nat × Nat) :=
  match mode with
  | .fill => tied.foldl (fun best c => match best with
      | none => some c
      | some d => if c.1 < d.1 then some c else best) none
  | .spread => tied.foldl (fun best c => match best with
      | none => some c
      | some d => if spreadRank u c.1 < spreadRank u d.1 then some c else best) none

/-- R64: the feasible candidate with the smallest offset, as its source index, dispenser and offset. -/
def Blocks.choice (b : Blocks) (k : Kind) (lastUsed : Nat) : Option (Nat × Nat × Nat) :=
  let feasible := (b.source.candidates k).filterMap fun c => (b.offsetFor c.2).map fun j => (c, j)
  match (feasible.map Prod.snd).min? with
  | none => none
  | some j =>
    (breakTie k.selection lastUsed ((feasible.filter fun f => decide (f.2 = j)).map Prod.fst)).map
      fun c => (c.1, c.2, j)

/-- R66: a reservation is made. -/
def reserve (n kind index d j : Nat) (b : Blocks) : Blocks :=
  let pitch := b.chain.pitchAt j
  let b := (b.setSlot pitch (.reserved n d)).onStep n fun c =>
    { c with state := .planned, source := some d, slot := some pitch }
  let b := b.onSource fun s => { s with kinds := adjust s.kinds kind fun k => { k with lastUsed := index } }
  let b := if (look b.source.dispensers d).condition = .proving then b.onDispenser d fun e => { e with proving := true }
    else b
  settleWaiting (choose b)

def setStopCause (cause : StopCause) (b : Blocks) : Blocks := b.onPlanner fun p => { p with stopCause := cause }

/-- R61, R45: the pass stops for want of a source; NO SOURCE occurs once per kind. -/
def stopNoSource (n kind : Nat) (b : Blocks) : Blocks :=
  let b := setStopCause .noSource b
  if (look b.source.kinds kind).noSource then b
  else
    occur 25 ⟨some n, none, some kind⟩ (b.onSource fun s =>
      { s with kinds := adjust s.kinds kind fun k => { k with noSource := true } })

/-- R67: a planning pass over the steps of the queue view, head first. -/
def planPass : List Nat → Blocks → Blocks
  | [], b => setStopCause .empty b
  | n :: rest, b =>
    match b.context? n with
    | none => planPass rest b
    | some c =>
      match b.source.kind? c.kind with
      | none => stopNoSource n c.kind b
      | some k =>
        if (b.source.candidates k).isEmpty then stopNoSource n c.kind b
        else
          match b.choice k (look b.source.kinds c.kind).lastUsed with
          | none => setStopCause .horizon b
          | some choice => planPass rest (reserve n c.kind choice.1 choice.2.1 choice.2.2 b)

/-- R59, R60: a planning event makes a pass unless it is blocked. -/
def planningEvent (b : Blocks) : Blocks :=
  match b.blockedBy with
  | some cause => setStopCause cause b
  | none => planPass b.board.queue b

/-- A planning event, when one is due. -/
def planIf (due : Bool) (b : Blocks) : Blocks := if due then planningEvent b else b

/-- R70: a replan from step `k`, and the planning event that follows it. -/
def replan (k : Nat) (b : Blocks) : Blocks := planningEvent (cancelFrom k b)

/-- The end of an event that began with `before`: the demand's rise is acted on (R144), a planning event that is due is made,
and the steps resolved meanwhile stand in the report order by number (R28). -/
def conclude (before : Blocks) (result : Blocks × Bool) : Blocks :=
  orderReports before (planIf result.2 (reactRise before.alarm result.1))

/-- R72, R144: as `conclude`, for an event that may also lower the demand: a hold that lifts is a planning event. -/
def concludeDemand (before : Alarm) (b : Blocks) : Blocks :=
  let b := reactRise before b
  planIf (decide (2 ≤ before.demand) && decide (b.alarm.demand < 2)) b

/-- The machine enters WAITING (R13). -/
def enterWaiting (b : Blocks) : Blocks := settleWaiting (b.onShaft fun s => { s with machine := .waiting })

/-- R160: the mark of a purge on one slot: DIVERT at offsets of G and above, STRIP below. -/
def markPurge (c : Chain) (pitch : Nat) (s : Slot) : Slot :=
  match s with
  | .occupied o =>
    let disposition := if c.gateOffset ≤ c.offsetOf pitch then Disposition.divert else .strip
    .occupied { o with disposition := disposition, reason := some .purge }
  | _ => s

/-- R160: a step named by a marked slot moves to DIVERTING or STRIPPING. -/
def followMark (slots : List Slot) (c : StepContext) : StepContext :=
  if c.state = .resolved then c
  else
    match slots.find? (fun s => s.isOccupied && decide (s.step? = some c.number)) with
    | some (.occupied o) => { c with state := if o.disposition = .divert then .diverting else .stripping }
    | _ => c

/-- R160: every OCCUPIED slot is marked. -/
def markAllPurge (b : Blocks) : Blocks :=
  let slots := b.chain.slots.mapIdx fun pitch s => markPurge b.chain pitch s
  choose ((b.onChain fun c => { c with slots := slots }).onBoard fun d =>
    { d with window := d.window.map (followMark slots) })

/-- R160: a purge starts: marks, cancellations and the freeze; the machine enters PURGING when a slot was marked, and
otherwise stays in its present state with the freeze cleared again. -/
def purgeStart (b : Blocks) : Blocks :=
  let marked := b.chain.occupiedCount ≠ 0
  let b := cancelFrom 0 ((markAllPurge b).onPlanner fun p => { p with freeze := true })
  let b := noteBlocked b
  if marked then startTurning .purging b
  else planningEvent (b.onPlanner fun p => { p with freeze := false })

/-- R160, R156, R157: a purge asked for by a RESUME; one that marks no slot ends the RESUME in WAITING. Leaving HALTED or
RECOVERING for PURGING is a planning event (R59), blocked by the state it leads to. -/
def purgeFromHalt (b : Blocks) : Blocks :=
  let b := b.onShaft fun s => { s with machine := .waiting }
  if b.chain.occupiedCount ≠ 0 then noteBlocked (purgeStart b) else settleWaiting (purgeStart b)

/-- R12, R14, R157, R161: the state a park leads to, the machine having been in `m`. Leaving RECOVERING or PURGING is a
planning event (R59). -/
def afterPark (b : Blocks) : Blocks :=
  let s := b.shaft
  let halts := decide (3 ≤ b.alarm.demand)
  match s.machine with
  | .homing =>
    if halts then enterHalted b else if s.stopPending then enterStopped b else enterWaiting b
  | .cycling =>
    if halts then enterHalted b
    else if s.stopPending || decide (b.board.phase = .none) then enterStopped b
    else enterWaiting b
  | .purging =>
    if halts then enterHalted b
    else if s.stopPending || decide (b.board.phase = .none) then planningEvent (enterStopped b)
    else planningEvent (enterWaiting b)
  | .recovering =>
    let b := b.onShaft fun s => { s with purgeRequested := false }
    if halts then enterHalted b
    else if s.stopPending then planningEvent (enterStopped b)
    else if s.purgeRequested then purgeFromHalt b
    else planningEvent (enterWaiting b)
  | .stopped | .waiting | .halted => b

/-- R9, R84: the park event moves the drive to HELD, ends the live revolution and any run to park, and drops a grant. -/
def parkEvent (b : Blocks) : Blocks :=
  let b := b.onShaft fun s => { s.endRevolution with drive := .held, parkRequested := false }
  afterPark (b.onChain fun c => { c with grant := false })

/-- R10: a run to park begins in state `m`; a shaft at park ends it at once. -/
def startRunToPark (m : MachineState) (b : Blocks) : Blocks :=
  let b := b.onShaft fun s => { s with machine := m }
  if b.shaft.atPark then afterPark b
  else b.onShaft fun s => { s with drive := .driving, parkRequested := s.registered }

end Sys2Proof.Machine
end

