-- ==== Sys2Proof/Machine/Windows.lean ====
section
/-! DEFINITION. Machine/Windows.lean: what each block does at the window events of a live revolution (Table 1-4), and the
verify results that a measurement gives (R90 to R98). -/

namespace Sys2Proof.Machine

/-! ## Index (R84 to R88) -/

/-- R85: a component that leaves offset V unmeasured is turned to DIVERT. -/
def leaveVerify (b : Blocks) : Blocks :=
  let pitch := b.chain.pitchAt (b.chain.verifyOffset - 1)
  match b.chain.slotOf pitch with
  | .occupied o =>
    if o.verify = .unmeasured ∧ o.disposition = .insert then
      let b := b.setSlot pitch (.occupied { o with
        verify := .failed, disposition := .divert, reason := some .verify, unjudged := true })
      match o.step with
      | some n => b.onStep n fun c => { c with state := .diverting }
      | none => b
    else b
  | _ => b

/-- R85: a DIVERT component that leaves offset G ungated is turned to STRIP and keeps its reason. -/
def leaveGate (b : Blocks) : Blocks :=
  let pitch := b.chain.pitchAt (b.chain.gateOffset - 1)
  match b.chain.slotOf pitch with
  | .occupied o =>
    if o.disposition = .divert then
      let b := b.setSlot pitch (.occupied { o with disposition := .strip })
      match o.step with
      | some n => b.onStep n fun c => if c.state = .diverting then { c with state := .stripping } else c
      | none => b
    else b
  | _ => b

/-- R85: the index, at INDEX open of an advance. While the geometry is unloaded there is no slot to move (R79). -/
def indexOpen (b : Blocks) : Blocks :=
  if b.chain.slots.isEmpty then b.onChain fun c => { c with indexSeen := false, gateDone := false }
  else
    let left := b.chain.pitchAt 0
    let strip := if (b.chain.slotAt 0).isOccupied then some left else none
    let b := b.onChain fun c =>
      { c with pointer := (c.pointer + 1) % c.length, indexSeen := false, stripPending := strip, gateDone := false }
    choose (leaveGate (leaveVerify b))

/-- R169, R170: what an event counter does at an index completion, given the three sampled values. -/
def EventCounter.complete (occupied queued frontier : Nat) (c : EventCounter) : EventCounter × Bool :=
  if c.enable then
    let sample := match c.event with
      | .chainOccupancy => some occupied
      | .queueDepth => some queued
      | .frontier => some frontier
      | _ => none
    match sample with
    | some v =>
      let condition := (if c.threshold = 0 then decide (0 < v) else decide (c.threshold ≤ v)) ^^ c.invert
      if c.edge then
        let added := if condition && c.previous then c.add 1 else (c, false)
        ({ added.1 with previous := condition }, added.2)
      else if c.threshold = 0 then c.add v
      else if condition then c.add 1
      else (c, false)
    | none =>
      if c.edge ∧ c.event ≠ .none then
        let condition := c.occurred ^^ c.invert
        let added := if condition && c.previous then c.add 1 else (c, false)
        ({ added.1 with previous := condition, occurred := false }, added.2)
      else (c, false)
  else (c, false)

/-- R87, R169: the index completion reaches the counters. All four are completed before a COUNTER LIMIT that the completion
raises occurs, so that occurrence falls in the advance period that follows (R170 speaks of occurrences taken before the
completion only; DESIGN CHOICE, log entry 49). -/
def countCompletion (b : Blocks) : Blocks :=
  let f := EventCounter.complete b.chain.occupiedCount b.board.queue.length b.chain.frontierPlus
  let report := takeEach b.counters.events f
  raiseLimits report.2 (b.onCounters fun c => { c with events := report.1 })

/-- R86: CHAIN INDEX MISSING is judged at INDEX close. -/
def judgeIndex (b : Blocks) : Blocks := if b.chain.indexSeen then b else raise 6 ⟨none, none, none⟩ b

/-- R88: RUNOUT JAM is judged at INDEX close, and the component is taken as having left. -/
def judgeRunout (b : Blocks) : Blocks × Bool :=
  match b.chain.stripPending with
  | none => (b, false)
  | some pitch =>
    let context : AlarmContext := match b.chain.slotOf pitch with
      | .occupied o => ⟨o.step, o.source, o.kind⟩
      | _ => ⟨none, none, none⟩
    depart false pitch (raise 8 context (b.onChain fun c => { c with stripPending := none }))

/-- R86 to R88: INDEX close of an advance: the two judgments, then the index completion. Where both judgments fail, CHAIN
INDEX MISSING occurs before RUNOUT JAM (R86 to R88 give no order; DESIGN CHOICE, log entry 47). The demand of the two is acted
on, with the reservations that a hold or HALTED entry cancels, before the completion samples QUEUE DEPTH and FRONTIER (R87 and
R169 give no order; DESIGN CHOICE, log entry 59), and those are sampled before the planning pass that the completion makes
(DESIGN CHOICE, log entry 55). A NO SOURCE that this pass raises therefore reaches an edge-set ALARM OCCURRENCE counter in the
advance period that follows (R87 and R170 do not say; DESIGN CHOICE, log entry 64). -/
def indexClose (b : Blocks) : Blocks :=
  let judged := judgeRunout (judgeIndex b)
  let settled := reactRise b.alarm judged.1
  let completed := countCompletion settled
  orderReports b (planningEvent (reactRise settled.alarm (choose completed)))

/-! ## Fire (R89, R53, R56) -/

/-- R89: the fires of this advance: the RESERVED slots that stand at their sources' station offsets. -/
def Blocks.fires (b : Blocks) : List (Nat × Fire) :=
  (List.range b.chain.length).filterMap fun j =>
    match b.chain.slotAt j with
    | .reserved n d =>
      if (look b.source.dispensers d).offset = j then
        some (b.chain.pitchAt j, ⟨d, n, match b.context? n with | some c => c.kind | none => 0⟩)
      else none
    | _ => none

/-- R89: one slot is fired. -/
def fireSlot (b : Blocks) (f : Nat × Fire) : Blocks :=
  let component : Component := ⟨some f.2.step, some f.2.dispenser, some f.2.kind, .unmeasured, .insert, none, false⟩
  reportFire f.2.kind
    ((b.setSlot f.1 (.occupied component)).onStep f.2.step fun c => { c with state := .fired })

/-- R53: the frame's entry for each of the 12 banks, the position to fire or none. -/
def framePositions (fires : List Fire) : List (Option Nat) :=
  (List.range 12).map fun bank =>
    (fires.find? fun f => decide (bankOf f.dispenser = bank)).map fun f => f.dispenser % 8

/-- R53: the frame number raised by one, from 15 to 0. -/
def nextFrame (n : Nat) : Nat := (n + 1) % 16

/-- R53: the fire frame is sent and is outstanding. -/
def sendFireFrame (fires : List Fire) (b : Blocks) : Blocks :=
  let number := nextFrame b.source.frame
  (b.onSource fun s => { s with frame := number, outstanding := some ⟨number, fires, []⟩ }).emit
    (.fireFrame number (framePositions fires))

/-- R51, R52 for each of several dispensers in turn. Each replan is taken whole, with its pass, before the next (R71). -/
def settleDispensers (before : Source) (ds : List Nat) (b : Blocks) : Blocks :=
  ds.foldl (fun b d => let r := settleDispenser before d b; planIf r.2 r.1) b

/-- R89, R53, R42: FIRE open of an advance. The fires are made, and their reels lowered and settled, in ascending offset (R42
and R89 give no order; log entry 41). Every FIRE report, with the COUNTER LIMIT codes that it raises, comes before any reel is
lowered, and so before REEL LOW and REEL OUT in the notice list (no rule orders them; DESIGN CHOICE, log entry 54). Every reel is
lowered before the first replan is taken with its pass (R51 and R71 give no order; DESIGN CHOICE, log entry 58). -/
def fireOpen (b : Blocks) : Blocks :=
  let fires := b.fires
  let ds := fires.map fun f => f.2.dispenser
  let fired := fires.foldl fireSlot b
  let sent := sendFireFrame (fires.map Prod.snd) fired
  let lowered := ds.foldl fireReel sent
  reactRise b.alarm (settleDispensers b.source ds (choose lowered))

/-- R55, R48: a dispenser is jammed. -/
def jam (d : Nat) (b : Blocks) : Blocks := b.onDispenser d fun e => { e with jammed := true }

/-- R56: the expected banks that have sent no fire reply, in ascending number, the order in which they are judged (R56 gives
none; log entry 40). -/
def silentBanks (s : Source) (f : FireFrame) : List Nat :=
  (List.range 12).filter fun bank => s.expectedBank bank && !f.replied.contains bank

/-- R56: a silent bank raises BANK SILENT and has its fired dispenser jammed. -/
def silence (f : FireFrame) (b : Blocks) (bank : Nat) : Blocks :=
  match f.fires.find? fun e => decide (bankOf e.dispenser = bank) with
  | some e => jam e.dispenser (raise 11 ⟨none, some e.dispenser, none⟩ b)
  | none =>
    let lowest := ((List.range 8).map (bank * 8 + ·)).find? fun d => (look b.source.dispensers d).installed
    raise 11 ⟨none, lowest, none⟩ b

/-- R55, R56: FIRE close: the fire frame stops being outstanding, and each silent bank is judged. Every jam is set before the
first replan is taken with its pass (R51 and R71 give no order; DESIGN CHOICE, log entry 58). -/
def fireClose (b : Blocks) : Blocks :=
  match b.source.outstanding with
  | none => b
  | some f =>
    let banks := silentBanks b.source f
    let judged := banks.foldl (silence f) (dropFireFrame b)
    let ds := (f.fires.filter fun e => banks.contains (bankOf e.dispenser)).map Fire.dispenser
    reactRise b.alarm (settleDispensers b.source ds judged)

/-! ## Verify (R90 to R98) -/

/-- R46: the dispenser's counts, condition and reel state after a verify result. -/
def Dispenser.judged (e : Dispenser) (r : VerifyResult) : Dispenser :=
  let e := { e with proving := false }
  match r with
  | .pass | .passAlt =>
    let condition := if e.condition = .proving then Condition.operational else e.condition
    { e with missing := 0, badPart := 0, condition := condition }
  | .value | .reversed => { e with missing := 0, badPart := 0, condition := .suspect }
  | .opened | .short =>
    let condition := if e.badPart = 2 then Condition.suspect else e.condition
    { e with missing := 0, badPart := min (e.badPart + 1) 3, condition := condition }
  | .missing =>
    let reel := if e.missing = 1 then ReelState.empty else e.reel
    { e with missing := min (e.missing + 1) 2, badPart := 0, reel := reel }

/-- R46: a verify result raises WRONG REEL. -/
def wrongReel (e : Dispenser) (r : VerifyResult) : Bool :=
  match r with
  | .value | .reversed => true
  | .opened | .short => decide (e.badPart = 2)
  | _ => false

/-- R46: a verify result acts on the dispenser its slot names. -/
def judgeDispenser (d : Nat) (r : VerifyResult) (step kind : Option Nat) (b : Blocks) : Blocks × Bool :=
  let was := look b.source.dispensers d
  let judged := b.onDispenser d fun e => e.judged r
  let judged := if wrongReel was r then raise 23 ⟨step, some d, kind⟩ judged else judged
  let judged := if r = .missing ∧ was.missing = 1 then reportOut d judged else judged
  settleDispenser b.source d judged

/-- The dispensers a fault run names are at least two. -/
def severalNamed : List Nat → Bool
  | [] => false
  | d :: rest => rest.any fun e => decide (e ≠ d)

/-- R98: a verify result is taken into the fault run. -/
def extendFaultRun (r : VerifyResult) (source : Option Nat) (b : Blocks) : Blocks :=
  match r, source with
  | .missing, _ => b
  | .opened, none => b
  | .opened, some d =>
    let kept := if b.verifier.faultRun.length = Config.faultRunLength then b.verifier.faultRun.tail
      else b.verifier.faultRun
    let run := kept ++ [d]
    if run.length = Config.faultRunLength ∧ severalNamed run = true then
      raise 17 ⟨none, some d, none⟩ (b.onVerifier fun v => { v with faultRun := [] })
    else b.onVerifier fun v => { v with faultRun := run }
  | _, _ => b.onVerifier fun v => { v with faultRun := [] }

def VerifyResult.passes : VerifyResult → Bool
  | .pass | .passAlt => true
  | _ => false

/-- R96: the slot after a result. -/
def Component.measured (o : Component) (r : VerifyResult) : Component :=
  let verify := if r.passes then VerifyState.passed else .failed
  if o.disposition = .insert ∧ r.passes = false then
    { o with verify := verify, disposition := .divert, reason := some (if r = .missing then .missing else .verify) }
  else { o with verify := verify }

/-- R96: the step after a result: its record, the PASS-ALT flag and, for a slot with disposition INSERT, its state. -/
def StepContext.measured (c : StepContext) (v : VerifyRecord) (insert : Bool) : StepContext :=
  let state := if insert then (if v.result.passes then StepState.verified else .diverting) else c.state
  { c with verify := some v, passAlt := c.passAlt || decide (v.result = .passAlt), state := state }

/-- R96: a verify result goes to the step record, the slot, the source, the counters and the fault run, in that order: WRONG
REEL or REEL OUT, a COUNTER LIMIT of the VERIFY report and VERIFIER FAULT join the notice list so (R96 gives its list no order;
DESIGN CHOICE, log entry 60). -/
def giveResult (pitch : Nat) (v : VerifyRecord) (b : Blocks) : Blocks :=
  match b.chain.slotOf pitch with
  | .occupied o =>
    let marked := b.setSlot pitch (.occupied (o.measured v.result))
    let recorded := match o.step with
      | some n => marked.onStep n fun c => c.measured v (decide (o.disposition = .insert))
      | none => marked
    let chosen := choose recorded
    let judged := match o.source with
      | some d => judgeDispenser d v.result o.step o.kind chosen
      | none => (chosen, false)
    let counted := match o.kind with
      | some k => reportVerify v.result.passes k judged.1
      | none => judged.1
    conclude b (extendFaultRun v.result o.source counted, judged.2)
  | _ => b

/-- R90: a stray is found at offset V. -/
def findStray (pitch : Nat) (b : Blocks) : Blocks :=
  choose (b.setSlot pitch (.occupied ⟨none, none, none, .failed, .divert, some .stray, false⟩))

/-- R90: a slot's kind is present when its entry is loaded and its band set passes the band check. -/
def Blocks.presentKind (b : Blocks) (kind : Option Nat) : Option (Nat × Kind) :=
  kind.bind fun id => (b.source.kind? id).bind fun k =>
    if (b.verifier.bandFault k).isNone then some (id, k) else none

/-- R91, R92: a measurement starts: MEASURE DRIVE is driven for its first phase, and RANGE 0–1 are set to the kind's code. -/
def startMeasurement (pitch id : Nat) (k : Kind) (b : Blocks) : Blocks :=
  let phase : Phase := match k.mode with | .diode => .forward | _ => .single
  b.onVerifier fun v => { v with running := some ⟨pitch, id, k, phase⟩, range := k.range }

/-- R90, R91, R92: VERIFY open of an advance. -/
def verifyOpen (station : Station) (b : Blocks) : Blocks :=
  let pitch := b.chain.pitchAt b.chain.verifyOffset
  let presence := station.presenceA && station.presenceB
  match b.chain.slotOf pitch with
  | .empty => if presence then findStray pitch b else b
  | .reserved _ _ => b
  | .occupied o =>
    if o.verify = .unmeasured then
      match b.presentKind o.kind with
      | none => b
      | some (id, k) =>
        if presence then
          match k.mode with
          | .none => giveResult pitch ⟨.pass, none, none⟩ b
          | _ => startMeasurement pitch id k b
        else giveResult pitch ⟨.missing, none, none⟩ b
    else b

/-- R91, R92: the count a running measurement has reached at a tick: no higher than 65535, and no higher than the count
that exceeds the last band's max count, at which a diode phase has ended. -/
def Verifier.reached (v : Verifier) (m : Measurement) (ticks : Nat) : Nat :=
  match m.phase with
  | .single => min ticks Config.countTop
  | _ => min (min ticks (v.lastMax m.kind + 1)) Config.countTop

/-- R91, R92: the running measurement or phase ends with a reading and a count. -/
def endPhase (m : Measurement) (r : Reading) (count : Nat) (b : Blocks) : Blocks :=
  match m.phase with
  | .single => giveResult m.pitch (singleRecord m.kind r count) (endMeasurement b)
  | .forward => b.onVerifier fun v => { v with running := some { m with phase := .reverse r count } }
  | .reverse fwd fwdCount => giveResult m.pitch (diodeRecord m.kind fwd fwdCount r count) (endMeasurement b)

/-- R91, R92: at VERIFY close a measurement or phase that has not tripped is OPEN, and so is a phase not yet begun. -/
def verifyClose (ticks : Nat) (b : Blocks) : Blocks :=
  match b.verifier.running with
  | none => b
  | some m =>
    let count := b.verifier.reached m ticks
    match m.phase with
    | .forward => giveResult m.pitch (diodeRecord m.kind .opened count .opened 0) (endMeasurement b)
    | _ => endPhase m .opened count b

/-! ## Gate (R99, R100) -/

/-- R99: GATE open of an advance. -/
def gateOpen (b : Blocks) : Blocks :=
  let pitch := b.chain.pitchAt b.chain.gateOffset
  let b := b.onChain fun c => { c with gateDone := true }
  match b.chain.slotOf pitch with
  | .occupied o =>
    if o.disposition = .divert then b.onChain fun c => { c with gateFire := true, gatePending := some pitch } else b
  | _ => b

/-- R100: the slot of a failed gate action turns to STRIP with reason GATE FAIL. -/
def failGate (pitch : Nat) (b : Blocks) : Blocks :=
  match b.chain.slotOf pitch with
  | .occupied o =>
    let b := raise 9 ⟨o.step, o.source, o.kind⟩ b
    let b := b.setSlot pitch (.occupied { o with disposition := .strip, reason := some .gateFail })
    match o.step with
    | some n => b.onStep n fun c => if c.state = .diverting then { c with state := .stripping } else c
    | none => b
  | _ => b

/-- R100: GATE close. A purge whose last mark the failure replaced ends here (R73). -/
def gateClose (b : Blocks) : Blocks :=
  match b.chain.gatePending with
  | none => b
  | some pitch =>
    let failed := failGate pitch (b.onChain fun c => { c with gateFire := false, gatePending := none })
    conclude b (settlePurge (choose failed))

/-! ## Head (R124 to R133) -/

/-- R173: the residency counters at a grant report. -/
def Residency.report (granted advance : Bool) (r : Residency) : Residency :=
  if granted then { r with insert := bump r.insert }
  else if advance then { r with hole := bump r.hole }
  else r

/-- R173: a grant report reaches the residency counters. -/
def reportGrant (granted : Bool) (b : Blocks) : Blocks :=
  b.onCounters fun c => { c with residency := c.residency.report granted b.shaft.advance }

/-- R125: the slot at offset 0 is turned to STRIP with reason TIER, and its step to STRIPPING. -/
def tierStrip (pitch : Nat) (o : Component) (n : Nat) (b : Blocks) : Blocks :=
  choose ((b.setSlot pitch (.occupied { o with disposition := .strip, reason := some .tier })).onStep n fun c =>
    { c with state := .stripping })

/-- R126: an insert grant. The lock is taken before the transfer, so the candidate the transfer brings is recorded and not
applied. JAWS is seen at once when JAWS CLOSED is asserted (R129). -/
def grantInsert (station : Station) (pitch : Nat) (c : StepContext) (b : Blocks) : Blocks :=
  let locked := b.onPositioner fun p => { p with lock := some c.number, lockKind := some c.kind }
  let moved := (locked.setSlot pitch .empty).onStep c.number fun c => { c with state := .inserting, slot := none }
  let record : InsertionRecord := ⟨c.number, c.kind, c.source, station.jawsClosed, false, false, false, false, false⟩
  (choose moved).onHead fun h => { h with inhibit := false, record := some record }

/-- R126: whether the table, the span and the clinch are ready for a step, in the order of Table 7-3, with the timeout of
each. -/
def Blocks.readiness (b : Blocks) (c : StepContext) : List (Bool × Nat) :=
  match b.source.kind? c.kind with
  | none => [(b.positioner.settledFor c, 14), (false, 15)]
  | some k =>
    [(b.positioner.settledFor c, 14), (b.positioner.spanHolds k.span, 15), (b.head.profileHolds k.profile, 16)]

/-- R127: the timeout of the first readiness condition that fails, or none when the step is ready. -/
def Blocks.firstFailing (b : Blocks) (c : StepContext) : Option Nat :=
  ((b.readiness c).find? fun r => !r.1).map Prod.snd

/-- R127: a dwell count at or above the dwell limit raises the matching timeout and is set to 0. Only a wait judges it, so
a limit lowered below the count waits for the step's next wait (R128). -/
def judgeDwell (n : Nat) (b : Blocks) : Blocks :=
  match b.context? n with
  | none => b
  | some c =>
    match b.firstFailing c with
    | none => b
    | some code =>
      if b.head.dwellLimit ≤ c.dwell then
        raise code ⟨some n, c.source, some c.kind⟩ (b.onStep n fun c => { c with dwell := 0 })
      else b

/-- R127: a step that waits has its dwell count raised and judged. -/
def waitAtHead (n : Nat) (b : Blocks) : Blocks :=
  judgeDwell n (b.onStep n fun c => { c with dwell := min (c.dwell + 1) 64 })

/-- R124: the VERIFIED step with disposition INSERT that the slot at offset 0 offers while CYCLING, with the slot. -/
def Blocks.offered (b : Blocks) : Option (Component × StepContext) :=
  match b.chain.slotAt 0 with
  | .occupied o =>
    if o.disposition = .insert ∧ b.shaft.machine = .cycling then
      (o.step.bind b.context?).bind fun c => if c.state = .verified then some (o, c) else none
    else none
  | _ => none

/-- R124: the revolution's offer has been made. -/
def takeOffer (b : Blocks) : Blocks := b.onShaft fun s => { s with offerTaken := true }

/-- R124 to R127: the step that the slot at offset 0 offers is stripped, granted or waits. -/
def judgeOffer (station : Station) (b : Blocks) : Blocks :=
  let pitch := b.chain.pitchAt 0
  match b.offered with
  | none => reportGrant false b
  | some (o, c) =>
    if b.board.lowerTierUnresolved c.tier then reportGrant false (tierStrip pitch o c.number b)
    else if 3 ≤ b.alarm.demand then reportGrant false b
    else if (b.firstFailing c).isNone then reportGrant true (grantInsert station pitch c b)
    else reactRise b.alarm (reportGrant false (waitAtHead c.number b))

/-- R124 to R127: TRANSFER open of a live revolution. -/
def transferOpen (station : Station) (b : Blocks) : Blocks := judgeOffer station (takeOffer b)

/-- R129 to R131: the context of an occurrence at the head. -/
def InsertionRecord.context (r : InsertionRecord) : AlarmContext := ⟨some r.step, r.source, some r.kind⟩

/-- The insertion record changed by `f`, when there is one. -/
def Blocks.onRecord (b : Blocks) (f : InsertionRecord → InsertionRecord) : Blocks :=
  b.onHead fun h => { h with record := h.record.map f }

/-- R129, R130: a line not seen by its window's close raises its alarm. -/
def judgeLine (seen : InsertionRecord → Bool) (code : Nat) (b : Blocks) : Blocks :=
  match b.head.record with
  | none => b
  | some r => if seen r then b else occur code r.context b

/-- R133: the misinsert policy of a step: its override, or its kind's. -/
def Blocks.policyOf (b : Blocks) (c : StepContext) : Policy :=
  match c.override with
  | some p => p
  | none => match b.source.kind? c.kind with
    | some k => k.policy
    | none => .mark

/-- R133: SENSE close, when the insertion record's step is INSERTING. With one lead seen the MISINSERT report is made, with a
COUNTER LIMIT that it raises, before MISINSERT occurs (R133 gives no order; DESIGN CHOICE, log entry 63). -/
def senseClose (b : Blocks) : Blocks :=
  match b.head.record with
  | none => b
  | some r =>
    match b.context? r.step with
    | none => b
    | some c =>
      if c.state = .inserting then
        if r.leadA && r.leadB then conclude b (reportInsert r.kind (resolve r.step .inserted b), false)
        else if r.leadA || r.leadB then
          let resolved := reportMisinsert r.kind (resolve r.step .misinserted b)
          let judged := if b.policyOf c = .stop then raise 19 r.context resolved else resolved
          conclude b (judged, false)
        else conclude b (returnStep r.step .lost b)
      else b

/-- R131: HEAD UP seen in RETRACT for the first time releases the table's lock. -/
def seeUp (b : Blocks) : Blocks :=
  match b.head.record with
  | none => b
  | some r => if r.up then b else releaseLock (b.onRecord fun r => { r with up := true })

/-- R131: RETRACT close in a revolution with a grant. The record is none before HEAD UP MISSING brakes, so R134 finds no record
to act on (R131 gives its three effects no order; DESIGN CHOICE, log entry 56). -/
def retractClose (b : Blocks) : Blocks :=
  match b.head.record with
  | none => b
  | some r =>
    let ended := b.onHead fun h => { h with inhibit := true, record := none, upAwaited := h.upAwaited || !r.up }
    if r.up then ended else occur 5 r.context ended

/-! ## Decision (R14, R84, R161) -/

/-- R14, R161: DECISION open: continue, or request a park. -/
def decisionOpen (b : Blocks) : Blocks :=
  let reason := if b.shaft.machine = .purging then b.chain.anyPurge else b.chain.work
  let goOn := reason && !b.shaft.stopPending && decide (b.alarm.demand < 3)
  b.onShaft fun s =>
    { s with decided := true, continues := goOn, parkRequested := s.parkRequested || !goOn }

/-- R84: DECISION close: the index grant for the next revolution. -/
def decisionClose (b : Blocks) : Blocks :=
  let grant := b.grantFor b.shaft.continues
  b.onChain fun c => { c with grant := grant }

/-! ## One window event -/

/-- A window event at its owner (Table 1-4). INDEX acts on the chain in an advance only; the head's windows take their
lines in a revolution with a grant only. -/
def windowEvent (station : Station) (w : Window) (opens : Bool) (b : Blocks) : Blocks :=
  match w, opens with
  | .index, true => if b.shaft.advance then indexOpen b else b
  | .index, false => if b.shaft.advance then indexClose b else b
  | .fire, true => fireOpen b
  | .fire, false => fireClose b
  | .verify, true => verifyOpen station b
  | .verify, false => verifyClose station.verifyCount b
  | .gate, true => gateOpen b
  | .gate, false => gateClose b
  | .transfer, true => transferOpen station b
  | .transfer, false => judgeLine InsertionRecord.jaws 2 b
  | .descend, true => if station.headDown then b.onRecord fun r => { r with down := true } else b
  | .descend, false => judgeLine InsertionRecord.down 3 b
  | .clinch, true => b
  | .clinch, false => judgeLine InsertionRecord.returned 4 b
  | .sense, true =>
    b.onRecord fun r => { r with leadA := r.leadA || station.leadA, leadB := r.leadB || station.leadB }
  | .sense, false => senseClose b
  | .retract, true => if station.headUp then seeUp b else b
  | .retract, false => retractClose b
  | .decision, true => decisionOpen b
  | .decision, false => decisionClose b

/-- A window is marked open or closed, and its owner takes the event (R7). -/
def takeWindow (station : Station) (w : Window) (opens : Bool) (b : Blocks) : Blocks :=
  windowEvent station w opens (b.onShaft fun s => { s with opened := put s.opened (windowIndex w) opens })

/-- R7: the event a window has at an angle in the present revolution: an open event at its start angle, a close event at
its end angle while it stands open. -/
def Shaft.eventAt (s : Shaft) (angle : Nat) (w : Window) : Option Bool :=
  if (actsOnlyInAdvance w && !s.advance) || !(s.arc w).loaded then none
  else if (s.arc w).start = angle then some true
  else if (s.arc w).stop = angle ∧ s.isOpen w = true then some false
  else none

/-- The order in which the windows that share an angle are taken: those the sample lists first, then the others. -/
def windowOrder (station : Station) : List Window :=
  station.order.eraseDups ++ allWindows.filter fun w => !station.order.contains w

/-- R7: the window events of a sample, each taken while the revolution is still live (R8). -/
def windowEvents (station : Station) (angle : Nat) (b : Blocks) : Blocks :=
  (windowOrder station).foldl (fun b w =>
    if b.shaft.live then
      match b.shaft.eventAt angle w with
      | some opens => takeWindow station w opens b
      | none => b
    else b) b

end Sys2Proof.Machine
end

