-- ==== Sys2Proof/Machine/Shaft.lean ====
section
/-! DEFINITION. Machine/Shaft.lean: the shaft's counting, its registration check and the live revolution (R1 to R7), and the
meaning of ENCODER_SAMPLE. -/

namespace Sys2Proof.Machine

/-- R1: a forward count. -/
def Shaft.countForward (s : Shaft) : Shaft :=
  { s with angle := if Config.lastAngle ≤ s.angle then 0 else s.angle + 1, distance := min (s.distance + 1) Config.missingIndexDistance }

/-- R1: a reverse count. -/
def Shaft.countReverse (s : Shaft) : Shaft :=
  { s with angle := if s.angle = 0 then Config.lastAngle else s.angle - 1, distance := max (s.distance - 1) Config.lowestDistance }

/-- R2: the forward crossing sets the angle and the index distance to 0 and leaves the shaft REGISTERED. -/
def Shaft.cross (s : Shaft) : Shaft := { s with angle := 0, distance := 0, registered := true }

/-- R2: the forward crossing's count, one higher by the crossing itself, is not a true revolution of a REGISTERED shaft. -/
def Shaft.crossingFault (s : Shaft) : Bool :=
  s.registered && decide (min (s.distance + 1) Config.missingIndexDistance ≠ Config.countsPerRevolution)

/-- SHAFT REGISTRATION occurs (R2, R3). -/
def registrationFault (b : Blocks) : Blocks := occur 1 ⟨none, none, none⟩ b

/-- R6: the revolution a crossing begins is live: its flags are set and the index grant is taken (R84). -/
def beginLive (b : Blocks) : Blocks :=
  let granted := b.chain.grant
  (b.onShaft fun s => { s with live := true, advance := granted }).onChain fun c => { c with grant := false }

/-- R173: one DWELL report. -/
def bumpDwell (b : Blocks) : Blocks :=
  b.onCounters fun c => { c with residency := { c.residency with dwell := bump c.residency.dwell } }

/-- R6: the live revolution is reported to the production counters as an ADVANCE or a DWELL. -/
def reportRevolution (b : Blocks) : Blocks :=
  if b.shaft.advance then countEvent .advance .plain b else countEvent .dwell .plain (bumpDwell b)

/-- R6, R7, R112: a live revolution begins: it is reported, the candidate is chosen, and the windows of start angle 0
open. A COUNTER LIMIT that the report raises is acted on before those windows: of class STOP-NOW it brakes, and none of them
opens (R6 and R7 give no order; DESIGN CHOICE, log entry 46). -/
def startRevolution (station : Station) (b : Blocks) : Blocks :=
  let begun := reportRevolution (beginLive b)
  windowEvents station 0 (choose (reactRise b.alarm begun))

/-- R10: the crossing that registers the shaft in a run to park makes the park request. -/
def requestAfterRegistering (b : Blocks) : Blocks :=
  if b.shaft.machine = .homing ∨ b.shaft.machine = .recovering then b.onShaft fun s => { s with parkRequested := true }
  else b

/-- R2, R6: a crossing made under drive that raised no occurrence. -/
def crossDriven (station : Station) (wasRegistered : Bool) (b : Blocks) : Blocks :=
  let b := b.onShaft Shaft.endRevolution
  if wasRegistered then
    if b.shaft.machine = .cycling ∨ b.shaft.machine = .purging then startRevolution station b else b
  else requestAfterRegistering b

/-- R2: a forward crossing. A false count is reported before anything else follows from the crossing, so the brake it calls
for cuts the old revolution short (R8). -/
def forwardCrossing (station : Station) (b : Blocks) : Blocks :=
  let driven := b.shaftRunLine
  let registered := b.shaft.registered
  let fault := b.shaft.crossingFault
  let b := b.onShaft Shaft.cross
  if fault then registrationFault b
  else if driven then crossDriven station registered b
  else b

/-- R3: a forward sample without the mark brings the index distance to 1441. -/
def Shaft.missesIndex (s : Shaft) : Bool := decide (s.distance + 1 = Config.missingIndexDistance)

/-- R9: the park request is taken at the sample that brings the angle to the park angle. -/
def takePark (b : Blocks) : Blocks :=
  if b.shaftRunLine ∧ b.shaft.parkRequested ∧ b.shaft.angle = b.shaft.parkAngle then parkEvent b else b

/-- R7: the windows of a forward sample under drive; a window of start angle 0 opens on the crossing alone. -/
def sampleWindows (station : Station) (b : Blocks) : Blocks :=
  if b.shaft.live ∧ b.shaft.angle ≠ 0 then windowEvents station b.shaft.angle b else b

/-- R1, R3, R7, R9: a forward sample without the mark. One that misses the index has its fault, and the brake that the
fault calls for, before its window events: it brings about none, and it is no park (R7 gives no order; log entry 34). -/
def forwardCount (station : Station) (b : Blocks) : Blocks :=
  let driven := b.shaftRunLine
  let missed := b.shaft.missesIndex
  let b := b.onShaft Shaft.countForward
  if missed then registrationFault (b.onShaft fun s => { s with registered := false })
  else if driven then takePark (sampleWindows station b)
  else b

/-- R1, R2, R3: a reverse sample. -/
def reverseSample (mark : Bool) (b : Blocks) : Blocks :=
  let driven := b.shaftRunLine
  let b :=
    if mark then b.onShaft fun s => { s with angle := Config.lastAngle, distance := Config.lastAngle }
    else b.onShaft Shaft.countReverse
  if driven then registrationFault b else b

/-- An encoder sample at the shaft monitor. -/
def encoderSample (forward mark : Bool) (station : Station) (b : Blocks) : Blocks :=
  if forward then if mark then forwardCrossing station b else forwardCount station b
  else reverseSample mark b

/-- ENCODER_SAMPLE (R1). -/
def execEncoderSample (forward mark : Bool) (station : Station) (s : State) : Host.Outcome State Fault Refusal :=
  .next (s.onBlocks (encoderSample forward mark station))

end Sys2Proof.Machine
end

