-- ==== Sys2Proof/Machine/Sensors.lean ====
section
/-! DEFINITION. Machine/Sensors.lean: the events of the sensor lines of the verify station, the gate, the chain, the stripper
and the head (chapters 5 and 7), outside the window events of an encoder sample. A line's event that no rule waits for
changes nothing (log entry 4). -/

namespace Sys2Proof.Machine

/-- A meaning that acts on the blocks alone. -/
def onlyBlocks (f : Blocks → Blocks) (s : State) : Host.Outcome State Fault Refusal := .next (s.onBlocks f)

/-! ## Verify station -/

/-- R91, R92: MEASURE SENSE trips at a tick of the running measurement or phase. -/
def measureTrip (ticks : Nat) (b : Blocks) : Blocks :=
  match b.verifier.running with
  | none => b
  | some m =>
    let count := b.verifier.reached m ticks
    endPhase m (b.verifier.readCount m.kind count) count b

/-- MEASURE_SENSE_TRIP (R91). -/
def execMeasureSenseTrip (count : Nat) (s : State) : Host.Outcome State Fault Refusal := onlyBlocks (measureTrip count) s

/-- R92: a diode phase ends OPEN when its count exceeds the last band's max count, which a max count of 65535 rules out. -/
def phaseLimit (b : Blocks) : Blocks :=
  match b.verifier.running with
  | none => b
  | some m =>
    let top := b.verifier.lastMax m.kind
    if m.phase = .single ∨ Config.countTop ≤ top then b else endPhase m .opened (top + 1) b

/-- VERIFY_PHASE_LIMIT (R92). -/
def execVerifyPhaseLimit (s : State) : Host.Outcome State Fault Refusal := onlyBlocks phaseLimit s

/-! ## Reject gate -/

/-- R99: GATE HOME goes negated while the gate is pending. -/
def gateLeaves (b : Blocks) : Blocks :=
  if b.chain.gatePending.isSome then b.onChain fun c => { c with gateFire := false } else b

/-- GATE_HOME_NEGATED (R99). -/
def execGateHomeNegated (s : State) : Host.Outcome State Fault Refusal := onlyBlocks gateLeaves s

/-- R99: GATE HOME asserted again while GATE is still open completes the action; a gate that has not left its rest has
nothing to complete. -/
def gateReturns (b : Blocks) : Blocks :=
  match b.chain.gatePending with
  | none => b
  | some pitch =>
    if b.chain.gateFire = false ∧ b.shaft.isOpen .gate = true then
      conclude b (depart true pitch (b.onChain fun c => { c with gatePending := none }))
    else b

/-- GATE_HOME_ASSERTED (R99). -/
def execGateHomeAsserted (s : State) : Host.Outcome State Fault Refusal := onlyBlocks gateReturns s

/-! ## Chain and stripper -/

/-- R86: the first CHAIN INDEX pulse of an advance's INDEX window is expected; every other is unbidden. -/
def chainPulse (b : Blocks) : Blocks :=
  if b.shaft.live = true ∧ b.shaft.advance = true ∧ b.shaft.isOpen .index = true ∧ b.chain.indexSeen = false then
    b.onChain fun c => { c with indexSeen := true }
  else occur 7 ⟨none, none, none⟩ b

/-- CHAIN_INDEX_PULSE (R86). -/
def execChainIndexPulse (s : State) : Host.Outcome State Fault Refusal := onlyBlocks chainPulse s

/-- R88: a STRIP pulse confirms a pending strip. -/
def stripPulse (b : Blocks) : Blocks :=
  match b.chain.stripPending with
  | none => b
  | some pitch => conclude b (depart false pitch (b.onChain fun c => { c with stripPending := none }))

/-- STRIP_SENSOR_PULSE (R88). -/
def execStripSensorPulse (s : State) : Host.Outcome State Fault Refusal := onlyBlocks stripPulse s

/-! ## Head -/

/-- R129, R130, R132: a line's event while its window is open in a revolution with a grant marks the record. -/
def seeInWindow (w : Window) (f : InsertionRecord → InsertionRecord) (b : Blocks) : Blocks :=
  if b.shaft.isOpen w then b.onRecord f else b

/-- JAWS_CLOSED_ASSERTED (R129). -/
def execJawsClosedAsserted (s : State) : Host.Outcome State Fault Refusal :=
  onlyBlocks (seeInWindow .transfer fun r => { r with jaws := true }) s

/-- HEAD_DOWN_ASSERTED (R130). -/
def execHeadDownAsserted (s : State) : Host.Outcome State Fault Refusal :=
  onlyBlocks (seeInWindow .descend fun r => { r with down := true }) s

/-- CLINCH_RETURN_RISE (R130). -/
def execClinchReturnRise (s : State) : Host.Outcome State Fault Refusal :=
  onlyBlocks (seeInWindow .clinch fun r => { r with returned := true }) s

/-- R132: the contact of one lead seen closed. -/
def InsertionRecord.closeLead (lead : Lead) (r : InsertionRecord) : InsertionRecord :=
  match lead with
  | .a => { r with leadA := true }
  | .b => { r with leadB := true }

/-- LEAD_CONTACT_CLOSE (R132). -/
def execLeadContactClose (lead : Lead) (s : State) : Host.Outcome State Fault Refusal :=
  onlyBlocks (seeInWindow .sense (InsertionRecord.closeLead lead)) s

/-- R131, R113: HEAD UP awaited is cleared, and the lock released. -/
def clearAwaited (b : Blocks) : Blocks := releaseLock (b.onHead fun h => { h with upAwaited := false })

/-- R131: HEAD UP goes from negated to asserted. -/
def headUpRises (b : Blocks) : Blocks :=
  let b := if b.shaft.isOpen .retract then seeUp b else b
  if b.head.upAwaited then clearAwaited b else b

/-- HEAD_UP_ASSERTED (R131). -/
def execHeadUpAsserted (s : State) : Host.Outcome State Fault Refusal := onlyBlocks headUpRises s

/-- R126, R127: the step at offset 0, offered in an open TRANSFER, waits, and its dwell count reaches the limit at this
wait. -/
def Blocks.timesOut (b : Blocks) : Option StepContext :=
  if b.shaft.live = true ∧ b.shaft.isOpen .transfer = true ∧ b.shaft.offerTaken = false ∧ b.alarm.demand < 3 then
    b.offered.bind fun p =>
      if b.board.lowerTierUnresolved p.2.tier = false ∧ (b.firstFailing p.2).isSome = true
          ∧ b.head.dwellLimit ≤ min (p.2.dwell + 1) 64 then some p.2
      else none
  else none

/-- R127: a wait that reaches the dwell limit, by itself: the count is raised, the timeout occurs and the count is 0. An
encoder sample that opens TRANSFER has made the revolution's wait already, so after it this changes nothing, and a limit
lowered meanwhile is judged at the step's next wait (R128, log entry 33). -/
def dwellJudgment (b : Blocks) : Blocks :=
  match b.timesOut with
  | some c => reactRise b.alarm (waitAtHead c.number (takeOffer b))
  | none => b

/-- DWELL_TIMEOUT (R127). -/
def execDwellTimeout (s : State) : Host.Outcome State Fault Refusal := onlyBlocks dwellJudgment s

end Sys2Proof.Machine
end

