-- ==== Sys2Proof/Machine/Drives.lean ====
section
/-! DEFINITION. Machine/Drives.lean: the table drive port, the span drive, the clinch's acknowledgement and the bank bus
(3.6, 6.4 to 6.8, R122). -/

namespace Sys2Proof.Machine

/-! ## Table drive -/

/-- R109: an axis is within a window of its target count. -/
def withinWindow (position target : Int) (window : Nat) : Bool := decide ((position - target).natAbs ≤ window)

/-- R108: a sample counts toward settling. -/
def Positioner.counts (p : Positioner) (t : Target) (number : Nat) (stage : Stage) : Bool :=
  decide (number = p.targetNumber) && decide (stage = .quarter t.q)

/-- R109: a counting sample lies within a window on both axes. -/
def Positioner.sampleWithin (p : Positioner) (t : Target) (number : Nat) (x y : Int) (stage : Stage) (window : Nat) :
    Bool :=
  p.counts t number stage && withinWindow x t.x window && withinWindow y t.y window

/-- R108, R109: a sample applied while target `t` is held. -/
def Positioner.applySample (p : Positioner) (t : Target) (number : Nat) (x y : Int) (stage : Stage) : Positioner :=
  let coarse := p.sampleWithin t number x y stage p.config.coarse
  let fine := coarse && p.sampleWithin t number x y stage p.config.fine
  let coarseRun := if coarse then min (p.coarseRun + 1) Config.coarseFull else 0
  let fineRun := if fine then min (p.fineRun + 1) Config.fineFull else 0
  let unmatched := if number = p.targetNumber then 0 else p.unmatched
  { p with coarseRun := coarseRun, fineRun := fineRun, silence := 0, silenceReported := false, unmatched := unmatched }

/-- R116: the settle state, which was `was`, has left FINE under the lock for the first time. TABLE SLIP has the locked
step and its kind as context, whether the step's context stands in the window or not. The lock names its step by number, so
under a lock that has outlived its board the step of that number on the new board gets the SLIP flag (R116 does not say;
DESIGN CHOICE, log entry 52). -/
def judgeSlip (was : Settle) (b : Blocks) : Blocks :=
  match b.positioner.lock with
  | none => b
  | some n =>
    if was = .fine ∧ b.positioner.settle ≠ .fine ∧ b.positioner.slipReported = false then
      let b := b.onPositioner fun p => { p with slipReported := true }
      let b := b.onStep n fun c => if c.state = .resolved then c else { c with slip := true }
      raise 13 ⟨some n, none, b.positioner.lockKind⟩ b
    else b

/-- R108, R109, R116: a position sample that passed the port's line check. -/
def takeSample (number : Nat) (x y : Int) (stage : Stage) (b : Blocks) : Blocks :=
  match b.positioner.target with
  | none => b.onPositioner fun p => { p with silence := 0 }
  | some t =>
    let was := b.positioner.settle
    reactRise b.alarm (judgeSlip was (b.onPositioner fun p => p.applySample t number x y stage))

/-- POSITION_SAMPLE (R108). A sample that fails the line check is taken as no sample. -/
def execPositionSample (passed : Bool) (number : Nat) (x y : Int) (stage : Stage) (s : State) :
    Host.Outcome State Fault Refusal :=
  onlyBlocks (if passed then takeSample number x y stage else id) s

/-- R110: the silence time stands at 10 ms and both runs at 0. -/
def Positioner.fallSilent (p : Positioner) : Positioner :=
  { p with silence := Config.silenceLimit, coarseRun := 0, fineRun := 0 }

/-- R110: TABLE DRIVE SILENT occurs once for a silence. -/
def reportSilence (t : Target) (b : Blocks) : Blocks :=
  if b.positioner.silenceReported then b
  else raise 12 ⟨some t.served, none, none⟩ (b.onPositioner fun p => { p with silenceReported := true })

/-- R110, R116: the silence time reaches 10 ms while a target is held. -/
def driveSilent (b : Blocks) : Blocks :=
  match b.positioner.target with
  | none => b
  | some t =>
    let was := b.positioner.settle
    reactRise b.alarm (reportSilence t (judgeSlip was (b.onPositioner Positioner.fallSilent)))

/-- TABLE_DRIVE_SILENT (R110). -/
def execTableDriveSilent (s : State) : Host.Outcome State Fault Refusal := onlyBlocks driveSilent s

/-- R107: the current target command is sent again, unchanged. -/
def resendTarget (b : Blocks) : Blocks :=
  match b.positioner.target with
  | none => b
  | some t => b.emit (b.positioner.command t)

/-- TARGET_COMMAND_RESEND (R107). -/
def execTargetCommandResend (s : State) : Host.Outcome State Fault Refusal := onlyBlocks resendTarget s

/-! ## Span drive and clinch -/

/-- R115: SPAN AT TARGET rises. A rise at the moment of a send counts as a rise before it. -/
def spanRises (withSend : Bool) (b : Blocks) : Blocks :=
  b.onPositioner fun p =>
    if withSend then { p with spanReady := false }
    else { p with spanReady := p.spanReady || p.spanSent, spanSent := false }

/-- SPAN_AT_TARGET_RISE (R115). -/
def execSpanAtTargetRise (withSend : Bool) (s : State) : Host.Outcome State Fault Refusal :=
  onlyBlocks (spanRises withSend) s

/-- SPAN_AT_TARGET_FALL (R115). -/
def execSpanAtTargetFall (s : State) : Host.Outcome State Fault Refusal :=
  onlyBlocks (fun b => b.onPositioner fun p => { p with spanReady := false }) s

/-- R122: PROFILE ACK rises. While the outputs are released, and at the moment of a drive, it leaves profile ready
clear. -/
def profileRises (withDrive : Bool) (b : Blocks) : Blocks :=
  let released := b.head.output.isNone || b.alarm.eStopActive
  b.onHead fun h =>
    if withDrive then { h with ready := false }
    else { h with ready := !released && (h.ready || h.driven), driven := false }

/-- PROFILE_ACK_RISE (R122). -/
def execProfileAckRise (withDrive : Bool) (s : State) : Host.Outcome State Fault Refusal :=
  onlyBlocks (profileRises withDrive) s

/-- PROFILE_ACK_FALL (R122). -/
def execProfileAckFall (s : State) : Host.Outcome State Fault Refusal :=
  onlyBlocks (fun b => b.onHead fun h => { h with ready := false }) s

/-! ## Bank bus -/

/-- R53: a poll frame, unless a FIRE window is open. -/
def pollBanks (b : Blocks) : Blocks :=
  if b.shaft.isOpen .fire then b
  else
    let number := nextFrame b.source.frame
    (b.onSource fun s => { s with frame := number }).emit (.pollFrame number)

/-- POLL_FRAME (R53). -/
def execPollFrame (s : State) : Host.Outcome State Fault Refusal := onlyBlocks pollBanks s

/-- R55: the home set of a fire reply is judged. -/
def judgeHome (bank : Nat) (home : BitVec 8) (f : FireFrame) (b : Blocks) : Blocks :=
  match f.fires.find? fun e => decide (bankOf e.dispenser = bank) with
  | none => b
  | some e =>
    if home.getLsbD (e.dispenser % 8) then b
    else
      let jammed := jam e.dispenser (raise 10 ⟨some e.step, some e.dispenser, some e.kind⟩ b)
      settleDispensers b.source [e.dispenser] jammed

/-- R54, R55: a reply to the outstanding fire frame, the bank's first, is recorded and judged. Of a second reply of the bank
the home set alone is ignored, its presses and reports being taken as those of every reply (log entry 38). -/
def takeHome (bank frame : Nat) (home : BitVec 8) (b : Blocks) : Blocks :=
  match b.source.outstanding with
  | none => b
  | some f =>
    if f.number = frame ∧ f.replied.contains bank = false then
      judgeHome bank home f (b.onSource fun s => { s with outstanding := some { f with replied := bank :: f.replied } })
    else b

/-- R43: an EMPTY SENSE report. -/
def takeEmptySense (d : Nat) (b : Blocks) : Blocks :=
  if (look b.source.dispensers d).installed then
    settleDispensers b.source [d] (reportOut d (b.onDispenser d fun e => { e with reel := .empty }))
  else b

/-- R44: dispenser `d` is detached from an OCCUPIED slot that names it unmeasured. A component of the old reel that left
offset V unjudged keeps its source, and proves nothing of the new reel (R47, log entry 31). -/
def detachFrom (d : Nat) : Slot → Slot
  | .occupied o =>
    if o.source = some d ∧ o.verify = .unmeasured then .occupied { o with source := none }
    else if o.source = some d then .occupied { o with unjudged := false }
    else .occupied o
  | s => s

/-- The lowest-numbered step whose reservation names `d`. -/
def Blocks.reservedOn (b : Blocks) (d : Nat) : Option Nat :=
  (b.board.plannedFrom 0).find? fun n =>
    match b.chain.pitchOfStep n with
    | some pitch => (match b.chain.slotOf pitch with | .reserved _ e => decide (e = d) | _ => false)
    | none => false

/-- R44: a LOADED press. The reservations are cancelled after the refill, so a proving-in-flight flag stays clear. R44 ends
"R52 then gives a planning event", and R52 gives one at a gain of availability alone: a press on a dispenser that was available
just before and holds no reservation makes none (DEDUCED, log entry 66). -/
def takePress (d : Nat) (b : Blocks) : Blocks :=
  if (look b.source.dispensers d).installed then
    let held := b.reservedOn d
    let refilled := refill d .proving b
    let detached := refilled.onChain fun c => { c with slots := c.slots.map (detachFrom d) }
    let cancelled := match held with | some k => cancelFrom k detached | none => detached
    let gain := settleGain b.source d cancelled
    planIf (gain.2 || held.isSome) gain.1
  else b

/-- R57: the report and the press of one position, the report first. -/
def takePosition (bank : Nat) (loaded empties : BitVec 8) (b : Blocks) (p : Nat) : Blocks :=
  let b := if empties.getLsbD p then takeEmptySense (bank * 8 + p) b else b
  if loaded.getLsbD p then takePress (bank * 8 + p) b else b

/-- R54 to R57: a bank reply: its home set, then its positions from 0 up, each with its report, its press and the planning
event they bring before the next position is taken (R57 gives the positions no order; log entry 39). The home set is judged,
with the replan and the pass that a jam brings, before any report or press, so a press for the same dispenser clears the jam
(R54 to R57 give no order; DESIGN CHOICE, log entry 57). -/
def takeReply (bank frame : Nat) (home loaded empties : BitVec 8) (b : Blocks) : Blocks :=
  let judged := takeHome bank frame home b
  reactRise b.alarm ((List.range 8).foldl (takePosition bank loaded empties) judged)

/-- BANK_REPLY (R54). -/
def execBankReply (bank frame : Nat) (home loaded empties : BitVec 8) (s : State) : Host.Outcome State Fault Refusal :=
  onlyBlocks (takeReply bank frame home loaded empties) s

end Sys2Proof.Machine
end

