-- ==== Sys2Proof/Machine/Levels.lean ====
section
/-! DEFINITION. Machine/Levels.lean: the LEVEL input lines and the emergency stop (8.3, 9.8), the halted milliseconds (R173)
and power-on reset (R18 and its fellows). An event of a line is an edge: a line already at the level it is said to reach
changes nothing (log entry 4). -/

namespace Sys2Proof.Machine

/-! ## Lines -/

/-- Table 8-3: the code of a line. -/
def codeOf : LevelLine → Nat
  | .guardOpen => 20
  | .airLow => 21
  | .binFull => 22

/-- The level of a line. -/
def levelOfLine (l : LevelLines) : LevelLine → Bool
  | .guardOpen => l.guardOpen
  | .airLow => l.airLow
  | .binFull => l.binFull

/-- A line set to a level. -/
def setLine (l : LevelLines) (line : LevelLine) (level : Bool) : LevelLines :=
  match line with
  | .guardOpen => { l with guardOpen := level }
  | .airLow => { l with airLow := level }
  | .binFull => { l with binFull := level }

/-- R139: the condition of a LEVEL code appears, and the other blocks are told (R144). -/
def conditionAppears (code : Nat) (b : Blocks) : Blocks := concludeDemand b.alarm (appear code b)

/-- R139: the condition of a LEVEL code clears. -/
def conditionClears (code : Nat) (b : Blocks) : Blocks := concludeDemand b.alarm (b.onAlarm fun a => a.clear code)

/-- LEVEL_INPUT_ASSERTED (R139). -/
def execLevelInputAsserted (line : LevelLine) (s : State) : Host.Outcome State Fault Refusal :=
  .next (if levelOfLine s.levels line then s
    else { s with levels := setLine s.levels line true, blocks := conditionAppears (codeOf line) s.blocks })

/-- LEVEL_INPUT_NEGATED (R139). -/
def execLevelInputNegated (line : LevelLine) (s : State) : Host.Outcome State Fault Refusal :=
  .next (if levelOfLine s.levels line then
      { s with levels := setLine s.levels line false, blocks := conditionClears (codeOf line) s.blocks }
    else s)

/-! ## Emergency stop (R166) -/

/-- R166: the appearance of EMERGENCY STOP clears profile ready, and its demand brakes what turns. -/
def stopAppears (b : Blocks) : Blocks := (conditionAppears 0 b).onHead fun h => { h with ready := false }

/-- R166: at the clearing the PROFILE lines are driven again for the profile output. -/
def stopClears (b : Blocks) : Blocks :=
  conditionClears 0 (b.onHead fun h => { h with driven := h.driven || h.output.isSome })

/-- E_STOP_ASSERTED (R166). -/
def execEStopAsserted (s : State) : Host.Outcome State Fault Refusal :=
  .next (if s.levels.eStop then s
    else { s with levels := { s.levels with eStop := true }, blocks := stopAppears s.blocks })

/-- E_STOP_NEGATED (R166). -/
def execEStopNegated (s : State) : Host.Outcome State Fault Refusal :=
  .next (if s.levels.eStop then { s with levels := { s.levels with eStop := false }, blocks := stopClears s.blocks }
    else s)

/-! ## Timebase and resets -/

/-- R173: a 1 ms tick while HALTED. -/
def haltedTick (b : Blocks) : Blocks :=
  if b.shaft.machine = .halted then
    b.onCounters fun c => { c with residency := { c.residency with halted := bump c.residency.halted } }
  else b

/-- HALTED_MILLISECOND (R173). -/
def execHaltedMillisecond (s : State) : Host.Outcome State Fault Refusal := onlyBlocks haltedTick s

/-- R150, R151: the codes of the LEVEL lines found asserted, in ascending order. -/
def assertedCodes (l : LevelLines) : List Nat :=
  (if l.eStop then [0] else []) ++ (if l.guardOpen then [20] else []) ++ (if l.airLow then [21] else [])
    ++ (if l.binFull then [22] else [])

/-- R150, R151: each LEVEL line found asserted makes its code, IDLE after the reset, ACTIVE with count 1 and a notice. The
machine is STOPPED and has no reservation, so the demand that results changes nothing else (R16, R17). The reset makes no alarm
occurrence (R165), so nothing is reported to the counters, which a power-on reset has disabled (DEDUCED against R139's
report, log entry 48). -/
def sampleLevels (l : LevelLines) (b : Blocks) : Blocks :=
  b.onAlarm fun a => (assertedCodes l).foldl (fun a code => a.appear code) a

/-- POWER_ON_RESET (R18, R19, R58, R78, R80, R98, R118, R136, R150, R167, R173, R175, R184). -/
def execPowerOnReset (straps : Straps) (levels : LevelLines) (s : State) : Host.Outcome State Fault Refusal :=
  .next { s with blocks := sampleLevels levels Blocks.reset, link := LinkPort.reset straps, levels := levels }

end Sys2Proof.Machine
end

