-- ==== Sys2Proof/Machine/Link.lean ====
section
/-! DEFINITION. Machine/Link.lean: the receiver (11.2), the credit and the sending of records (11.5), the placing of results
and notices in the upstream queue (R34, R36, R147), and the dispatcher's choice of a record (11.4). -/

namespace Sys2Proof.Machine

/-! ## Receiver -/

/-- Table 11-2: the error counter a discard raises. -/
inductive LinkError where
  | framing | crc | overrun
  deriving DecidableEq, Repr, Inhabited

/-- R178: a link error counter raised by one, no higher than 65535. -/
def bumpError (n : Nat) : Nat := min (n + 1) Config.linkErrorTop

/-- The receiver back in HUNT (R177, R178). -/
def Receiver.toHunt (r : Receiver) : Receiver := { r with phase := .hunt, payload := [], crcHigh := none, gap := 0 }

/-- R178: the counter of a discard. -/
def LinkPort.countError (l : LinkPort) : LinkError → LinkPort
  | .framing => { l with framingErrors := bumpError l.framingErrors }
  | .crc => { l with crcErrors := bumpError l.crcErrors }
  | .overrun => { l with overrunErrors := bumpError l.overrunErrors }

/-- R178: the record under way is discarded, and FEED ERROR occurs. -/
def discard (e : LinkError) (s : State) : State :=
  (s.onLink fun l => { l.countError e with receiver := l.receiver.toHunt }).onBlocks (occur 27 ⟨none, none, none⟩)

/-- R182: the credit count raised by `c`, no higher than 255. -/
def LinkPort.addCredit (l : LinkPort) (c : Nat) : LinkPort := { l with credit := min (l.credit + c) 255 }

/-- The record the receiver has kept. -/
def Receiver.record (r : Receiver) : Record := ⟨r.type, r.payload⟩

/-- R177, R178: a record whose CRC agrees. A RETURN CREDIT is taken at once, whatever the buffer held. -/
def completeRecord (s : State) : State :=
  let r := s.link.receiver.record
  if r.type = typeReturnCredit then
    if r.payload.length = 1 then
      s.onLink fun l => { l.addCredit (byteAt r.payload 0) with receiver := l.receiver.toHunt }
    else discard .framing s
  else if s.link.receiver.full then discard .overrun s
  else s.onLink fun l => { l with input := l.input ++ [r], receiver := l.receiver.toHunt }

/-- R177: HUNT takes the sync byte alone, and notes whether the buffer is full. -/
def huntByte (x : Byte) (s : State) : State :=
  if x = 0xA5#8 then
    s.onLink fun l =>
      { l with receiver := { l.receiver with phase := .type, payload := [], crcHigh := none, full := decide (Config.bufferPlaces ≤ l.input.length), gap := 0 } }
  else s

/-- R177: LENGTH. -/
def lengthByte (x : Byte) (s : State) : State :=
  if Config.maxPayload < x.toNat then discard .framing s
  else
    let next := if x.toNat = 0 then RxPhase.check else .payload
    s.onLink fun l => { l with receiver := { l.receiver with phase := next, length := x.toNat, gap := 0 } }

/-- R177: PAYLOAD keeps n bytes. -/
def payloadByte (x : Byte) (s : State) : State :=
  s.onLink fun l =>
    let kept := l.receiver.payload ++ [x]
    let next := if l.receiver.length ≤ kept.length then RxPhase.check else .payload
    { l with receiver := { l.receiver with phase := next, payload := kept, gap := 0 } }

/-- R177: CHECK keeps two bytes and compares them with the CRC. -/
def checkByte (x : Byte) (s : State) : State :=
  match s.link.receiver.crcHigh with
  | none => s.onLink fun l => { l with receiver := { l.receiver with crcHigh := some x, gap := 0 } }
  | some high =>
    if high ++ x = s.link.receiver.record.crc then completeRecord s else discard .crc s

/-- R177, R178: a byte at the receiver. A byte of a record that lacks its stop bit discards the record. -/
def receiveByte (x : Byte) (stopBit : Bool) (s : State) : State :=
  match s.link.receiver.phase, stopBit with
  | .hunt, true => huntByte x s
  | .hunt, false => s
  | _, false => discard .framing s
  | .type, true => s.onLink fun l => { l with receiver := { l.receiver with phase := .length, type := x, gap := 0 } }
  | .length, true => lengthByte x s
  | .payload, true => payloadByte x s
  | .check, true => checkByte x s

/-- LINK_BYTE_RECEIVED (R177). -/
def execLinkByteReceived (x : Byte) (stopBit : Bool) (s : State) : Host.Outcome State Fault Refusal :=
  .next (receiveByte x stopBit s)

/-- R178: no byte by the third 1 ms tick. -/
def gapTimeout (s : State) : State := if s.link.receiver.phase = .hunt then s else discard .framing s

/-- LINK_GAP_TIMEOUT (R178). -/
def execLinkGapTimeout (s : State) : Host.Outcome State Fault Refusal := .next (gapTimeout s)

/-! ## Credit and sending -/

/-- RETURN_CREDIT (R182). -/
def execReturnCredit (c : Byte) (s : State) : Host.Outcome State Fault Refusal :=
  .next (s.onLink fun l => l.addCredit c.toNat)

/-- R182: with the transmitter idle and credit above 0, sending of the head of the queue begins. -/
def startSend (s : State) : State :=
  match s.link.upstream with
  | [] => s
  | r :: _ =>
    if s.link.sending = false ∧ 0 < s.link.credit then
      (s.onLink fun l => { l with sending := true, credit := l.credit - 1 }).onBlocks fun b => b.emit (.linkRecord r.frame)
    else s

/-- SEND_START (R182). -/
def execSendStart (s : State) : Host.Outcome State Fault Refusal := .next (startSend s)

/-- R182: the record that was being sent leaves the queue. -/
def LinkPort.finishSend (l : LinkPort) : LinkPort :=
  if l.sending then { l with sending := false, upstream := l.upstream.tail } else l

/-- RECORD_SENT (R182). -/
def execRecordSent (s : State) : Host.Outcome State Fault Refusal := .next (s.onLink LinkPort.finishSend)

/-! ## Placing -/

/-- R182: the upstream queue has a free place. -/
def LinkPort.hasPlace (l : LinkPort) : Bool := decide (l.upstream.length < Config.upstreamPlaces)

/-- A record placed at the tail of the upstream queue. -/
def place (r : Record) (s : State) : State := s.onLink fun l => { l with upstream := l.upstream ++ [r] }

/-- R34: the context at the head of the report order leaves the window and the report order. -/
def Board.reported (b : Board) (n : Nat) : Board :=
  { b with window := b.window.filter (fun c => decide (c.number ≠ n)), reportOrder := b.reportOrder.tail }

/-- R34: a STEP RESULT is placed when a place is free and a resolved context waits. -/
def placeStepResult (s : State) : State :=
  match s.blocks.board.reportOrder with
  | [] => s
  | n :: _ =>
    match s.blocks.board.context? n with
    | none => s
    | some c =>
      if s.link.hasPlace then (place c.resultRecord s).onBlocks fun b => b.onBoard fun d => d.reported n else s

/-- STEP_RESULT_PLACEMENT (R34). -/
def execStepResultPlacement (s : State) : Host.Outcome State Fault Refusal := .next (placeStepResult s)

/-- R36: the board becomes NONE, which is an event at the shaft monitor (R13). -/
def closeBoard (b : Blocks) : Blocks := settleWaiting (b.onBoard fun d => { d with phase := .none })

/-- R36: the BOARD RESULT is placed when the board is CLOSING, its window empty and a place free. -/
def placeBoardResult (s : State) : State :=
  if s.blocks.board.phase = .closing ∧ s.blocks.board.window = [] ∧ s.link.hasPlace = true then
    (place s.blocks.board.resultRecord s).onBlocks closeBoard
  else s

/-- BOARD_RESULT_PLACEMENT (R36). -/
def execBoardResultPlacement (s : State) : Host.Outcome State Fault Refusal := .next (placeBoardResult s)

/-- R147: the code at the head of the list leaves it. -/
def Alarm.noticePlaced (a : Alarm) (code : Nat) : Alarm :=
  { codes := adjust a.codes code (fun e => { e with noticePending := false }), notices := a.notices.tail }

/-- R147: an ALARM NOTICE is placed when a place is free and a notice waits. -/
def placeNotice (s : State) : State :=
  match s.blocks.alarm.notices with
  | [] => s
  | code :: _ =>
    if s.link.hasPlace then
      (place ((look s.blocks.alarm.codes code).noticeRecord code) s).onBlocks fun b =>
        b.onAlarm fun a => a.noticePlaced code
    else s

/-- ALARM_NOTICE_PLACEMENT (R147). -/
def execAlarmNoticePlacement (s : State) : Host.Outcome State Fault Refusal := .next (placeNotice s)

/-! ## Dispatch (R180) -/

/-- A record of the input buffer with the records older and younger than it. -/
structure Picked where
  older : List Record
  record : Record
  younger : List Record
  deriving DecidableEq, Repr, Inhabited

/-- The oldest record that `takeable` accepts; its first argument says whether an older stream record waits. -/
def pickFrom (takeable : Bool → Record → Bool) : Bool → List Record → List Record → Option Picked
  | _, _, [] => none
  | streamWaits, older, r :: rest =>
    if takeable streamWaits r then some ⟨older, r, rest⟩
    else pickFrom takeable (streamWaits || r.isStream) (older ++ [r]) rest

/-- R180: whether a record is takeable. -/
def takeable (windowFull : Bool) (streamWaits : Bool) (r : Record) : Bool :=
  !r.isStream || (!streamWaits && !(decide (r.row = .step) && windowFull))

/-- R180: the step window holds 256 contexts. -/
def Board.windowFull (b : Board) : Bool := decide (Config.windowPlaces ≤ b.window.length)

/-- R180: the record the dispatcher takes next, if any: the oldest takeable one while a place is free, and otherwise the
oldest RESET. -/
def nextRecord (s : State) : Option Picked :=
  if s.link.hasPlace then pickFrom (takeable s.blocks.board.windowFull) false [] s.link.input
  else pickFrom (fun _ r => r.isReset) false [] s.link.input

/-- What the owner of a taken record answers: a refusal, an acceptance or a reply, each with the blocks after it. -/
inductive Answer where
  | refuse (reason : RefusalReason) (detail : Detail) (b : Blocks)
  | accept (b : Blocks)
  | reply (r : Record) (b : Blocks)
  deriving DecidableEq, Repr, Inhabited

/-- R181: the answer's effect: its blocks, and its record placed. -/
def Answer.give (a : Answer) (type : Byte) (s : State) : State :=
  match a with
  | .refuse reason detail b => place (refusal type reason detail) { s with blocks := b }
  | .accept b => { s with blocks := b }
  | .reply r b => place r { s with blocks := b }

/-- The state with a picked record out of the input buffer (R179). -/
def State.without (s : State) (p : Picked) : State := s.onLink fun l => { l with input := p.older ++ p.younger }

/-- R180: the dispatcher takes its next record, when that record belongs to `row`; otherwise this row's step does not come
about. -/
def takeRow (row : Row) (f : Record → State → State) (s : State) : State :=
  match nextRecord s with
  | none => s
  | some p => if p.record.row = row then f p.record (s.without p) else s

/-- R181: the length is checked first, and the rest is the owner's. -/
def answerRow (row : Row) (length : Nat) (f : List Byte → Blocks → Answer) (s : State) :
    Host.Outcome State Fault Refusal :=
  .next (takeRow row (fun r s =>
    if r.payload.length = length then (f r.payload s.blocks).give r.type s
    else (Answer.refuse .range (.number r.payload.length) s.blocks).give r.type s) s)

/-- R181, R183: a record that no other row takes: an unknown type, a LOAD of an unknown table, or a CONTROL of an unknown
subcommand. -/
def answerOther (r : Record) (b : Blocks) : Answer :=
  if r.type = typeLoad then
    if r.payload = [] then .refuse .range (.number 0) b else .refuse .range (.number (byteAt r.payload 0)) b
  else if r.type = typeControl then
    if r.payload.length = 2 then .refuse .range .none b else .refuse .range (.number r.payload.length) b
  else .refuse .unknownType (.number r.type.toNat) b

/-- UNKNOWN_TYPE_RECORD (R181). -/
def execUnknownTypeRecord (s : State) : Host.Outcome State Fault Refusal :=
  .next (takeRow .other (fun r s => (answerOther r s.blocks).give r.type s) s)

/-- QUERY (R181). The counts of the reply are those of the buffer without the QUERY and of the queue before the reply
(log entry 9). -/
def execQuery (s : State) : Host.Outcome State Fault Refusal :=
  .next (takeRow .query (fun r s =>
    if r.payload.length = 0 then place (statusReply s.blocks s.link) s
    else (Answer.refuse .range (.number r.payload.length) s.blocks).give r.type s) s)

end Sys2Proof.Machine
end

