-- ==== Sys2Proof/Machine/Records.lean ====
section
/-! DEFINITION. Machine/Records.lean: the stream records at the board manager: BOARD START (R20, R21), STEP with the stepping
transform (R22 to R25, R104 to R106), BOARD END (R33) and BAD IMAGE (R29 to R31). -/

namespace Sys2Proof.Machine

/-! ## BOARD START -/

/-- The first index below `n` that `test` accepts. -/
def firstIndex (n : Nat) (test : Nat → Bool) : Option Nat := (List.range n).find? test

/-- Table 2-2, check 3: an installed dispenser stands from V+1 to L−2. -/
def offsetBad (c : Chain) (d : Dispenser) : Bool :=
  d.installed && !(decide (c.verifyOffset + 1 ≤ d.offset) && decide (d.offset + 2 ≤ c.length))

/-- Table 2-2, check 4: a loaded kind names a dispenser that is not installed, or pins an index beyond its list. -/
def sourcesBad (s : Source) (k : Kind) : Bool :=
  k.sources.any (fun d => !(look s.dispensers d).installed)
    || (match k.pin with | some i => decide (k.sources.length ≤ i) | none => false)

/-- Table 2-2, check 5: a loaded kind's band set runs beyond the band table, or has an entry that is unloaded or fails to exceed
its predecessor. -/
def bandsBad (v : Verifier) (k : Kind) : Bool :=
  decide (128 < k.bandStart + k.bandCount) || (v.bandFault k).isSome

/-- A test of a kind entry that an unloaded one passes. -/
def loadedAnd (test : Kind → Bool) (e : KindEntry) : Bool :=
  match e.entry with
  | some k => test k
  | none => false

/-- R21, Table 2-2: the first cross-table check that fails, as the table and index of its detail. -/
def crossFault (b : Blocks) (mask : BitVec 16) : Option (Nat × Nat) :=
  let checks : List (Option (Nat × Nat)) :=
    [ b.shaft.camFault.map (fun e => (0, e)),
      if b.chain.loaded then none else some (1, 0),
      (firstIndex 96 (fun d => offsetBad b.chain (look b.source.dispensers d))).map (fun d => (3, d)),
      (firstIndex 256 (fun k => loadedAnd (sourcesBad b.source) (look b.source.kinds k))).map (fun k => (2, k)),
      (firstIndex 256 (fun k => loadedAnd (bandsBad b.verifier) (look b.source.kinds k))).map (fun k => (2, k)),
      (firstIndex 16 (fun i => mask.getLsbD i && !(look b.positioner.images i).installed)).map (fun i => (5, i)),
      if b.positioner.config.loaded then none else some (6, 0) ]
  (checks.filterMap id).head?

def correctionBad (x : Int) : Bool := decide (x < -2000) || decide (2000 < x)

/-- R20: the board opened by a BOARD START payload. -/
def Board.start (d : Board) (p : List Byte) : Board :=
  { d with
    phase := .opened, id := u32At p 0, goodMask := BitVec.ofNat 16 (u16At p 4), dx := s16At p 6, dy := s16At p 8
    expectedCount := if bitAt p 10 0 then some (u24At p 11) else none
    expectedStep := 0, lastTier := 0, endStatus := .complete, tallies := ⟨0, 0, 0, 0, 0, 0, 0⟩ }

/-- R20: a BOARD START record at the board manager. Where several fields fail, RANGE names the first of dx, dy and the
expected step count (R20 gives no order; log entry 35). -/
def takeBoardStart (p : List Byte) (b : Blocks) : Answer :=
  if b.board.standing then .refuse .boardOpen (.number b.board.id) b
  else if correctionBad (s16At p 6) then .refuse .range (.field 6) b
  else if correctionBad (s16At p 8) then .refuse .range (.field 8) b
  else if bitAt p 10 0 = true ∧ Config.maxSteps < u24At p 11 then .refuse .range (.field 11) b
  else
    match crossFault b (BitVec.ofNat 16 (u16At p 4)) with
    | some fault => .refuse .config (.entry fault.1 fault.2) b
    | none => .accept (b.onBoard fun d => d.start p)

/-- BOARD_START (R20). -/
def execBoardStart (s : State) : Host.Outcome State Fault Refusal := answerRow .boardStart 14 takeBoardStart s

/-! ## The stepping transform (R104 to R106) -/

/-- Table 6-3: the quarter-turn rotation. -/
def turnBy (q : Nat) (u v : Int) : Int × Int :=
  match q with
  | 0 => (u, v)
  | 1 => (-v, u)
  | 2 => (-u, -v)
  | _ => (v, -u)

/-- R105: a quotient rounded to the nearest integer, a half going away from zero. -/
def roundQuotient (n : Int) (d : Nat) : Int :=
  let half : Int := ((2 * n.natAbs + d) / (2 * d) : Nat)
  if n < 0 then -half else half

/-- R105: an axis position in board units scaled to motor counts. -/
def scaleCounts (x : Int) (k : Nat) : Int := roundQuotient (x * k) 4096

/-- R104, R105: the table target of a position on an image. -/
def transform (t : TableConfig) (image : Image) (dx dy : Int) (x y theta : Nat) : Int × Int :=
  let u : Int := (image.ox : Int) + x + dx - t.rx
  let v : Int := (image.oy : Int) + y + dy - t.ry
  let turned := turnBy theta u v
  (scaleCounts (t.hx - turned.1) t.kx, scaleCounts (t.hy - turned.2) t.ky)

/-- R106: a target lies within the travel limits. -/
def TableConfig.inField (t : TableConfig) (target : Int × Int) : Bool :=
  decide (t.xMin ≤ target.1) && decide (target.1 ≤ t.xMax) && decide (t.yMin ≤ target.2) && decide (target.2 ≤ t.yMax)

/-! ## STEP -/

/-- Table 11-9: the fields of a STEP payload. -/
structure StepFields where
  number : Nat
  kind : Nat
  image : Nat
  x : Nat
  y : Nat
  tier : Nat
  overrideCode : Nat
  theta : Nat
  deriving DecidableEq, Repr, Inhabited

def stepFieldsOf (p : List Byte) : StepFields :=
  { number := u16At p 0, kind := byteAt p 2, image := byteAt p 3, x := u16At p 4, y := u16At p 6,
    tier := byteAt p 8 / 16, overrideCode := byteAt p 8 / 4 % 4, theta := byteAt p 8 % 4 }

def overrideOf : Nat → Option Policy
  | 1 => some .stop
  | 2 => some .mark
  | _ => none

/-- R23: the first field test that fails. -/
def stepFault (f : StepFields) (b : Blocks) : Option (RefusalReason × Detail) :=
  if 60000 < f.x then some (.range, .field 4)
  else if 60000 < f.y then some (.range, .field 6)
  else if 15 < f.image then some (.range, .field 3)
  else if f.overrideCode = 3 then some (.range, .field 8)
  else if f.tier < b.board.lastTier then some (.tier, .number b.board.lastTier)
  else if (b.source.kind? f.kind).isNone then some (.range, .field 2)
  else if !(look b.positioner.images f.image).installed then some (.range, .field 3)
  else none

/-- R24: the context of an accepted step. -/
def StepFields.context (f : StepFields) : StepContext :=
  { number := f.number, kind := f.kind, image := f.image, x := f.x, y := f.y, theta := f.theta, tier := f.tier,
    override := overrideOf f.overrideCode, target := none, state := .queued, source := none, slot := none, makeUps := 0,
    dwell := 0, verify := none, slip := false, passAlt := false, badImage := false, operator := false, outcome := none }

/-- R24: the board record and the window after an acceptance. -/
def Board.acceptStep (d : Board) (c : StepContext) : Board :=
  { d with
    window := d.window ++ [c], expectedStep := d.expectedStep + 1, lastTier := c.tier
    tallies := { d.tallies with accepted := d.tallies.accepted + 1 } }

/-- R25: the new context is skipped for its image, skipped for its target, or QUEUED with a planning event. -/
def settleAccepted (f : StepFields) (b : Blocks) : Blocks :=
  if !b.board.imageGood f.image then resolveBadImage f.number b
  else
    let image := look b.positioner.images f.image
    let target := transform b.positioner.config image b.board.dx b.board.dy f.x f.y f.theta
    let aimed := b.onStep f.number fun c => { c with target := some target }
    if b.positioner.config.inField target then planningEvent aimed else resolve f.number .skippedOutOfField aimed

/-- R22 to R25: a STEP record at the board manager. -/
def takeStep (p : List Byte) (b : Blocks) : Answer :=
  let f := stepFieldsOf p
  match b.board.phase with
  | .none => .refuse .noBoard .none b
  | .closing => .refuse .state .none b
  | .opened =>
    if f.number ≠ b.board.expectedStep then
      .refuse .sequence (.number b.board.expectedStep) (occur 27 ⟨some f.number, none, none⟩ b)
    else
      match b.board.expectedCount.filter (fun n => decide (n ≤ f.number)), stepFault f b with
      | some n, _ => .refuse .countMismatch (.number n) b
      | none, some fault => .refuse fault.1 fault.2 b
      | none, none => .accept (settleAccepted f (b.onBoard fun d => d.acceptStep f.context))

/-- STEP (R22). -/
def execStep (s : State) : Host.Outcome State Fault Refusal := answerRow .step 9 takeStep s

/-! ## BOARD END -/

/-- R33: a BOARD END record at the board manager. -/
def takeBoardEnd (p : List Byte) (b : Blocks) : Answer :=
  let n := u24At p 0
  match b.board.phase with
  | .none => .refuse .noBoard .none b
  | .closing => .refuse .state .none b
  | .opened =>
    if n ≠ b.board.expectedStep then .refuse .countMismatch (.number b.board.expectedStep) b
    else
      match b.board.expectedCount.filter (fun m => decide (m ≠ n)) with
      | some m => .refuse .countMismatch (.number m) b
      | none => .accept (b.onBoard fun d => { d with phase := .closing })

/-- BOARD_END (R33). -/
def execBoardEnd (s : State) : Host.Outcome State Fault Refusal := answerRow .boardEnd 3 takeBoardEnd s

/-! ## BAD IMAGE -/

/-- R31: the deselection of a step whose component lies before the gate. -/
def deselect (n : Nat) (b : Blocks) : Blocks :=
  match b.chain.pitchOfStep n with
  | none => b
  | some pitch =>
    match b.chain.slotOf pitch with
    | .occupied o =>
      if b.chain.beforeGate pitch then
        let turned := b.setSlot pitch (.occupied { o with disposition := .divert, reason := some .deselected })
        choose (turned.onStep n fun c => { c with state := .diverting })
      else b
    | _ => b

def flagBadImage (n : Nat) (b : Blocks) : Blocks := b.onStep n fun c => { c with badImage := true }

/-- R30, R31: what a BAD IMAGE does to one step of its image, by the step's state; the flag is set when a planning event is
due. -/
def dropStep (acc : Blocks × Bool) (c : StepContext) : Blocks × Bool :=
  match c.state with
  | .queued => (resolveBadImage c.number acc.1, true)
  | .planned => (resolveBadImage c.number (cancelStep acc.1 c.number), true)
  | .fired | .verified | .diverting => (deselect c.number (flagBadImage c.number acc.1), acc.2)
  | .stripping | .inserting | .uncertain => (flagBadImage c.number acc.1, acc.2)
  | .resolved => acc

/-- R30, R31: a BAD IMAGE at the steps of its image, with the replan from the lowest PLANNED step it resolved. A repeated
BAD IMAGE finds a slot before the gate that a purge has marked since, and marks it DESELECTED again, as R31 says of every
DIVERTING step, although R29 expects no step to change; the purge can end by it (log entry 37). -/
def dropImage (image : Nat) (b : Blocks) : Blocks × Bool :=
  let steps := b.board.window.filter fun c => decide (c.image = image)
  let lowest := (steps.filter fun c => decide (c.state = .planned)).head?.map StepContext.number
  let dropped := steps.foldl dropStep (b, false)
  let purged := settlePurge dropped.1
  let replanned := match lowest with | some k => cancelFrom k purged.1 | none => purged.1
  (replanned, dropped.2 || purged.2)

/-- R29: the image's flag in the good mask is cleared. -/
def Board.clearImage (d : Board) (image : Nat) : Board :=
  { d with goodMask := d.goodMask &&& ~~~(1#16 <<< image) }

/-- R29: a BAD IMAGE record at the board manager. An image above 15 with the board NONE is refused RANGE (R29 gives the two
refusals no order; log entry 36). -/
def takeBadImage (p : List Byte) (b : Blocks) : Answer :=
  let image := byteAt p 0
  if 15 < image then .refuse .range .none b
  else if b.board.standing then .accept (conclude b (dropImage image (b.onBoard fun d => d.clearImage image)))
  else .refuse .noBoard .none b

/-- BAD_IMAGE (R29). -/
def execBadImage (s : State) : Host.Outcome State Fault Refusal := answerRow .badImage 1 takeBadImage s

end Sys2Proof.Machine
end

