-- ==== Sys2Proof/Machine/Tables.lean ====
section
/-! DEFINITION. Machine/Tables.lean: the LOAD of each table (R4, R37 to R41, R79, R102, R103, R120, R137, R167, R183), the
clearing of the counters (R172, R175) and the READ of every table (R183). -/

namespace Sys2Proof.Machine

/-- The meaning of a LOAD row: the record of one table, of its own length (Table 11-15). -/
def answerLoad (table length : Nat) (f : List Byte → Blocks → Answer) (s : State) : Host.Outcome State Fault Refusal :=
  answerRow (.load table) length f s

/-! ## Table 0: cam -/

/-- R4: the machine states in which the cam table cannot be loaded. -/
def camBusy (b : Blocks) : Bool := b.board.standing || b.shaft.machine.turning

/-- R4: the entry a LOAD of table 0 gives; entry 10 holds the park angle alone. -/
def camEntryOf (p : List Byte) : CamEntry :=
  ⟨true, u16At p 2, if byteAt p 1 = 10 then 0 else u16At p 4⟩

/-- R4: an angle lies outside 0 to 1439, or a start is not below its end. -/
def camAnglesBad (p : List Byte) : Bool :=
  decide (Config.lastAngle < u16At p 2)
    || (decide (byteAt p 1 ≠ 10) && (decide (Config.lastAngle < u16At p 4) || decide (u16At p 4 ≤ u16At p 2)))

/-- R4: a LOAD of table 0 at the shaft monitor. -/
def takeLoadCam (p : List Byte) (b : Blocks) : Answer :=
  if camBusy b then .refuse .busy .none b
  else if 10 < byteAt p 1 ∨ camAnglesBad p = true then .refuse .range (.entry 0 (byteAt p 1)) b
  else .accept (b.onShaft fun s => { s with cam := put s.cam (byteAt p 1) (camEntryOf p) })

/-- LOAD_CAM_TABLE (R4). -/
def execLoadCamTable (s : State) : Host.Outcome State Fault Refusal := answerLoad 0 6 takeLoadCam s

/-! ## Table 1: chain geometry -/

/-- R79: the chain tracker after a LOAD of the geometry. -/
def Chain.rebuild (c : Chain) (l v g : Nat) : Chain :=
  { c with
    loaded := true, length := l, verifyOffset := v, gateOffset := g, slots := List.replicate l .empty, pointer := 0 }

/-- R79: a LOAD of table 1 at the chain tracker. -/
def takeLoadGeometry (p : List Byte) (b : Blocks) : Answer :=
  let l := byteAt p 2
  let v := byteAt p 3
  let g := byteAt p 4
  if byteAt p 1 ≠ 0 then .refuse .range (.number (byteAt p 1)) b
  else if l < 64 ∨ 240 < l then .refuse .range (.field 2) b
  else if v < 2 ∨ 15 < v then .refuse .range (.field 3) b
  else if g < 1 ∨ v ≤ g then .refuse .range (.field 4) b
  else if b.board.standing = true ∨ b.chain.work = true then .refuse .busy .none b
  else .accept (b.onChain fun c => c.rebuild l v g)

/-- LOAD_CHAIN_GEOMETRY (R79). -/
def execLoadChainGeometry (s : State) : Host.Outcome State Fault Refusal := answerLoad 1 5 takeLoadGeometry s

/-! ## Table 2: kind -/

/-- R38: an unresolved step of the window names the kind. -/
def Board.namesKind (d : Board) (k : Nat) : Bool :=
  d.window.any fun c => decide (c.kind = k) && decide (c.state ≠ .resolved)

/-- R38: the kind checks of BOARD START on new fields, sources first. -/
def kindConfigFault (b : Blocks) (k : Kind) : Option (Nat × Nat) :=
  match k.sources.find? fun d => !(look b.source.dispensers d).installed with
  | some d => some (3, d)
  | none => (b.verifier.bandFault k).map fun n => (4, n)

/-- R37, R39: a kind entry as a LOAD leaves it. -/
def kindEntryOf (k : Option Kind) : KindEntry :=
  { entry := k, lastUsed := match k with | some e => e.sources.length - 1 | none => 3, noSource := false }

/-- R37 to R39: a LOAD of table 2 at the source table. -/
def takeLoadKind (p : List Byte) (b : Blocks) : Answer :=
  let id := byteAt p 1
  let fields := if bitAt p 2 7 then none else some (kindOfBytes p)
  let take := Answer.accept (b.onSource fun s => { s with kinds := put s.kinds id (kindEntryOf fields) })
  match (if bitAt p 2 7 then none else kindFieldFault p) with
  | some n => .refuse .range (.field n) b
  | none =>
    if b.board.standing then
      if b.board.namesKind id then .refuse .busy (.number id) b
      else
        match fields.bind (kindConfigFault b) with
        | some fault => .refuse .config (.entry fault.1 fault.2) b
        | none => take
    else take

/-- LOAD_KIND (R37). -/
def execLoadKind (s : State) : Host.Outcome State Fault Refusal := answerLoad 2 23 takeLoadKind s

/-! ## Table 3: dispenser -/

/-- R40: the first field of a dispenser LOAD that fails. -/
def dispenserFieldFault (p : List Byte) : Option Nat :=
  if 1 < byteAt p 2 then some 2
  else if byteAt p 3 < 3 ∨ 238 < byteAt p 3 then some 3
  else if u16At p 4 = 0 then some 4
  else if 1 < byteAt p 8 then some 8
  else none

/-- R40, R41: the entry a LOAD leaves: loaded fields, and a full reel that is OPERATIONAL. -/
def Dispenser.load (e : Dispenser) (p : List Byte) : Dispenser :=
  { e with
    loaded := true, installed := decide (byteAt p 2 = 1), offset := byteAt p 3, capacity := u16At p 4
    threshold := min (u16At p 6) (u16At p 4), enabled := decide (byteAt p 8 = 1) }

/-- R40, R41: the load is taken, with what it changes for planning (R51, R52). -/
def loadDispenser (id : Nat) (p : List Byte) (b : Blocks) : Blocks :=
  let refilled := refill id .operational (b.onDispenser id fun e => e.load p)
  conclude b (settleDispenser b.source id refilled)

/-- R40: a LOAD of table 3 at the source table. -/
def takeLoadDispenser (p : List Byte) (b : Blocks) : Answer :=
  let id := byteAt p 1
  let now := look b.source.dispensers id
  if 95 < id then .refuse .range (.number id) b
  else
    match dispenserFieldFault p with
    | some n => .refuse .range (.field n) b
    | none =>
      if b.board.standing = true ∧ (now.installed ≠ decide (byteAt p 2 = 1) ∨ now.offset ≠ byteAt p 3) then
        .refuse .busy (.number id) b
      else .accept (loadDispenser id p b)

/-- LOAD_DISPENSER (R40). -/
def execLoadDispenser (s : State) : Host.Outcome State Fault Refusal := answerLoad 3 9 takeLoadDispenser s

/-! ## Tables 4 to 6: band, image, table configuration -/

/-- R183: a LOAD of table 4 at the verifier. -/
def takeLoadBand (p : List Byte) (b : Blocks) : Answer :=
  let id := byteAt p 1
  if 127 < id then .refuse .range (.number id) b
  else if bitAt p 2 0 = false ∧ u16At p 3 = 0 then .refuse .range .none b
  else if b.board.standing then .refuse .busy .none b
  else
    let entry := if bitAt p 2 0 then none else some (u16At p 3)
    .accept (b.onVerifier fun v => { v with bands := put v.bands id entry })

/-- LOAD_BAND (R183). -/
def execLoadBand (s : State) : Host.Outcome State Fault Refusal := answerLoad 4 5 takeLoadBand s

/-- R102: a LOAD of table 5 at the positioner. -/
def takeLoadImage (p : List Byte) (b : Blocks) : Answer :=
  let id := byteAt p 1
  if 15 < id then .refuse .range (.number id) b
  else if 1 < byteAt p 2 then .refuse .range (.field 2) b
  else if 60000 < u16At p 3 then .refuse .range (.field 3) b
  else if 60000 < u16At p 5 then .refuse .range (.field 5) b
  else if b.board.standing then .refuse .busy .none b
  else
    let image : Image := ⟨decide (byteAt p 2 = 1), u16At p 3, u16At p 5⟩
    .accept (b.onPositioner fun q => { q with images := put q.images id image })

/-- LOAD_IMAGE (R102). -/
def execLoadImage (s : State) : Host.Outcome State Fault Refusal := answerLoad 5 7 takeLoadImage s

/-- R103: a LOAD of table 6 at the positioner. -/
def takeLoadTableConfiguration (p : List Byte) (b : Blocks) : Answer :=
  if byteAt p 1 ≠ 0 then .refuse .range (.number (byteAt p 1)) b
  else
    match tableConfigFault p with
    | some n => .refuse .range (.field n) b
    | none =>
      if b.board.standing then .refuse .busy .none b
      else .accept (b.onPositioner fun q => { q with config := tableConfigOfBytes p })

/-- LOAD_TABLE_CONFIGURATION (R103). -/
def execLoadTableConfiguration (s : State) : Host.Outcome State Fault Refusal :=
  answerLoad 6 32 takeLoadTableConfiguration s

/-! ## Table 7: clinch profile -/

/-- R120: the first field of a clinch profile LOAD that fails. -/
def profileFieldFault (p : List Byte) : Option Nat :=
  if 15 < byteAt p 1 then some 1
  else if bitAt p 2 0 then none
  else if 2 < byteAt p 3 then some 3
  else if 3 < byteAt p 4 then some 4
  else none

/-- R121: while the lock is FREE the controller compares again against the last candidate handed over. -/
def recompare (b : Blocks) : Blocks :=
  match b.positioner.lock, b.head.handed with
  | none, some q => b.onHead fun h => h.compareProfile q
  | _, _ => b

/-- R120, R121: a LOAD of table 7 at the head and clinch controller. -/
def takeLoadProfile (p : List Byte) (b : Blocks) : Answer :=
  match profileFieldFault p with
  | some n => .refuse .range (.field n) b
  | none =>
    let entry : Option Profile := if bitAt p 2 0 then none else some ⟨directionOf (byteAt p 3), byteAt p 4⟩
    .accept (recompare (b.onHead fun h => { h with profiles := put h.profiles (byteAt p 1) entry }))

/-- LOAD_CLINCH_PROFILE (R120). -/
def execLoadClinchProfile (s : State) : Host.Outcome State Fault Refusal := answerLoad 7 5 takeLoadProfile s

/-! ## Table 8: alarm class -/

/-- R137: a class taken for a code. -/
def Alarm.setClass (a : Alarm) (code : Nat) (cls : AlarmClass) : Alarm :=
  { a with codes := adjust a.codes code fun e => { e with cls := cls } }

/-- R137: a LOAD of table 8 at the alarm controller. -/
def takeLoadClass (p : List Byte) (b : Blocks) : Answer :=
  let code := byteAt p 1
  if 31 < code then .refuse .range (.field 1) b
  else if code < 2 then .refuse .fixed .none b
  else if 3 < byteAt p 2 then .refuse .range (.field 2) b
  else .accept (concludeDemand b.alarm (b.onAlarm fun a => a.setClass code (alarmClassOf (byteAt p 2))))

/-- LOAD_ALARM_CLASS (R137). -/
def execLoadAlarmClass (s : State) : Host.Outcome State Fault Refusal := answerLoad 8 3 takeLoadClass s

/-! ## Table 9: counter configuration -/

/-- R167: a LOAD of table 9 at the production counters. -/
def takeLoadCounter (p : List Byte) (b : Blocks) : Answer :=
  if 3 < byteAt p 1 then .refuse .range (.field 1) b
  else if 14 < byteAt p 2 then .refuse .range (.field 2) b
  else .accept (b.onCounters fun c => { c with events := put c.events (byteAt p 1) (counterOfBytes p) })

/-- LOAD_COUNTER_CONFIGURATION (R167). -/
def execLoadCounterConfiguration (s : State) : Host.Outcome State Fault Refusal := answerLoad 9 11 takeLoadCounter s

/-! ## Table 10: limits -/

/-- R76: the highest make-up count of the window. -/
def Board.highestMakeUps (d : Board) : Nat := d.window.foldl (fun m c => max m c.makeUps) 0

/-- R76, R183: the make-up limit as taken. -/
def makeUpLimitOf (n : Nat) (d : Board) : Nat := if d.standing then max (min n 7) d.highestMakeUps else min n 7

/-- R183: the limits taken by their owners. -/
def setLimits (p : List Byte) (b : Blocks) : Blocks :=
  let makeUps := makeUpLimitOf (byteAt p 2) b.board
  (((b.onPlanner fun q => { q with makeUpLimit := makeUps }).onHead fun h =>
    { h with dwellLimit := max (byteAt p 3) 1 }).onVerifier fun v => { v with shortLimit := byteAt p 4 }).onShaft fun s =>
    { s with resumeChoice := resumeChoiceOf (byteAt p 5) }

/-- R183: a LOAD of table 10. -/
def takeLoadLimits (p : List Byte) (b : Blocks) : Answer :=
  if byteAt p 1 ≠ 0 then .refuse .range (.number (byteAt p 1)) b
  else if 64 < byteAt p 3 ∨ 2 < byteAt p 5 then .refuse .range .none b
  else .accept (setLimits p b)

/-- LOAD_LIMITS (R183). -/
def execLoadLimits (s : State) : Host.Outcome State Fault Refusal := answerLoad 10 6 takeLoadLimits s

/-! ## Clearing counters -/

/-- R172: an event counter after CLEAR COUNTERS. -/
def EventCounter.clear (c : EventCounter) : EventCounter :=
  { c with value := 0, occurred := false, previous := false, limitReported := false }

/-- R172. -/
def clearCounters (b : Blocks) : Blocks := b.onCounters fun c => { c with events := c.events.map EventCounter.clear }

/-- CLEAR_COUNTERS (R172). -/
def execClearCounters (s : State) : Host.Outcome State Fault Refusal :=
  answerRow (.control 6) 2 (fun _ b => .accept (clearCounters b)) s

/-- R175. -/
def clearStatistics (b : Blocks) : Blocks :=
  b.onCounters fun c => { c with statistics := Vector.replicate 64 ⟨0, 0, 0, 0⟩ }

/-- CLEAR_STATISTICS (R175). -/
def execClearStatistics (s : State) : Host.Outcome State Fault Refusal :=
  answerRow (.control 5) 2 (fun _ b => .accept (clearStatistics b)) s

/-! ## READ -/

def flagByte (b : Bool) : Byte := byteOf (flag b 0)

/-- R183: the contents a READ of tables 0 to 7 returns, with the loaded bit; a table without a loaded flag sets it. -/
def readLoaded (table i : Nat) (b : Blocks) : Bool × List Byte :=
  match table with
  | 0 =>
    let e := look b.shaft.cam i
    (e.loaded, be16 e.start ++ be16 e.stop)
  | 1 =>
    let c := b.chain
    (c.loaded, [byteOf c.length, byteOf c.verifyOffset, byteOf c.gateOffset])
  | 2 =>
    match b.source.kind? i with
    | some k => (true, k.bytes)
    | none => (false, List.replicate 21 0)
  | 3 =>
    let d := look b.source.dispensers i
    (d.loaded,
      [flagByte d.installed, byteOf d.offset] ++ be16 d.capacity ++ be16 d.threshold ++ [flagByte d.enabled])
  | 4 =>
    let e := look b.verifier.bands i
    (e.isSome, 0 :: be16 (orZero e))
  | 5 =>
    let m := look b.positioner.images i
    (true, flagByte m.installed :: (be16 m.ox ++ be16 m.oy))
  | 6 => (b.positioner.config.loaded, b.positioner.config.bytes)
  | _ =>
    match look b.head.profiles i with
    | some v => (true, [0, byteOf v.direction.index, byteOf v.cut])
    | none => (false, [0, 0, 0])

/-- The ids of a kind's sources that are available for it, in list order (R39). -/
def Source.availableSources (s : Source) (k : KindEntry) : List Nat :=
  match k.entry with
  | some e => e.sources.filter fun d => s.available d e
  | none => []

/-- R183: the contents a READ of tables 8 to 16 returns. -/
def readState (table i : Nat) (b : Blocks) : List Byte :=
  match table with
  | 8 => (look b.alarm.codes i).readBytes i
  | 9 => (look b.counters.events i).bytes
  | 10 =>
    [byteOf b.planner.makeUpLimit, byteOf b.head.dwellLimit, byteOf b.verifier.shortLimit,
      byteOf b.shaft.resumeChoice.code]
  | 11 => (look b.source.dispensers i).readBytes (b.source.availableForOwn i)
  | 12 =>
    let k := look b.source.kinds i
    k.readBytes (b.source.availableSources k)
  | 13 => (b.chain.slotAt i).readBytes (b.chain.pitchAt i)
  | 14 => b.counters.events.toList.flatMap EventCounter.readBytes
  | 15 =>
    let r := b.counters.residency
    be32 r.insert ++ be32 r.hole ++ be32 r.dwell ++ be32 r.halted
  | _ =>
    let t := look b.counters.statistics i
    be32 t.fired ++ be32 t.inserted ++ be32 t.verifyFail ++ be32 t.misinsert

/-- Table 11-6: how many indexes a table has. -/
def tableSize (table : Nat) (b : Blocks) : Nat :=
  match table with
  | 0 => 11 | 1 => 1 | 2 => 256 | 3 => 96 | 4 => 128 | 5 => 16 | 6 => 1 | 7 => 16 | 8 => 32 | 9 => 4 | 10 => 1
  | 11 => 96 | 12 => 256 | 13 => b.chain.length | 14 => 1 | 15 => 1 | 16 => 64 | _ => 1

/-- R183: the READ REPLY of an entry. -/
def readEntry (table i : Nat) (b : Blocks) (l : LinkPort) : Record :=
  if table ≤ 7 then
    let found := readLoaded table i b
    readReply table i found.1 found.2
  else if table = 17 then readReply table i true (be16 l.framingErrors ++ be16 l.crcErrors ++ be16 l.overrunErrors)
  else readReply table i true (readState table i b)

/-- R183: a READ record. -/
def takeRead (p : List Byte) (l : LinkPort) (b : Blocks) : Answer :=
  let table := byteAt p 0
  let i := byteAt p 1
  if 17 < table then .refuse .range (.number table) b
  else if tableSize table b ≤ i then .refuse .range (.number i) b
  else .reply (readEntry table i b l) b

/-- READ (R183). -/
def execRead (s : State) : Host.Outcome State Fault Refusal := answerRow .read 2 (fun p b => takeRead p s.link b) s

end Sys2Proof.Machine
end

