-- ==== Sys2Proof/Machine/Control.lean ====
section
/-! DEFINITION. Machine/Control.lean: the CONTROL subcommands and the panel keys that run, stop, resume, purge, abort, reset
and acknowledge (1.5, 8.4, chapter 9). -/

namespace Sys2Proof.Machine

/-- Why a request is refused, if it is. -/
abbrev Objection := Option (RefusalReason × Detail)

/-- A request answered: refused with its objection, or taken. -/
def answerRequest (o : Objection) (take : Blocks → Blocks) (b : Blocks) : Answer :=
  match o with
  | some r => .refuse r.1 r.2 b
  | none => .accept (take b)

/-- A panel key: ignored where the record would be refused. -/
def keyRequest (o : Objection) (take : Blocks → Blocks) (b : Blocks) : Blocks :=
  match o with
  | some _ => b
  | none => take b

/-! ## RUN (R11) -/

def runObjection (b : Blocks) : Objection :=
  if b.shaft.machine ≠ .stopped then some (.state, .none)
  else if b.board.phase = .none then some (.state, .none)
  else if 3 ≤ b.alarm.demand then some (.alarmsOutstanding, .none)
  else none

/-- R11: an UNREGISTERED shaft homes; a REGISTERED one waits, wherever it stands. -/
def takeRun (b : Blocks) : Blocks := if b.shaft.registered then enterWaiting b else startRunToPark .homing b

/-- RUN (R11). -/
def execRun (s : State) : Host.Outcome State Fault Refusal :=
  answerRow (.control 0) 2 (fun _ b => answerRequest (runObjection b) takeRun b) s

/-! ## STOP (R15, R153) -/

def setStopPending (b : Blocks) : Blocks := b.onShaft fun s => { s with stopPending := true }

/-- R15, R153: a STOP in the present machine state. -/
def takeStop (b : Blocks) : Blocks :=
  match b.shaft.machine with
  | .stopped | .halted => b
  | .waiting => enterStopped b
  | .cycling | .recovering | .purging => setStopPending b
  | .homing => if b.shaft.registered then setStopPending b else enterStopped (brake b)

/-- STOP (R15). -/
def execStop (s : State) : Host.Outcome State Fault Refusal := answerRow (.control 1) 2 (fun _ b => .accept (takeStop b)) s

/-- PANEL_STOP (R15). -/
def execPanelStop (s : State) : Host.Outcome State Fault Refusal := onlyBlocks takeStop s

/-! ## RESUME (R154 to R156) -/

/-- R154: the tests after the choice's own. -/
def resumeObjection (purge : Bool) (b : Blocks) : Objection :=
  if b.shaft.machine ≠ .halted then some (.state, .none)
  else if 3 ≤ b.alarm.demand then some (.alarmsOutstanding, .number (orZero b.alarm.presented))
  else if b.board.phase = .none ∧ (b.shaft.atPark = false ∨ purge = true) then
    b.shaft.camFault.map fun e => (.config, .entry 0 e)
  else none

def markOperator (n : Nat) (b : Blocks) : Blocks := b.onStep n fun c => { c with operator := true }

/-- R155: the UNCERTAIN step is decided by the choice. -/
def decideUncertain (choice : ResumeChoice) (b : Blocks) : Blocks :=
  match b.board.window.find? fun c => decide (c.state = .uncertain) with
  | none => b
  | some c =>
    match choice with
    | .reinsert => conclude b (returnStep c.number .reinsert b)
    | .accept => conclude b (reportInsert c.kind (resolve c.number .inserted (markOperator c.number b)), false)
    | .mark => conclude b (reportMisinsert c.kind (resolve c.number .misinserted (markOperator c.number b)), false)

/-- R156: with HEAD UP asserted, a lock that stands is released and HEAD UP awaited cleared. -/
def releaseAtResume (headUp : Bool) (b : Blocks) : Blocks :=
  if headUp && b.positioner.lock.isSome then clearAwaited b else b

/-- R156: the machine leaves HALTED, unless an alarm now stands. -/
def leaveHalted (purge : Bool) (b : Blocks) : Blocks :=
  if 3 ≤ b.alarm.demand then b
  else if b.shaft.atPark then if purge then purgeFromHalt b else planningEvent (enterWaiting b)
  else noteBlocked (startRunToPark .recovering (b.onShaft fun s => { s with purgeRequested := purge }))

/-- R155, R156: a taken RESUME. -/
def takeResume (headUp : Bool) (choice : ResumeChoice) (purge : Bool) (b : Blocks) : Blocks :=
  leaveHalted purge (releaseAtResume headUp (decideUncertain choice b))

/-- R154: a CONTROL RESUME; a choice of 3 is refused before anything else. -/
def takeResumeRecord (headUp : Bool) (p : List Byte) (b : Blocks) : Answer :=
  let code := byteAt p 1 % 4
  let purge := bitAt p 1 7
  if code = 3 then .refuse .range .none b
  else answerRequest (resumeObjection purge b) (takeResume headUp (resumeChoiceOf code) purge) b

/-- RESUME (R154). -/
def execResume (headUp : Bool) (s : State) : Host.Outcome State Fault Refusal :=
  answerRow (.control 2) 2 (takeResumeRecord headUp) s

/-- R153, R158: a panel key that acts as a RESUME, with the default resume choice. -/
def resumeByKey (headUp purge : Bool) (b : Blocks) : Blocks :=
  keyRequest (resumeObjection purge b) (takeResume headUp b.shaft.resumeChoice purge) b

/-- R11, R153: the START key. -/
def startKey (headUp : Bool) (b : Blocks) : Blocks :=
  match b.shaft.machine with
  | .stopped => keyRequest (runObjection b) takeRun b
  | .halted => resumeByKey headUp false b
  | .homing | .waiting | .cycling | .recovering | .purging => b

/-- PANEL_START (R11). -/
def execPanelStart (headUp : Bool) (s : State) : Host.Outcome State Fault Refusal := onlyBlocks (startKey headUp) s

/-! ## PURGE (R159) -/

def purgeObjection (b : Blocks) : Objection :=
  if b.shaft.machine ≠ .stopped ∧ b.shaft.machine ≠ .waiting then some (.state, .none)
  else if 3 ≤ b.alarm.demand then some (.alarmsOutstanding, .none)
  else if b.board.phase = .none then b.shaft.camFault.map fun e => (.config, .entry 0 e)
  else none

/-- PURGE (R159). -/
def execPurge (s : State) : Host.Outcome State Fault Refusal :=
  answerRow (.control 3) 2 (fun _ b => answerRequest (purgeObjection b) purgeStart b) s

/-- R153, R159: the PURGE key. -/
def purgeKey (headUp : Bool) (b : Blocks) : Blocks :=
  match b.shaft.machine with
  | .stopped | .waiting => keyRequest (purgeObjection b) purgeStart b
  | .halted => resumeByKey headUp true b
  | .homing | .cycling | .recovering | .purging => b

/-- PANEL_PURGE (R159). -/
def execPanelPurge (headUp : Bool) (s : State) : Host.Outcome State Fault Refusal := onlyBlocks (purgeKey headUp) s

/-! ## ABORT BOARD (R163, R164) -/

/-- R164: an OCCUPIED slot that names an aborted step. -/
def Component.orphaned (o : Component) (beyondGate : Bool) : Component :=
  if o.reason = some .purge then { o with step := none }
  else
    { o with step := none, disposition := if beyondGate then .divert else .strip, reason := some .orphan }

/-- R164: the step's component is detached from its slot. -/
def orphanStep (n : Nat) (b : Blocks) : Blocks :=
  match b.chain.pitchOfStep n with
  | none => b
  | some pitch =>
    match b.chain.slotOf pitch with
    | .occupied o =>
      choose (b.setSlot pitch (.occupied (o.orphaned (decide (b.chain.gateOffset ≤ b.chain.offsetOf pitch)))))
    | _ => b

/-- R163: one unresolved step's own part of an abort; the flag is set when a dispenser became available again (R52). -/
def abortStep (acc : Blocks × Bool) (c : StepContext) : Blocks × Bool :=
  match c.state with
  | .resolved => acc
  | .planned =>
    let undone := undoReservation c.number acc.1
    (resolve c.number .aborted undone.1, acc.2 || undone.2)
  | .fired | .verified | .diverting | .stripping => (resolve c.number .aborted (orphanStep c.number acc.1), acc.2)
  | .queued | .inserting | .uncertain => (resolve c.number .aborted acc.1, acc.2)

/-- R163: the board's end status becomes ABORTED, and the board CLOSING. -/
def Board.abort (d : Board) : Board := { d with endStatus := .aborted, phase := .closing }

/-- R163: an accepted ABORT BOARD. -/
def abortBoard (b : Blocks) : Blocks :=
  let aborted := b.board.window.foldl abortStep (b, false)
  planIf aborted.2 (aborted.1.onBoard Board.abort)

/-- ABORT_BOARD (R163). -/
def execAbortBoard (s : State) : Host.Outcome State Fault Refusal :=
  answerRow (.control 4) 2 (fun _ b =>
    if b.board.standing then .accept (abortBoard b) else .refuse .noBoard .none b) s

/-! ## Link reset (R165) -/

/-- R18. -/
def Shaft.linkReset (s : Shaft) : Shaft :=
  { s.endRevolution with
    drive := .held, machine := .stopped, stopPending := false, purgeRequested := false, parkRequested := false }

/-- R58. -/
def Dispenser.linkReset (e : Dispenser) : Dispenser :=
  { e with
    jammed := false, missing := 0, badPart := 0, proving := false, lowReported := false, outReported := false }

/-- R58. -/
def Source.linkReset (s : Source) : Source :=
  { s with
    kinds := s.kinds.map (fun k => { k with noSource := false }), dispensers := s.dispensers.map Dispenser.linkReset
    outstanding := none }

/-- R80. -/
def Chain.linkReset (c : Chain) : Chain :=
  { c with
    slots := c.slots.map (fun _ => .empty), grant := false, indexSeen := false, stripPending := none, gateDone := false
    gatePending := none, gateFire := false }

/-- R118: the tables and the target number are kept. A span value sent before the reset no longer counts as sent since SPAN AT
TARGET was last asserted (neither R115 nor R118 says; DESIGN CHOICE, log entry 62). -/
def Positioner.linkReset (p : Positioner) : Positioner :=
  { Positioner.reset with images := p.images, config := p.config, targetNumber := p.targetNumber }

/-- R135, R136: the profile table and the dwell limit are kept. -/
def Head.linkReset (h : Head) : Head := { Head.reset with profiles := h.profiles, dwellLimit := h.dwellLimit }

/-- R151: every class is kept. -/
def Alarm.linkReset (a : Alarm) : Alarm := { codes := a.codes.map fun e => AlarmEntry.reset e.cls, notices := [] }

/-- R18, R19, R58, R78, R80, R98, R118, R136, R151: every block after a link reset, before the LEVEL lines are sampled; the
counters are kept (R167, R173, R175). -/
def Blocks.linkReset (b : Blocks) : Blocks :=
  { b with
    shaft := b.shaft.linkReset, board := Board.reset, source := b.source.linkReset
    planner := { b.planner with freeze := false, stopCause := .empty }, chain := b.chain.linkReset
    verifier := { b.verifier with faultRun := [], running := none }, positioner := b.positioner.linkReset
    head := b.head.linkReset, alarm := b.alarm.linkReset }

/-- R184: the link port after a link reset, with the records younger than the RESET. -/
def LinkPort.linkReset (l : LinkPort) (younger : List Record) : LinkPort :=
  { l with input := younger, upstream := if l.sending then l.upstream.take 1 else [] }

/-- R165, R184: a RESET record taken from the buffer. -/
def resetBy (p : Picked) (s : State) : State :=
  if p.record.payload.length = 2 then
    { s with blocks := sampleLevels s.levels s.blocks.linkReset, link := s.link.linkReset p.younger }
  else
    (Answer.refuse .range (.number p.record.payload.length) s.blocks).give p.record.type (s.without p)

/-- LINK_RESET (R165). -/
def execLinkReset (s : State) : Host.Outcome State Fault Refusal :=
  .next (match nextRecord s with
    | none => s
    | some p => if p.record.row = .control 7 then resetBy p s else s)

/-! ## Acknowledgement (R140, R141) -/

/-- R140: an acknowledgement of a code, with the fall of the demand it may bring. -/
def acknowledge (code : Nat) (b : Blocks) : Blocks := concludeDemand b.alarm (b.onAlarm fun a => a.acknowledge code)

/-- R140: an ACKNOWLEDGE ALARM record. -/
def takeAcknowledge (p : List Byte) (b : Blocks) : Answer :=
  let n := byteAt p 0
  if 31 < n ∧ n < 255 then .refuse .range .none b
  else
    match (if n = 255 then b.alarm.presented else some n) with
    | none => .refuse .notLatched .none b
    | some code =>
      if (look b.alarm.codes code).state = .idle then .refuse .notLatched (.number code) b
      else .accept (acknowledge code b)

/-- ACKNOWLEDGE_ALARM (R140). -/
def execAcknowledgeAlarm (s : State) : Host.Outcome State Fault Refusal := answerRow .acknowledge 1 takeAcknowledge s

/-- R141: the ACK key acts on the presented alarm. -/
def ackKey (b : Blocks) : Blocks :=
  match b.alarm.presented with
  | none => b
  | some code => acknowledge code b

/-- PANEL_ACK (R141). -/
def execPanelAck (s : State) : Host.Outcome State Fault Refusal := onlyBlocks ackKey s

end Sys2Proof.Machine
end

