-- ==== Sys2Proof/Machine/Timebase.lean ====
section
/-! DEFINITION. Machine/Timebase.lean: one tick of the 1 ms timebase, which is what `step` does while no command waits (log
entry 3): the counts that run by the millisecond, and the events whose deadline the tick reaches, each by the operation of
its own row. -/

namespace Sys2Proof.Machine

/-- R178: the tick at the receiver: a record under way is discarded at the third tick without a byte. -/
def tickReceiver (s : State) : State :=
  if s.link.receiver.phase = .hunt then s
  else if Config.gapTicks ≤ s.link.receiver.gap + 1 then gapTimeout s
  else s.onLink fun l => { l with receiver := { l.receiver with gap := l.receiver.gap + 1 } }

/-- R110: the tick at the table drive port: the silence time is raised, and judged when it reaches 10 ms. -/
def tickSilence (b : Blocks) : Blocks :=
  if b.positioner.target.isNone ∨ Config.silenceLimit ≤ b.positioner.silence then b
  else if Config.silenceLimit ≤ b.positioner.silence + 1 then driveSilent b
  else b.onPositioner fun p => { p with silence := p.silence + 1 }

/-- R107: a further millisecond without a sample of the current number, counted as far as the 20 that a resend needs. -/
def tickUnmatched (b : Blocks) : Blocks :=
  if b.positioner.target.isNone then b
  else b.onPositioner fun p => { p with unmatched := min (p.unmatched + 1) Config.markPeriod }

/-- R107: the resend due at a 20 ms mark. -/
def resendIfDue (b : Blocks) : Blocks := if Config.markPeriod ≤ b.positioner.unmatched then resendTarget b else b

/-- R53, R107: the 20 ms mark, reached when the position in the period returns to 0. -/
def tickMark (b : Blocks) : Blocks := if b.time = 0 then pollBanks (resendIfDue b) else b

/-- The position in the 20 ms period moves on. -/
def tickTime (b : Blocks) : Blocks := { b with time := (b.time + 1) % Config.markPeriod }

/-- One tick at the blocks. -/
def tickBlocks (b : Blocks) : Blocks := tickMark (tickUnmatched (tickSilence (haltedTick (tickTime b))))

/-- One tick of the timebase. -/
def tick (s : State) : State := tickReceiver (s.onBlocks tickBlocks)

end Sys2Proof.Machine
end

