-- ==== Sys2Proof/Machine/Dispatch.lean ====
section
/-! DEFINITION. Machine/Dispatch.lean: one arm per command, each one direct call of the command's meaning. -/

namespace Sys2Proof.Machine

def exec (i : Instr) (s : State) : Host.Outcome State Fault Refusal :=
  match i with
  | .powerOnReset straps levels => Sys2Proof.Machine.execPowerOnReset straps levels s
  | .encoderSample forward mark station => Sys2Proof.Machine.execEncoderSample forward mark station s
  | .measureSenseTrip count => Sys2Proof.Machine.execMeasureSenseTrip count s
  | .verifyPhaseLimit => Sys2Proof.Machine.execVerifyPhaseLimit s
  | .gateHomeNegated => Sys2Proof.Machine.execGateHomeNegated s
  | .gateHomeAsserted => Sys2Proof.Machine.execGateHomeAsserted s
  | .dwellTimeout => Sys2Proof.Machine.execDwellTimeout s
  | .chainIndexPulse => Sys2Proof.Machine.execChainIndexPulse s
  | .stripSensorPulse => Sys2Proof.Machine.execStripSensorPulse s
  | .jawsClosedAsserted => Sys2Proof.Machine.execJawsClosedAsserted s
  | .headDownAsserted => Sys2Proof.Machine.execHeadDownAsserted s
  | .clinchReturnRise => Sys2Proof.Machine.execClinchReturnRise s
  | .leadContactClose lead => Sys2Proof.Machine.execLeadContactClose lead s
  | .headUpAsserted => Sys2Proof.Machine.execHeadUpAsserted s
  | .positionSample passed number x y stage => Sys2Proof.Machine.execPositionSample passed number x y stage s
  | .tableDriveSilent => Sys2Proof.Machine.execTableDriveSilent s
  | .targetCommandResend => Sys2Proof.Machine.execTargetCommandResend s
  | .spanAtTargetRise withSend => Sys2Proof.Machine.execSpanAtTargetRise withSend s
  | .spanAtTargetFall => Sys2Proof.Machine.execSpanAtTargetFall s
  | .profileAckRise withDrive => Sys2Proof.Machine.execProfileAckRise withDrive s
  | .profileAckFall => Sys2Proof.Machine.execProfileAckFall s
  | .pollFrame => Sys2Proof.Machine.execPollFrame s
  | .bankReply bank frame home loaded empties => Sys2Proof.Machine.execBankReply bank frame home loaded empties s
  | .levelInputAsserted line => Sys2Proof.Machine.execLevelInputAsserted line s
  | .levelInputNegated line => Sys2Proof.Machine.execLevelInputNegated line s
  | .eStopAsserted => Sys2Proof.Machine.execEStopAsserted s
  | .eStopNegated => Sys2Proof.Machine.execEStopNegated s
  | .haltedMillisecond => Sys2Proof.Machine.execHaltedMillisecond s
  | .linkByteReceived byte stopBit => Sys2Proof.Machine.execLinkByteReceived byte stopBit s
  | .linkGapTimeout => Sys2Proof.Machine.execLinkGapTimeout s
  | .returnCredit c => Sys2Proof.Machine.execReturnCredit c s
  | .sendStart => Sys2Proof.Machine.execSendStart s
  | .recordSent => Sys2Proof.Machine.execRecordSent s
  | .stepResultPlacement => Sys2Proof.Machine.execStepResultPlacement s
  | .boardResultPlacement => Sys2Proof.Machine.execBoardResultPlacement s
  | .alarmNoticePlacement => Sys2Proof.Machine.execAlarmNoticePlacement s
  | .boardStart => Sys2Proof.Machine.execBoardStart s
  | .step => Sys2Proof.Machine.execStep s
  | .boardEnd => Sys2Proof.Machine.execBoardEnd s
  | .badImage => Sys2Proof.Machine.execBadImage s
  | .loadCamTable => Sys2Proof.Machine.execLoadCamTable s
  | .loadChainGeometry => Sys2Proof.Machine.execLoadChainGeometry s
  | .loadKind => Sys2Proof.Machine.execLoadKind s
  | .loadDispenser => Sys2Proof.Machine.execLoadDispenser s
  | .loadBand => Sys2Proof.Machine.execLoadBand s
  | .loadImage => Sys2Proof.Machine.execLoadImage s
  | .loadTableConfiguration => Sys2Proof.Machine.execLoadTableConfiguration s
  | .loadClinchProfile => Sys2Proof.Machine.execLoadClinchProfile s
  | .loadAlarmClass => Sys2Proof.Machine.execLoadAlarmClass s
  | .loadCounterConfiguration => Sys2Proof.Machine.execLoadCounterConfiguration s
  | .loadLimits => Sys2Proof.Machine.execLoadLimits s
  | .read => Sys2Proof.Machine.execRead s
  | .run => Sys2Proof.Machine.execRun s
  | .stop => Sys2Proof.Machine.execStop s
  | .resume headUp => Sys2Proof.Machine.execResume headUp s
  | .purge => Sys2Proof.Machine.execPurge s
  | .abortBoard => Sys2Proof.Machine.execAbortBoard s
  | .clearStatistics => Sys2Proof.Machine.execClearStatistics s
  | .clearCounters => Sys2Proof.Machine.execClearCounters s
  | .linkReset => Sys2Proof.Machine.execLinkReset s
  | .acknowledgeAlarm => Sys2Proof.Machine.execAcknowledgeAlarm s
  | .query => Sys2Proof.Machine.execQuery s
  | .unknownTypeRecord => Sys2Proof.Machine.execUnknownTypeRecord s
  | .panelStart headUp => Sys2Proof.Machine.execPanelStart headUp s
  | .panelStop => Sys2Proof.Machine.execPanelStop s
  | .panelAck => Sys2Proof.Machine.execPanelAck s
  | .panelPurge headUp => Sys2Proof.Machine.execPanelPurge headUp s

end Sys2Proof.Machine
end

