-- ==== Sys2Proof/WellFormed.lean ====
section
/-! DEFINITION. WellFormed.lean: the operands that a command of the part can carry. The spec bounds each: a bank and a
frame number (Table 3-7), a target number and a position (R107, R108), a verify count (R91), a window listed once in a
sample's order (R7). A meaning is total on ill-formed operands too; no line of the part can bring them about. -/

namespace Sys2Proof

/-- A position in motor counts is a signed 32-bit number (Table 0-3). -/
def motorCountOk (x : Int) : Bool := decide (-2147483648 ≤ x) && decide (x ≤ 2147483647)

/-- R108: the stage stands at one of the quarter turns 0 to 3, or turns. -/
def Stage.wellFormed : Stage → Bool
  | .turning => true
  | .quarter q => decide (q < 4)

/-- R91, R7: the tick count fits its 65535, and no window is listed twice. -/
def Station.wellFormed (t : Station) : Bool := decide (t.verifyCount ≤ 65535) && decide t.order.Nodup

/-- The operands of a command lie within the values the spec gives them. -/
def Instr.wellFormed (i : Instr) : Bool :=
  match i with
  | .encoderSample _ _ station => station.wellFormed
  | .measureSenseTrip count => decide (count ≤ 65535)
  | .positionSample _ number x y stage =>
    decide (number < 256) && motorCountOk x && motorCountOk y && stage.wellFormed
  | .bankReply bank frame _ _ _ => decide (bank < 12) && decide (frame < 16)
  | .powerOnReset _ _ | .verifyPhaseLimit | .gateHomeNegated | .gateHomeAsserted | .dwellTimeout | .chainIndexPulse
  | .stripSensorPulse | .jawsClosedAsserted | .headDownAsserted | .clinchReturnRise | .leadContactClose _
  | .headUpAsserted | .tableDriveSilent | .targetCommandResend | .spanAtTargetRise _ | .spanAtTargetFall
  | .profileAckRise _ | .profileAckFall | .pollFrame | .levelInputAsserted _ | .levelInputNegated _ | .eStopAsserted
  | .eStopNegated | .haltedMillisecond | .linkByteReceived _ _ | .linkGapTimeout | .returnCredit _ | .sendStart
  | .recordSent | .stepResultPlacement | .boardResultPlacement | .alarmNoticePlacement | .boardStart | .step | .boardEnd
  | .badImage | .loadCamTable | .loadChainGeometry | .loadKind | .loadDispenser | .loadBand | .loadImage
  | .loadTableConfiguration | .loadClinchProfile | .loadAlarmClass | .loadCounterConfiguration | .loadLimits | .read
  | .run | .stop | .resume _ | .purge | .abortBoard | .clearStatistics | .clearCounters | .linkReset | .acknowledgeAlarm
  | .query | .unknownTypeRecord | .panelStart _ | .panelStop | .panelAck | .panelPurge _ => true

end Sys2Proof
end

