-- ==== Sys2Proof/Safety.lean ====
section
/-! DEFINITION. Safety.lean: what counts as a sound state of the TQ-96, in the terms the statements use: the invariants that
every step keeps, and the shapes of situation that the statements speak of (a record at the dispatcher, a step at the
transfer point, quiet counters). -/

namespace Sys2Proof.Machine

/-! ## Invariants -/

/-- The link port: the upstream queue holds at most 64 records (R182) and the input buffer at most 8 (R179), a place of the
buffer stays free for a record under way that found one free at its sync byte (R177), the credit count is at most 255
(R182), and each error counter at most 65535 (R178). -/
def LinkPort.sound (l : LinkPort) : Prop :=
  l.upstream.length ≤ 64 ∧ l.input.length ≤ 8
    ∧ (l.receiver.phase ≠ .hunt → l.receiver.full = false → l.input.length ≤ 7)
    ∧ l.credit ≤ 255 ∧ l.framingErrors ≤ 65535 ∧ l.crcErrors ≤ 65535 ∧ l.overrunErrors ≤ 65535

/-- The step window: the contexts stand in ascending step number, each number once (2.4), below the expected step number
(R24), at most 256 of them (R24, R180), and none while the board is NONE (R20, R36). -/
def Board.sound (d : Board) : Prop :=
  (d.window.map StepContext.number).Pairwise (· < ·) ∧ (∀ c ∈ d.window, c.number < d.expectedStep)
    ∧ d.window.length ≤ 256 ∧ (d.phase = .none → d.window = [])

/-- The alarm table: the notice list names each code at most once, and exactly the codes whose notice pending flag is set
(R146); codes 0 and 1 keep the class STOP-NOW (Table 8-1, R137); a code is ACTIVE only if it is a LEVEL code, and
acknowledge pending is set only while a code is ACTIVE (Table 8-1, R139). -/
def Alarm.sound (a : Alarm) : Prop :=
  a.notices.Nodup ∧ (∀ code ∈ a.notices, code < 32)
    ∧ (∀ code, code < 32 → ((look a.codes code).noticePending = true ↔ code ∈ a.notices))
    ∧ (look a.codes 0).cls = .stopNow ∧ (look a.codes 1).cls = .stopNow
    ∧ (∀ code, code < 32 → (look a.codes code).state = .active → isLevelCode code = true)
    ∧ (∀ code, code < 32 → (look a.codes code).ackPending = true → (look a.codes code).state = .active)

/-- The shaft monitor: the angle and the index distance keep their values (Table 1-1); the drive is DRIVING in the four
turning states and HELD in the others, and a revolution is live only in CYCLING or PURGING (Table 1-6); no window stands
open outside a live revolution (R6, R8). -/
def Shaft.sound (s : Shaft) : Prop :=
  s.angle ≤ 1439 ∧ -1439 ≤ s.distance ∧ s.distance ≤ 1441
    ∧ (s.drive = .driving ↔ s.machine.turning = true)
    ∧ (s.live = true → s.machine = .cycling ∨ s.machine = .purging)
    ∧ (s.live = false → ∀ w : Window, s.isOpen w = false)

/-- R16, R17, R144: the machine never turns under a STOP-NOW demand, and never stands WAITING under a demand of
STOP-AT-PARK or STOP-NOW. -/
def Blocks.demandHeeded (b : Blocks) : Prop :=
  (b.shaft.machine.turning = true → b.alarm.demand < 4) ∧ (b.shaft.machine = .waiting → b.alarm.demand < 3)

/-- The chain map: with the geometry loaded it has L slots, the pointer names one of them, and L, V and G keep the values a
LOAD can give them; while it is unloaded there is no slot (R79, Table 5-3). -/
def Chain.sound (c : Chain) : Prop :=
  if c.loaded then
    c.slots.length = c.length ∧ c.pointer < c.length ∧ 64 ≤ c.length ∧ c.length ≤ 240
      ∧ 2 ≤ c.verifyOffset ∧ c.verifyOffset ≤ 15 ∧ 1 ≤ c.gateOffset ∧ c.gateOffset < c.verifyOffset
  else c.slots = [] ∧ c.length = 0 ∧ c.pointer = 0

/-! ## Situations -/

/-- `r` is the oldest record of the input buffer, `rest` those behind it, and the upstream queue has a free place: the
dispatcher takes `r` next when it is takeable (R180). -/
def State.offers (s : State) (r : Record) (rest : List Record) : Prop :=
  s.link.input = r :: rest ∧ s.link.upstream.length < 64

/-- The state after a record was taken and accepted without a reply: the blocks are `b`, and the buffer holds `rest`. -/
def State.taken (s : State) (rest : List Record) (b : Blocks) : State :=
  { s with blocks := b, link := { s.link with input := rest } }

/-- The state after a record was taken and answered by `reply` at the tail of the upstream queue, nothing else changed. -/
def State.answered (s : State) (rest : List Record) (reply : Record) : State :=
  { s with link := { s.link with input := rest, upstream := s.link.upstream ++ [reply] } }

/-- A LOAD record for a table: its contents follow the table id and the index (Table 11-15). -/
def loadRecord (table index : Nat) (contents : List Byte) : Record :=
  ⟨0x10#8, byteOf table :: byteOf index :: contents⟩

/-- A CONTROL record: subcommand and argument byte (Table 11-14). -/
def controlRecord (subcommand : Nat) (argument : Byte) : Record := ⟨0x12#8, [byteOf subcommand, argument]⟩

/-- No event counter is enabled, so no report can raise COUNTER LIMIT (R168, R171). -/
def Counters.quiet (c : Counters) : Prop := ∀ n, n < 4 → (look c.events n).enable = false

/-- No step of the window is QUEUED or PLANNED: a planning event or a replan finds nothing to do (R67, R70). -/
def Board.nothingToPlan (d : Board) : Prop := ∀ c ∈ d.window, c.state ≠ .queued ∧ c.state ≠ .planned

/-- No loaded window has its start or end at an angle. -/
def Shaft.noWindowAt (s : Shaft) (angle : Nat) : Prop :=
  ∀ w : Window, (s.arc w).loaded = true → (s.arc w).start ≠ angle ∧ (s.arc w).stop ≠ angle

/-- SHAFT RUN is asserted: the drive is DRIVING and EMERGENCY STOP is not ACTIVE (Table 1-5, R166). -/
def Blocks.driven (b : Blocks) : Prop := b.shaft.drive = .driving ∧ (look b.alarm.codes 0).state ≠ .active

/-- The next forward sample without the mark falls in a live revolution under drive, its angle has one window event, that
`w` opens or closes, and it is no park (R7, R9). -/
def Blocks.meets (b : Blocks) (w : Window) (opens : Bool) : Prop :=
  b.driven ∧ b.shaft.live = true ∧ b.shaft.angle + 1 ≤ 1439 ∧ b.shaft.distance < 1440 ∧ (b.shaft.arc w).loaded = true
    ∧ (if opens then (b.shaft.arc w).start = b.shaft.angle + 1
      else (b.shaft.arc w).stop = b.shaft.angle + 1 ∧ (b.shaft.arc w).start ≠ b.shaft.angle + 1 ∧ b.shaft.isOpen w = true)
    ∧ (∀ v : Window, v ≠ w → (b.shaft.arc v).loaded = true →
      (b.shaft.arc v).start ≠ b.shaft.angle + 1 ∧ (b.shaft.arc v).stop ≠ b.shaft.angle + 1)
    ∧ b.shaft.angle + 1 ≠ b.shaft.parkAngle

/-- The blocks with that sample counted and the window marked, and nothing else (R1, R7). -/
def Blocks.counted (b : Blocks) (w : Window) (opens : Bool) : Blocks :=
  { b with shaft := { b.shaft with
      angle := b.shaft.angle + 1, distance := b.shaft.distance + 1, opened := put b.shaft.opened (windowIndex w) opens } }

/-- The command whose row takes a record of the link (Tables 11-3, 11-4 and 11-6); `headUp` is the level of HEAD UP that a
RESUME finds. -/
def Row.command (headUp : Bool) : Row → Instr
  | .boardStart => .boardStart | .step => .step | .boardEnd => .boardEnd | .badImage => .badImage
  | .load table => match table with
    | 0 => .loadCamTable | 1 => .loadChainGeometry | 2 => .loadKind | 3 => .loadDispenser | 4 => .loadBand | 5 => .loadImage
    | 6 => .loadTableConfiguration | 7 => .loadClinchProfile | 8 => .loadAlarmClass | 9 => .loadCounterConfiguration
    | _ => .loadLimits
  | .read => .read
  | .control subcommand => match subcommand with
    | 0 => .run | 1 => .stop | 2 => .resume headUp | 3 => .purge | 4 => .abortBoard | 5 => .clearStatistics
    | 6 => .clearCounters | _ => .linkReset
  | .acknowledge => .acknowledgeAlarm | .query => .query | .other => .unknownTypeRecord

/-- A component on the chain that names no step and no source, such as a stray or a detached orphan (R80, R90, R164). -/
def Component.nameless (o : Component) : Prop := o.step = none ∧ o.source = none

/-- No step of the window but step `n` is QUEUED or PLANNED. -/
def Board.nothingElseToPlan (d : Board) (n : Nat) : Prop :=
  ∀ c ∈ d.window, c.number ≠ n → c.state ≠ .queued ∧ c.state ≠ .planned

/-- R60: a planning event makes no pass: a hold is in force, the machine is in a state that plans nothing, or planning is
frozen. -/
def Blocks.plansNothing (b : Blocks) : Prop :=
  2 ≤ b.alarm.demand ∨ b.shaft.machine = .halted ∨ b.shaft.machine = .recovering ∨ b.shaft.machine = .purging
    ∨ b.planner.freeze = true

/-- Table 1-3 after its first condition, in its order: each condition with the cam entry that it names when it fails. -/
def Shaft.camOrder (s : Shaft) : List (Bool × Nat) :=
  let start := fun (i : Nat) => (look s.cam i).start
  let stop := fun (i : Nat) => (look s.cam i).stop
  [ (decide (stop 0 < start 1), 1), (decide (stop 0 < start 2), 2), (decide (stop 0 < start 3), 3),
    (decide (stop 0 < start 4), 4), (decide (stop 4 < start 5), 5), (decide (stop 5 ≤ start 6), 6),
    (decide (start 6 ≤ start 7), 7), (decide (stop 7 < start 8), 8), (decide (stop 8 < start 9), 9),
    (decide (stop 1 < start 9), 1), (decide (stop 2 < start 9), 2), (decide (stop 3 < start 9), 3),
    (decide (stop 6 < start 9), 6), (decide (stop 9 < start 10), 10) ]

/-- Condition `i` of that order holds. -/
def Shaft.camHolds (s : Shaft) (i : Nat) : Prop := (s.camOrder.getD i (true, 0)).1 = true

/-- R5: the cam table passes: every entry is loaded and every condition holds. -/
def Shaft.camPasses (s : Shaft) : Prop :=
  (∀ i, i < 11 → (look s.cam i).loaded = true) ∧ ∀ i, i < 14 → s.camHolds i

/-- R5: the first condition of Table 1-3 that fails names entry `e`: the lowest unloaded entry, or the entry of the first
condition of the order that fails. -/
def Shaft.camFails (s : Shaft) (e : Nat) : Prop :=
  (∃ i, i < 11 ∧ (look s.cam i).loaded = false ∧ (∀ j, j < i → (look s.cam j).loaded = true) ∧ e = i)
    ∨ ((∀ i, i < 11 → (look s.cam i).loaded = true)
      ∧ ∃ i, i < 14 ∧ ¬ s.camHolds i ∧ (∀ j, j < i → s.camHolds j) ∧ e = (s.camOrder.getD i (true, 0)).2)

/-- R38: a kind's band set passes the band check: every entry is loaded and exceeds its predecessor. -/
def Verifier.bandsPass (v : Verifier) (k : Kind) : Prop :=
  let band := fun (n : Nat) => look v.bands (k.bandStart + n)
  ∀ n, n < k.bandCount → (band n).isSome = true ∧ (0 < n → (band (n - 1)).getD 0 < (band n).getD 0)

/-- R93: the reading of a count: SHORT at or below the short limit, else the first band of the set whose max count the count
does not exceed, else OPEN. -/
def Verifier.reads (v : Verifier) (k : Kind) (count : Nat) (r : Reading) : Prop :=
  let top := fun (b : Nat) => (look v.bands (k.bandStart + b)).getD 0
  match r with
  | .short => count ≤ v.shortLimit
  | .band b => v.shortLimit < count ∧ b < k.bandCount ∧ count ≤ top b ∧ ∀ a, a < b → top a < count
  | .opened => v.shortLimit < count ∧ ∀ b, b < k.bandCount → top b < count

/-- Table 3-6: a dispenser's entry after a verify result. -/
def Dispenser.after (e : Dispenser) (r : VerifyResult) : Dispenser :=
  match r with
  | .pass | .passAlt => { e with
      missing := 0, badPart := 0, proving := false
      condition := if e.condition = .proving then .operational else e.condition }
  | .value | .reversed => { e with missing := 0, badPart := 0, proving := false, condition := .suspect }
  | .opened | .short => { e with
      missing := 0, badPart := if e.badPart < 3 then e.badPart + 1 else 3, proving := false
      condition := if e.badPart = 2 then .suspect else e.condition }
  | .missing => { e with
      missing := if e.missing < 2 then e.missing + 1 else 2, badPart := 0, proving := false
      reel := if e.missing = 1 then .empty else e.reel
      outReported := e.outReported || decide (e.missing = 1) }

/-- R46, R45, Table 3-6: a verify result raises WRONG REEL (23) or REEL OUT (24) at its dispenser. -/
def Dispenser.raises (e : Dispenser) (r : VerifyResult) (code : Nat) : Bool :=
  match r with
  | .pass | .passAlt => false
  | .value | .reversed => decide (code = 23)
  | .opened | .short => decide (code = 23) && decide (e.badPart = 2)
  | .missing => decide (code = 24) && decide (e.missing = 1) && !e.outReported

/-- R98: the fault run after an OPEN result of dispenser `d`, before it is judged. -/
def Verifier.runWith (v : Verifier) (d : Nat) : List Nat :=
  (if v.faultRun.length = 4 then v.faultRun.tail else v.faultRun) ++ [d]

/-- R98: an OPEN result of dispenser `d` is a VERIFIER FAULT: four entries that name at least two dispensers. -/
def Verifier.faultsAt (v : Verifier) (d : Nat) : Bool :=
  decide ((v.runWith d).length = 4) && (v.runWith d).any fun e => decide (e ≠ d)

/-- R138: the entry of an EDGE code after an occurrence. -/
def AlarmEntry.struck (e : AlarmEntry) (context : AlarmContext) : AlarmEntry :=
  if e.state = .idle then { e with state := .latched, count := 1, context := context, noticePending := true }
  else { e with count := min (e.count + 1) 255, context := context }

/-- R16, R17, R144: an occurrence of this code asks nothing of the shaft at once: its class is below STOP-AT-PARK, or is
STOP-AT-PARK under a demand that stands there already or in a live revolution whose DECISION is still to come, or the
machine is STOPPED or HALTED. -/
def Blocks.unmovedBy (b : Blocks) (code : Nat) : Prop :=
  let cls := (look b.alarm.codes code).cls
  b.shaft.machine = .stopped ∨ b.shaft.machine = .halted ∨ cls = .note ∨ cls = .holdFeed
    ∨ (cls = .stopAtPark ∧ (3 ≤ b.alarm.demand
      ∨ ((b.shaft.machine = .cycling ∨ b.shaft.machine = .purging) ∧ b.shaft.live = true ∧ b.shaft.decided = false
        ∧ b.shaft.angle < b.shaft.parkAngle)))

/-- R28: a context resolved with an outcome. -/
def StepContext.ended (c : StepContext) (o : StepOutcome) : StepContext :=
  { c with state := .resolved, slot := none, outcome := some o }

/-- R74, R75: a context returned to QUEUED, its make-up count raised for a reason that counts. -/
def StepContext.returned (c : StepContext) (counted : Bool) : StepContext :=
  { c with
    state := .queued, slot := none, dwell := 0, makeUps := if counted then c.makeUps + 1 else c.makeUps }

/-- The board with the context of one number replaced, and nothing else changed. -/
def Board.withContext (d : Board) (c : StepContext) : Board :=
  { d with window := d.window.map fun e => if e.number = c.number then c else e }

/-- R28: the board after step `c` was resolved: the context, the tallies given, and the tail of the report order. -/
def Board.withResolved (d : Board) (c : StepContext) (o : StepOutcome) (tallies : Tallies) : Board :=
  { d.withContext (c.ended o) with tallies := tallies, reportOrder := d.reportOrder ++ [c.number] }

/-- R59, R70, R74: the returned context `r` stands in the window, QUEUED, or reserved again by the pass that followed. -/
def Blocks.holdsReturned (b : Blocks) (r : StepContext) : Prop :=
  b.board.context? r.number = some r
    ∨ ∃ pitch d, b.board.context? r.number = some { r with state := .planned, slot := some pitch, source := some d }
      ∧ b.chain.slotOf pitch = .reserved r.number d

/-- R112: the OCCUPIED slot at offset `j` names step `c` as a candidate. -/
def Blocks.qualifies (b : Blocks) (j : Nat) (o : Component) (c : StepContext) : Prop :=
  b.chain.slotAt j = .occupied o ∧ o.disposition = .insert ∧ o.step = some c.number
    ∧ b.board.context? c.number = some c ∧ (c.state = .fired ∨ c.state = .verified)

/-- No alarm entry but those of the codes given has changed. -/
def Alarm.elsewhere (a was : Alarm) (codes : List Nat) : Prop :=
  ∀ code, code < 32 → code ∉ codes → look a.codes code = look was.codes code

/-- The fields of a kind lie within the values of Table 3-1 (R37). -/
def Kind.fits (k : Kind) : Prop :=
  k.range < 4 ∧ k.bandStart < 128 ∧ 1 ≤ k.bandCount ∧ k.bandCount ≤ 32 ∧ k.expectedLo ≤ k.expectedHi
    ∧ k.expectedHi < k.bandCount ∧ (∀ a, k.alternate = some a → a.1 ≤ a.2 ∧ a.2 < k.bandCount)
    ∧ 50 ≤ k.span ∧ k.span ≤ 300 ∧ k.profile < 16 ∧ 1 ≤ k.sources.length ∧ k.sources.length ≤ 4 ∧ k.sources.Nodup
    ∧ (∀ d ∈ k.sources, d < 96) ∧ (∀ i, k.pin = some i → i < k.sources.length) ∧ k.statistics < 64

/-- The bytes of `bytes` received one after another, each with its stop bit. -/
def receiveAll (bytes : List Byte) (s : State) : Host.Outcome State Fault Refusal :=
  bytes.foldl (fun o x => match o with
    | .next t => exec (.linkByteReceived x true) t
    | .fault f => .fault f
    | .refused r => .refused r) (.next s)

end Sys2Proof.Machine
end

