-- ==== Sys2Proof/Certificates/Slice0/Obligations.lean ====
section
/-! DEFINITION. Obligations.lean: the statements for the provers. Each formalises what the rules of spec/ it names say; a
statement that rests on a choice of the model says so and names the log entry. -/

section

open Sys2Proof Sys2Proof.Machine

/-! ## The step -/

/-- The command at the front of the queue acts on the state with the queue's rest. The queue is the model's (log entry 7). -/
def Obligations.StepRunsFrontCommand : Prop :=
  ∀ (i : Instr) (rest : List Instr) (s : State), s.pending = i :: rest → step s = exec i { s with pending := rest }

/-- Every command answers a next state, and leaves the queue of waiting commands alone. -/
def Obligations.EveryCommandAnswersNext : Prop :=
  ∀ (i : Instr) (s : State), ∃ t, exec i s = .next t ∧ t.pending = s.pending

/-! ## Invariants -/

/-- R177 to R179, R182: the bounds of the link port hold after every step. -/
def Obligations.LinkStaysSound : Prop := ∀ s t : State, s.link.sound → step s = .next t → t.link.sound

/-- R24, R28, R34, R36, R180: the step window keeps its order and its bound at every step. -/
def Obligations.WindowStaysSound : Prop :=
  ∀ s t : State, s.blocks.board.sound → step s = .next t → t.blocks.board.sound

/-- R137 to R140, R146: the alarm table and the notice list agree after every step. -/
def Obligations.AlarmTableStaysSound : Prop :=
  ∀ s t : State, s.blocks.alarm.sound → step s = .next t → t.blocks.alarm.sound

/-- Table 1-6, R6, R8, R9: the drive follows the machine state, and no window stands open outside a live revolution, after
every step. -/
def Obligations.ShaftStaysSound : Prop :=
  ∀ s t : State, s.blocks.shaft.sound → step s = .next t → t.blocks.shaft.sound

/-- R16, R17, R144: after every step the machine heeds the stop demand: it does not turn under STOP-NOW and does not wait
under STOP-AT-PARK or STOP-NOW. -/
def Obligations.DemandStaysHeeded : Prop :=
  ∀ s t : State, s.blocks.demandHeeded → step s = .next t → t.blocks.demandHeeded

/-- R79, R85: the chain map keeps its L slots and its pointer names one of them after every step. -/
def Obligations.ChainStaysSound : Prop :=
  ∀ s t : State, s.blocks.chain.sound → step s = .next t → t.blocks.chain.sound

/-- Every invariant holds right after reset. -/
def Obligations.ResetIsSound : Prop :=
  State.reset.link.sound ∧ State.reset.blocks.board.sound ∧ State.reset.blocks.alarm.sound
    ∧ State.reset.blocks.shaft.sound ∧ State.reset.blocks.demandHeeded ∧ State.reset.blocks.chain.sound

/-! ## Who changes what -/

/-- R1, R18: the angle, the index distance and the registration state move at encoder samples alone; a power-on reset sets
them, and a link reset keeps them. -/
def Obligations.OnlySamplesMoveTheAngle : Prop :=
  ∀ (i : Instr) (s t : State), exec i s = .next t →
    (∀ straps levels, i ≠ .powerOnReset straps levels) → (∀ forward mark station, i ≠ .encoderSample forward mark station) →
    t.blocks.shaft.angle = s.blocks.shaft.angle ∧ t.blocks.shaft.distance = s.blocks.shaft.distance
      ∧ t.blocks.shaft.registered = s.blocks.shaft.registered

/-- R18, R40, R58, R79, R98, R102, R103, R118, R120, R137, R167, R183: a loaded table is changed by its own LOAD alone (a
power-on reset apart): cam, chain geometry, kind fields, dispenser fields, bands and short limit, images, table
configuration, clinch profiles, alarm classes, counter configurations, the limits. A link reset keeps them all. -/
def Obligations.OnlyLoadsChangeTables : Prop :=
  ∀ (i : Instr) (s t : State), exec i s = .next t → (∀ straps levels, i ≠ .powerOnReset straps levels) →
    (i ≠ .loadCamTable → t.blocks.shaft.cam = s.blocks.shaft.cam)
      ∧ (i ≠ .loadChainGeometry → t.blocks.chain.loaded = s.blocks.chain.loaded
          ∧ t.blocks.chain.length = s.blocks.chain.length ∧ t.blocks.chain.verifyOffset = s.blocks.chain.verifyOffset
          ∧ t.blocks.chain.gateOffset = s.blocks.chain.gateOffset)
      ∧ (i ≠ .loadKind → ∀ k, k < 256 → t.blocks.source.kind? k = s.blocks.source.kind? k)
      ∧ (i ≠ .loadDispenser → ∀ d, d < 96 →
          let now := look t.blocks.source.dispensers d
          let was := look s.blocks.source.dispensers d
          now.loaded = was.loaded ∧ now.installed = was.installed ∧ now.offset = was.offset ∧ now.capacity = was.capacity
            ∧ now.threshold = was.threshold ∧ now.enabled = was.enabled)
      ∧ (i ≠ .loadCounterConfiguration → ∀ n, n < 4 →
          let now := look t.blocks.counters.events n
          let was := look s.blocks.counters.events n
          now.event = was.event ∧ now.matchA = was.matchA ∧ now.matchB = was.matchB ∧ now.threshold = was.threshold
            ∧ now.invert = was.invert ∧ now.edge = was.edge ∧ now.limit = was.limit ∧ now.enable = was.enable)
      ∧ (i ≠ .loadBand → t.blocks.verifier.bands = s.blocks.verifier.bands)
      ∧ (i ≠ .loadImage → t.blocks.positioner.images = s.blocks.positioner.images)
      ∧ (i ≠ .loadTableConfiguration → t.blocks.positioner.config = s.blocks.positioner.config)
      ∧ (i ≠ .loadClinchProfile → t.blocks.head.profiles = s.blocks.head.profiles)
      ∧ (i ≠ .loadAlarmClass → ∀ code, code < 32 →
          (look t.blocks.alarm.codes code).cls = (look s.blocks.alarm.codes code).cls)
      ∧ (i ≠ .loadLimits → t.blocks.planner.makeUpLimit = s.blocks.planner.makeUpLimit
          ∧ t.blocks.head.dwellLimit = s.blocks.head.dwellLimit
          ∧ t.blocks.verifier.shortLimit = s.blocks.verifier.shortLimit
          ∧ t.blocks.shaft.resumeChoice = s.blocks.shaft.resumeChoice)

/-! ## Reset -/

/-- R18, R19, R58, R78, R80, R98, R118, R136, R150, R167, R173, R175, R184: a power-on reset, in every state, leaves each
block at its power-on values; each LEVEL line found asserted makes its code ACTIVE with count 1 and a notice, in ascending
order (the order is the model's reading of R150, log entry 25), and every other code IDLE with its default class. -/
def Obligations.PowerOnResetLeaves : Prop :=
  ∀ (straps : Straps) (levels : LevelLines) (s : State),
    let asserted : Nat → Bool := fun code =>
      (code == 0 && levels.eStop) || (code == 20 && levels.guardOpen) || (code == 21 && levels.airLow)
        || (code == 22 && levels.binFull)
    ∃ t, exec (.powerOnReset straps levels) s = .next t ∧ t.pending = s.pending ∧ t.levels = levels
      ∧ t.link.straps = straps ∧ t.link.receiver.phase = .hunt ∧ t.link.input = [] ∧ t.link.upstream = []
      ∧ t.link.credit = 0 ∧ t.link.framingErrors = 0 ∧ t.link.crcErrors = 0 ∧ t.link.overrunErrors = 0
      ∧ t.blocks.shaft.angle = 0 ∧ t.blocks.shaft.distance = 0 ∧ t.blocks.shaft.registered = false
      ∧ t.blocks.shaft.drive = .held ∧ t.blocks.shaft.machine = .stopped ∧ t.blocks.shaft.stopPending = false
      ∧ t.blocks.shaft.purgeRequested = false ∧ t.blocks.shaft.live = false ∧ t.blocks.shaft.resumeChoice = .reinsert
      ∧ (∀ w : Window, t.blocks.shaft.isOpen w = false) ∧ (∀ n, n < 11 → (look t.blocks.shaft.cam n).loaded = false)
      ∧ t.blocks.board.phase = .none ∧ t.blocks.board.window = [] ∧ t.blocks.board.expectedStep = 0
      ∧ (∀ k, k < 256 → look t.blocks.source.kinds k = ⟨none, 3, false⟩)
      ∧ (∀ d, d < 96 → look t.blocks.source.dispensers d =
          ⟨false, false, 0, 0, 0, false, 0, .empty, .operational, false, 0, 0, false, false, false⟩)
      ∧ t.blocks.source.frame = 0 ∧ t.blocks.source.outstanding = none
      ∧ t.blocks.planner = ⟨false, .empty, 3⟩
      ∧ t.blocks.chain = ⟨false, 0, 0, 0, [], 0, false, false, none, false, none, false⟩
      ∧ (∀ n, n < 128 → look t.blocks.verifier.bands n = none) ∧ t.blocks.verifier.shortLimit = 2
      ∧ t.blocks.verifier.faultRun = []
      ∧ t.blocks.positioner.target = none ∧ t.blocks.positioner.targetNumber = 0 ∧ t.blocks.positioner.coarseRun = 0
      ∧ t.blocks.positioner.fineRun = 0 ∧ t.blocks.positioner.silence = 0
      ∧ t.blocks.positioner.silenceReported = false ∧ t.blocks.positioner.candidate = none
      ∧ t.blocks.positioner.lock = none ∧ t.blocks.positioner.lockKind = none
      ∧ t.blocks.positioner.slipReported = false
      ∧ t.blocks.positioner.spanTarget = none ∧ t.blocks.positioner.spanReady = false
      ∧ (∀ n, n < 16 → look t.blocks.positioner.images n = ⟨false, 0, 0⟩)
      ∧ t.blocks.positioner.config = ⟨false, 0, 0, 0, 0, 0, 0, 0, 0, 0, 0, 0, 0⟩
      ∧ (∀ n, n < 16 → look t.blocks.head.profiles n = none) ∧ t.blocks.head.output = none
      ∧ t.blocks.head.ready = false ∧ t.blocks.head.inhibit = true ∧ t.blocks.head.record = none
      ∧ t.blocks.head.upAwaited = false ∧ t.blocks.head.dwellLimit = 16
      ∧ (∀ code, code < 32 → look t.blocks.alarm.codes code =
          if asserted code = true then ⟨AlarmClass.ofCode code, .active, false, 1, ⟨none, none, none⟩, true⟩
          else ⟨AlarmClass.ofCode code, .idle, false, 0, ⟨none, none, none⟩, false⟩)
      ∧ t.blocks.alarm.notices = [0, 20, 21, 22].filter asserted
      ∧ (∀ n, n < 4 → look t.blocks.counters.events n =
          ⟨.none, 255, 255, 0, false, false, 0, false, 0, false, false, false⟩)
      ∧ t.blocks.counters.residency = ⟨0, 0, 0, 0⟩
      ∧ ∀ n, n < 64 → look t.blocks.counters.statistics n = ⟨0, 0, 0, 0⟩

/-! ## Shaft -/

/-- R1, R2, R3: a sample while SHAFT RUN is negated moves the angle and the index distance and changes nothing else, window
events included. Two such samples have more to them. The forward sample without the mark that brings the index distance to
1441 also leaves the shaft UNREGISTERED, and a crossing of a REGISTERED shaft whose count is not 1440 sets angle and
distance to 0 and leaves it REGISTERED; each raises SHAFT REGISTRATION, code 1, with no context, at which a WAITING
machine, the demand below STOP-NOW until then, is HALTED (R16) and a STOPPED one stays STOPPED. -/
def Obligations.HandJogCounts : Prop :=
  ∀ (station : Station) (s : State), s.blocks.shaftRunLine = false → s.blocks.shaft.angle ≤ 1439 →
    let a := s.blocks.shaft.angle
    let d := s.blocks.shaft.distance
    let moved := fun (angle : Nat) (distance : Int) (registered : Bool) =>
      Host.Outcome.next { s with blocks := { s.blocks with shaft := { s.blocks.shaft with
        angle := angle, distance := distance, registered := registered } } }
    let r := s.blocks.shaft.registered
    let was := look s.blocks.alarm.codes 1
    let faulted := fun (i : Instr) (angle : Nat) (distance : Int) (registered : Bool) => ∃ t, exec i s = .next t
      ∧ t.blocks.shaft.angle = angle ∧ t.blocks.shaft.distance = distance ∧ t.blocks.shaft.registered = registered
      ∧ look t.blocks.alarm.codes 1 = was.struck ⟨none, none, none⟩
      ∧ (s.blocks.shaft.machine = .stopped → t.blocks.shaft.machine = .stopped)
      ∧ (was.cls = .stopNow → s.blocks.alarm.demand < 4 → s.blocks.shaft.machine = .waiting →
          t.blocks.shaft.machine = .halted)
      ∧ t.link = s.link
    (d ≠ 1440 → exec (.encoderSample true false station) s = moved (if a = 1439 then 0 else a + 1) (min (d + 1) 1441) r)
      ∧ exec (.encoderSample false false station) s = moved (if a = 0 then 1439 else a - 1) (max (d - 1) (-1439)) r
      ∧ exec (.encoderSample false true station) s = moved 1439 1439 r
      ∧ (r = false ∨ d = 1439 → exec (.encoderSample true true station) s = moved 0 0 true)
      ∧ (d = 1440 → faulted (.encoderSample true false station) (if a = 1439 then 0 else a + 1) 1441 false)
      ∧ (r = true → d ≠ 1439 → faulted (.encoderSample true true station) 0 0 true)

/-- R2, R3, R16, R134: a reverse sample under drive, a forward sample without the mark that brings the index distance to 1441,
and a crossing of a REGISTERED shaft whose count is not 1440 each raise SHAFT REGISTRATION, code 1, with no context. The machine,
its demand below STOP-NOW until then, is braked and HALTED, no revolution is live and every window is closed; the missing
index also leaves the shaft UNREGISTERED. The insertion record of a live revolution is gone; at a crossing this rests on the
model's reading that the brake cuts the old revolution short before the crossing ends it (log entry 17). -/
def Obligations.RegistrationFaultHalts : Prop :=
  ∀ (forward mark : Bool) (station : Station) (s : State), s.blocks.shaft.sound → s.blocks.driven →
    (look s.blocks.alarm.codes 1).cls = .stopNow → s.blocks.alarm.demand < 4 →
    (forward = false ∨ (mark = false ∧ s.blocks.shaft.distance = 1440)
      ∨ (mark = true ∧ s.blocks.shaft.registered = true ∧ s.blocks.shaft.distance ≠ 1439)) →
    ∃ t, exec (.encoderSample forward mark station) s = .next t ∧ t.blocks.shaft.machine = .halted
      ∧ t.blocks.shaft.drive = .held ∧ t.blocks.shaft.live = false ∧ (∀ w : Window, t.blocks.shaft.isOpen w = false)
      ∧ t.blocks.shaft.stopPending = false ∧ t.blocks.chain.grant = false
      ∧ (s.blocks.shaft.live = true → t.blocks.head.record = none)
      ∧ look t.blocks.alarm.codes 1 = (look s.blocks.alarm.codes 1).struck ⟨none, none, none⟩
      ∧ (t.blocks.shaft.registered = (s.blocks.shaft.registered && !(forward && !mark)))

/-- R6, R85, R173: a true forward crossing under drive in CYCLING or PURGING begins a live revolution; it takes the index
grant, which becomes NOT GRANTED, and is an advance exactly when it was GRANTED; a dwell revolution raises the dwell counter.
No event counter being enabled, and no window starting at angle 0, the chain map, the board and the machine state stay.
When INDEX alone starts at angle 0 it opens at that crossing, and in an advance the chain is indexed there, as it is at
every INDEX open of an advance: P moves on by one pitch, index seen and gate done are clear, an OCCUPIED slot that left
offset 0 is the strip pending, a component that left V UNMEASURED with disposition INSERT is FAILED, DIVERT, VERIFY and its
step DIVERTING, and a DIVERT component that left G is STRIP and its DIVERTING step STRIPPING. In a dwell revolution INDEX
open moves nothing.
R7: in a dwell revolution FIRE, VERIFY and GATE make no event: the sample at the start or the end of such a window is counted
and changes nothing else, the window's mark included. The mark on a component turned FAILED without a result is the model's (log entry 31). -/
def Obligations.CrossingBeginsLiveRevolution : Prop :=
  let turned := fun (c : Chain) (pitch : Nat) (slot : Slot) => match slot with
    | .occupied o =>
      if pitch = c.pitchAt c.verifyOffset ∧ o.verify = .unmeasured ∧ o.disposition = .insert then
        Slot.occupied { o with
          verify := .failed, disposition := .divert, reason := some .verify, unjudged := true }
      else if pitch = c.pitchAt c.gateOffset ∧ o.disposition = .divert then .occupied { o with disposition := .strip }
      else .occupied o
    | .reserved n d => .reserved n d
    | .empty => .empty
  let indexed := fun (c : Chain) => { c with
    pointer := (c.pointer + 1) % c.length, indexSeen := false, gateDone := false
    stripPending := match c.slotAt 0 with | .occupied _ => some (c.pitchAt 0) | .reserved _ _ => none | .empty => none
    slots := c.slots.mapIdx (turned c) }
  let leftV := fun (c : Chain) (e : StepContext) => match c.slotAt c.verifyOffset with
    | .occupied o =>
      if o.verify = .unmeasured ∧ o.disposition = .insert ∧ o.step = some e.number then { e with state := .diverting } else e
    | .reserved _ _ => e
    | .empty => e
  let leftG := fun (c : Chain) (e : StepContext) => match c.slotAt c.gateOffset with
    | .occupied o =>
      if o.disposition = .divert ∧ o.step = some e.number ∧ e.state = .diverting then { e with state := .stripping } else e
    | .reserved _ _ => e
    | .empty => e
  let carried := fun (c : Chain) (d : Board) => { d with window := d.window.map fun e => leftG c (leftV c e) }
  let begun := fun (s t : State) (index : Bool) =>
    t.blocks.shaft = { s.blocks.shaft with
        angle := 0, distance := 0, live := true, advance := s.blocks.chain.grant
        opened := put (Vector.replicate 10 false) 0 index, decided := false, continues := false, offerTaken := false }
      ∧ t.blocks.counters.residency.dwell =
          (if s.blocks.chain.grant then s.blocks.counters.residency.dwell
            else min (s.blocks.counters.residency.dwell + 1) 4294967295)
  let kept := fun (s t : State) =>
    t.blocks.alarm = s.blocks.alarm ∧ t.blocks.source = s.blocks.source ∧ t.blocks.planner = s.blocks.planner
      ∧ t.blocks.positioner.lock = s.blocks.positioner.lock ∧ t.blocks.head.record = s.blocks.head.record
      ∧ t.link = s.link
  (∀ (station : Station) (s : State), s.blocks.driven →
    (s.blocks.shaft.machine = .cycling ∨ s.blocks.shaft.machine = .purging) → s.blocks.shaft.registered = true →
    s.blocks.shaft.distance = 1439 → s.blocks.counters.quiet →
    (s.blocks.shaft.noWindowAt 0 →
      ∃ t, exec (.encoderSample true true station) s = .next t ∧ begun s t false ∧ kept s t
        ∧ t.blocks.chain = { s.blocks.chain with grant := false } ∧ t.blocks.board = s.blocks.board)
    ∧ ((s.blocks.shaft.arc .index).loaded = true → (s.blocks.shaft.arc .index).start = 0 →
      (∀ w : Window, w ≠ .index → (s.blocks.shaft.arc w).loaded = true →
        (s.blocks.shaft.arc w).start ≠ 0 ∧ (s.blocks.shaft.arc w).stop ≠ 0) →
      s.blocks.chain.sound → s.blocks.chain.loaded = true →
      let c := { s.blocks.chain with grant := false }
      ∃ t, exec (.encoderSample true true station) s = .next t ∧ begun s t true ∧ kept s t
        ∧ t.blocks.chain = (if s.blocks.chain.grant then indexed c else c)
        ∧ t.blocks.board = (if s.blocks.chain.grant then carried c s.blocks.board else s.blocks.board)))
  ∧ (∀ (station : Station) (s : State), s.blocks.meets .index true → s.blocks.chain.sound → s.blocks.chain.loaded = true →
    ∃ t, exec (.encoderSample true false station) s = .next t ∧ t.blocks.shaft = (s.blocks.counted .index true).shaft
      ∧ kept s t
      ∧ t.blocks.chain = (if s.blocks.shaft.advance then indexed s.blocks.chain else s.blocks.chain)
      ∧ t.blocks.board = (if s.blocks.shaft.advance then carried s.blocks.chain s.blocks.board else s.blocks.board))
  ∧ (∀ (station : Station) (w : Window) (opens : Bool) (s : State), w ∈ [Window.fire, .verify, .gate] →
    s.blocks.meets w opens → s.blocks.shaft.advance = false →
    exec (.encoderSample true false station) s = .next { s with blocks := { s.blocks with shaft := { s.blocks.shaft with
      angle := s.blocks.shaft.angle + 1, distance := s.blocks.shaft.distance + 1 } } })

/-- R14, R161: at DECISION open of a live revolution the shaft monitor continues when there is reason to, the STOP-pending flag
is clear and the demand is below STOP-AT-PARK, and requests a park otherwise; a park once requested stays. The reason is
that work exists in CYCLING, and that a slot holds the reason PURGE in PURGING. Nothing else changes.
R84: at DECISION close the index is granted for the next revolution when the monitor chose to continue, the slot at offset 0 is
EMPTY or OCCUPIED with disposition STRIP, and the demand is below STOP-AT-PARK, and not granted otherwise. Nothing else
changes. -/
def Obligations.DecisionChooses : Prop :=
  ∀ (station : Station) (s : State),
    (s.blocks.meets .decision true → (s.blocks.shaft.machine = .cycling ∨ s.blocks.shaft.machine = .purging) →
      let counted := s.blocks.counted .decision true
      let reason := if s.blocks.shaft.machine = .cycling then s.blocks.chain.work
        else s.blocks.chain.slots.any fun x => match x with
          | .occupied o => decide (o.reason = some .purge) | .reserved _ _ => false | .empty => false
      let goOn := reason && !s.blocks.shaft.stopPending && decide (s.blocks.alarm.demand < 3)
      exec (.encoderSample true false station) s = .next { s with blocks := { counted with shaft := { counted.shaft with
        decided := true, continues := goOn, parkRequested := s.blocks.shaft.parkRequested || !goOn } } })
    ∧ (s.blocks.meets .decision false →
      let counted := s.blocks.counted .decision false
      let clear := match s.blocks.chain.slotAt 0 with
        | .empty => true | .reserved _ _ => false | .occupied o => decide (o.disposition = .strip)
      exec (.encoderSample true false station) s = .next { s with blocks := { counted with chain := { s.blocks.chain with
        grant := s.blocks.shaft.continues && clear && decide (s.blocks.alarm.demand < 3) } } })

/-- R9, R12, R14, R84, R157, R161: the forward sample that brings the angle to the park angle takes a park request: the drive
goes to HELD, the revolution and any run to park end, a grant is dropped, and a purge asked for with a recovery is no longer
requested. Under a demand of STOP-AT-PARK or STOP-NOW the machine enters HALTED, with the STOP-pending flag clear. Otherwise it
enters STOPPED with STOP pending, and from CYCLING or PURGING also with the board NONE; a recovery with the purge flag and an
OCCUPIED slot goes on to PURGING, its slots marked as at any purge start (R160) and the freeze set; and every other park leads
to WAITING, which goes on at once to STOPPED with the board NONE and to CYCLING when work exists (R13). For CYCLING and HOMING
these hold in every state; for the ends of PURGING and RECOVERING other than HALTED, which are planning events, they are
stated with nothing to plan. -/
def Obligations.ParkEnds : Prop :=
  ∀ (station : Station) (s : State) (a : Nat), s.blocks.driven → s.blocks.shaft.parkRequested = true →
    s.blocks.shaft.angle = a → a + 1 = s.blocks.shaft.parkAngle → a + 1 ≤ 1439 → s.blocks.shaft.distance < 1440 →
    s.blocks.shaft.noWindowAt (a + 1) →
    let m := s.blocks.shaft.machine
    let chain := { s.blocks.chain with grant := false }
    let ends := fun (t : State) (machine : MachineState) (drive : Drive) (map : Chain) =>
      t.blocks.shaft.machine = machine ∧ t.blocks.shaft.drive = drive ∧ t.blocks.chain = map
    let stops := fun (t : State) => ends t .stopped .held chain ∧ t.blocks.shaft.stopPending = false
    let waits := fun (t : State) =>
      if s.blocks.board.phase = .none then stops t
      else if s.blocks.chain.work = true then ends t .cycling .driving { chain with grant := s.blocks.chain.headClear }
      else ends t .waiting .held chain
    let marked : Chain := { chain with slots := chain.slots.mapIdx (fun pitch slot => match slot with
      | .occupied o => .occupied { o with
          disposition := if chain.gateOffset ≤ chain.offsetOf pitch then .divert else .strip
          reason := some .purge }
      | .reserved n d => .reserved n d
      | .empty => .empty) }
    (m = .homing ∨ m = .cycling ∨ m = .purging ∨ m = .recovering) →
    ∃ t, exec (.encoderSample true false station) s = .next t ∧ t.blocks.shaft.angle = a + 1
      ∧ t.blocks.shaft.live = false ∧ (∀ w : Window, t.blocks.shaft.isOpen w = false)
      ∧ t.blocks.shaft.parkRequested = false ∧ t.link = s.link
      ∧ (m = .recovering → t.blocks.shaft.purgeRequested = false)
      ∧ (3 ≤ s.blocks.alarm.demand →
          t.blocks.shaft.machine = .halted ∧ t.blocks.shaft.drive = .held ∧ t.blocks.shaft.stopPending = false
            ∧ t.blocks.chain.grant = false)
      ∧ (s.blocks.alarm.demand < 3 →
        (m = .homing → if s.blocks.shaft.stopPending = true then stops t else waits t)
        ∧ (m = .cycling →
          if s.blocks.shaft.stopPending = true ∨ s.blocks.board.phase = .none then stops t else waits t)
        ∧ (m = .purging → s.blocks.board.nothingToPlan →
          if s.blocks.shaft.stopPending = true ∨ s.blocks.board.phase = .none then stops t else waits t)
        ∧ (m = .recovering → s.blocks.board.nothingToPlan →
          if s.blocks.shaft.stopPending = true then stops t
          else if s.blocks.shaft.purgeRequested = true ∧ s.blocks.chain.occupiedCount ≠ 0 then
            ends t .purging .driving { marked with grant := marked.headClear } ∧ t.blocks.planner.freeze = true
          else waits t))

/-! ## Verify station, gate and chain -/

/-- R46, R90 to R93, R96, R98: the verify station. The forward phase of a diode's measurement ends at its trip, with the
reading of its count, or OPEN when its count exceeds the last band's max count; the reverse phase then starts, and nothing
else changes. With no measurement under way a trip and a limit change nothing (log entry 4).
The trip or the limit that ends a measurement gives the result, as VERIFY close does for a measurement or phase that has not
tripped, which is OPEN with the count reached; a phase not yet begun is OPEN too. The reading of a count is R93's walk, R94
gives the result of one phase, and `DiodeResultFollowsTable` that of two. The bands are those of the reading and the kind's
fields those of VERIFY open, which for a component that names no step is the model's reading (log entry 19).
A result goes to the step's record and PASS-ALT flag, if the component names a step; the component is PASSED for PASS or
PASS-ALT and FAILED otherwise, and one with disposition INSERT has its step VERIFIED, or is DIVERT with reason MISSING or
VERIFY and its step DIVERTING. Its source, if it names one, has the counts, the condition and the reel of Table 3-6, with
WRONG REEL (23) or REEL OUT (24); an OPEN joins the fault run, which four entries of two dispensers end in VERIFIER FAULT (17),
MISSING and an OPEN of no source leave the run, and the others empty it. The codes are stated where their classes ask nothing
of the shaft at once. No other slot, step or dispenser changes, the counters disabled and nothing being planned.
At VERIFY open of an advance the table of cases holds: a stray is found at an EMPTY slot, a component UNMEASURED with its kind
present starts its measurement, with RANGE 0–1 at the kind's code, has PASS in mode N, or without presence is MISSING; anything
else is left as it is. -/
def Obligations.TripsEndPhases : Prop :=
  let resultOf := fun (k : Kind) (r : Reading) => match k.mode with
    | .jumper => if r = .short then VerifyResult.pass else .value
    | _ => match r with
      | .short => .short
      | .opened => .opened
      | .band b =>
        if k.expectedLo ≤ b ∧ b ≤ k.expectedHi then .pass
        else if (match k.alternate with | some a => decide (a.1 ≤ b) && decide (b ≤ a.2) | none => false) then .passAlt
        else .value
  let single := fun (k : Kind) (r : Reading) (count : Nat) =>
    (⟨resultOf k r, match r with | .band b => some b | .short => none | .opened => none, some count⟩ : VerifyRecord)
  let stays := fun (s t : State) => t.blocks.planner.freeze = s.blocks.planner.freeze
    ∧ t.blocks.positioner.lock = s.blocks.positioner.lock ∧ t.blocks.head.record = s.blocks.head.record ∧ t.link = s.link
  let slotted := fun (s t : State) (pitch : Nat) (o : Component) =>
    t.blocks.chain = { s.blocks.chain with slots := s.blocks.chain.slots.set pitch (.occupied o) }
  -- a result given to the component at a pitch
  let given := fun (i : Instr) (s : State) (shaft : Shaft) (running : Option Measurement) (pitch : Nat) (o : Component)
      (v : VerifyRecord) =>
    let r := v.result
    let passed := decide (r = .pass) || decide (r = .passAlt)
    let insert := decide (o.disposition = .insert)
    let reel := fun (d : Nat) => look s.blocks.source.dispensers d
    let raised : Nat → Bool := fun code => match o.source with
      | some d => if code = 17 then decide (r = .opened) && s.blocks.verifier.faultsAt d else (reel d).raises r code
      | none => false
    s.blocks.chain.slotOf pitch = .occupied o → s.blocks.counters.quiet → (o.source ≠ none → s.blocks.board.nothingToPlan) →
    (∀ code, code ∈ [17, 23, 24] → raised code = true → { s.blocks with shaft := shaft }.unmovedBy code) →
    ∃ t, exec i s = .next t ∧ stays s t ∧ t.blocks.shaft = shaft
      ∧ slotted s t pitch (if insert = true ∧ passed = false then { o with
            verify := .failed, disposition := .divert, reason := some (if r = .missing then .missing else .verify) }
          else { o with verify := if passed then .passed else .failed })
      ∧ t.blocks.board = { s.blocks.board with
          window := s.blocks.board.window.map fun e =>
            if o.step = some e.number then { e with
              verify := some v, passAlt := e.passAlt || decide (r = .passAlt)
              state := if insert then (if passed then .verified else .diverting) else e.state } else e }
      ∧ (∀ e, e < 96 → look t.blocks.source.dispensers e = if o.source = some e then (reel e).after r else reel e)
      ∧ (o.source = none → t.blocks.source = s.blocks.source)
      ∧ t.blocks.verifier = { s.blocks.verifier with
          running := running
          faultRun := if r = .missing ∨ (r = .opened ∧ o.source = none) then s.blocks.verifier.faultRun
            else match o.source with
              | some d => if r = .opened ∧ s.blocks.verifier.faultsAt d = false then s.blocks.verifier.runWith d else []
              | none => [] }
      ∧ t.blocks.alarm.elsewhere s.blocks.alarm [17, 23, 24]
      ∧ (∀ code context, (code, context) ∈ [(17, AlarmContext.mk none o.source none), (23, ⟨o.step, o.source, o.kind⟩),
          (24, ⟨none, o.source, none⟩)] →
        look t.blocks.alarm.codes code =
          if raised code then (look s.blocks.alarm.codes code).struck context else look s.blocks.alarm.codes code)
  (∀ (s : State),
    (∀ (m : Measurement) (count : Nat), s.blocks.verifier.running = some m → m.phase = .forward →
      let top := s.blocks.verifier.lastMax m.kind
      let reversing := fun (r : Reading) (n : Nat) => Host.Outcome.next { s with blocks := { s.blocks with
        verifier := { s.blocks.verifier with running := some { m with phase := .reverse r n } } } }
      (∀ r, count ≤ top + 1 → count ≤ 65535 → s.blocks.verifier.reads m.kind count r →
        exec (.measureSenseTrip count) s = reversing r count)
      ∧ (top < 65535 → exec .verifyPhaseLimit s = reversing .opened (top + 1)))
    ∧ (s.blocks.verifier.running = none →
        (∀ count, exec (.measureSenseTrip count) s = .next s) ∧ exec .verifyPhaseLimit s = .next s))
  -- the end of a measurement by a trip or a limit
  ∧ (∀ (count : Nat) (m : Measurement) (o : Component) (r : Reading) (s : State), s.blocks.verifier.running = some m →
    count ≤ 65535 →
    let top := s.blocks.verifier.lastMax m.kind
    let reads := s.blocks.verifier.reads m.kind count r
    (m.phase = .single → (m.kind.mode = .resistive ∨ m.kind.mode = .capacitive ∨ m.kind.mode = .jumper) → reads →
      given (.measureSenseTrip count) s s.blocks.shaft none m.pitch o (single m.kind r count))
    ∧ (∀ fwd n, m.phase = .reverse fwd n →
      (count ≤ top + 1 → reads →
        given (.measureSenseTrip count) s s.blocks.shaft none m.pitch o (diodeRecord m.kind fwd n r count))
      ∧ (top < 65535 →
        given .verifyPhaseLimit s s.blocks.shaft none m.pitch o (diodeRecord m.kind fwd n .opened (top + 1)))))
  -- VERIFY open and VERIFY close
  ∧ (∀ (station : Station) (s : State), s.blocks.shaft.advance = true →
    let sample := Instr.encoderSample true false station
    (s.blocks.meets .verify true →
      let counted := s.blocks.counted .verify true
      let pitch := s.blocks.chain.pitchAt s.blocks.chain.verifyOffset
      let presence := station.presenceA && station.presenceB
      let present := fun (o : Component) (id : Nat) (k : Kind) => o.verify = .unmeasured ∧ o.kind = some id
        ∧ s.blocks.source.kind? id = some k ∧ s.blocks.verifier.bandsPass k
      let started := fun (id : Nat) (k : Kind) (phase : Phase) => exec sample s =
        .next { s with blocks := { counted with
          verifier := { counted.verifier with running := some ⟨pitch, id, k, phase⟩, range := k.range } } }
      (s.blocks.chain.slotOf pitch = .empty → presence = false → exec sample s = .next { s with blocks := counted })
      ∧ (∀ n d, s.blocks.chain.slotOf pitch = .reserved n d → exec sample s = .next { s with blocks := counted })
      ∧ (s.blocks.chain.slotOf pitch = .empty → presence = true → ∃ t, exec sample s = .next t
          ∧ slotted s t pitch ⟨none, none, none, .failed, .divert, some .stray, false⟩ ∧ stays s t
          ∧ t.blocks.shaft = counted.shaft ∧ t.blocks.board = s.blocks.board ∧ t.blocks.source = s.blocks.source
          ∧ t.blocks.verifier = s.blocks.verifier ∧ t.blocks.counters = s.blocks.counters
          ∧ t.blocks.alarm = s.blocks.alarm)
      ∧ (∀ o, s.blocks.chain.slotOf pitch = .occupied o →
        ((∀ id k, ¬ present o id k) → exec sample s = .next { s with blocks := counted })
        ∧ (∀ id k, present o id k →
          (presence = true → k.mode = .resistive ∨ k.mode = .capacitive ∨ k.mode = .jumper → started id k .single)
          ∧ (presence = true → k.mode = .diode → started id k .forward)
          ∧ (presence = false ∨ k.mode = .none → given sample s counted.shaft s.blocks.verifier.running pitch o
            ⟨if presence then .pass else .missing, none, none⟩))))
    ∧ (s.blocks.meets .verify false →
      let counted := s.blocks.counted .verify false
      (s.blocks.verifier.running = none → exec sample s = .next { s with blocks := counted })
      ∧ (∀ m o, s.blocks.verifier.running = some m →
        let top := s.blocks.verifier.lastMax m.kind
        let reached := min (min station.verifyCount (top + 1)) 65535
        let v : VerifyRecord := match m.phase with
          | .single => single m.kind .opened (min station.verifyCount 65535)
          | .forward => ⟨.opened, none, some reached⟩
          | .reverse fwd n => diodeRecord m.kind fwd n .opened reached
        (m.phase = .single → m.kind.mode = .resistive ∨ m.kind.mode = .capacitive ∨ m.kind.mode = .jumper) →
        given sample s counted.shaft none m.pitch o v)))

/-- R95, Table 5-6: the rows of the table, tried in order; "in range" is a band within the expected range, "in alternate" a
band within the alternate range and not within the expected range. -/
def Obligations.DiodeResultFollowsTable : Prop :=
  ∀ (k : Kind) (forward reverse : Reading) (nf nr : Nat),
    let inRange : Reading → Prop := fun r => ∃ b, r = .band b ∧ k.expectedLo ≤ b ∧ b ≤ k.expectedHi
    let inAlternate : Reading → Prop := fun r => ¬ inRange r
      ∧ ∃ b lo hi, r = .band b ∧ k.alternate = some (lo, hi) ∧ lo ≤ b ∧ b ≤ hi
    let band : Reading → Option Nat := fun r => match r with | .band b => some b | .short => none | .opened => none
    let v := diodeRecord k forward nf reverse nr
    (forward = .opened ∧ reverse = .opened → v = ⟨.opened, none, some nf⟩)
      ∧ (forward = .short ∧ reverse = .short → v = ⟨.short, none, some nf⟩)
      ∧ (inRange forward ∧ reverse = .opened → v = ⟨.pass, band forward, some nf⟩)
      ∧ (inAlternate forward ∧ reverse = .opened → v = ⟨.passAlt, band forward, some nf⟩)
      ∧ (forward = .opened ∧ inRange reverse → v = ⟨.reversed, band reverse, some nr⟩)
      ∧ (¬ (forward = .opened ∧ reverse = .opened) → ¬ (forward = .short ∧ reverse = .short) →
          ¬ (inRange forward ∧ reverse = .opened) → ¬ (inAlternate forward ∧ reverse = .opened) →
          ¬ (forward = .opened ∧ inRange reverse) → v = ⟨.value, band forward, some nf⟩)

/-- R32, R47, R83, R88, R99, R100: the reject gate and the stripper. At GATE open of an advance gate done is set, and for a
DIVERT component at offset G GATE FIRE is asserted and the gate pending; nothing else changes. The gate that returns home
while GATE is open, and the STRIP pulse while a strip is pending, end the action: the component leaves the chain, its slot
EMPTY and every other slot as it was. Naming no step and no source it changes no step, dispenser or alarm; naming a step of
a bad image, it has the step resolved SKIPPED-BAD-IMAGE; naming a source and never measured, it clears the source's
proving-in-flight flag. Naming a step of a good image, it returns the step for a make-up (R74, R75), stated with no other
step to plan: for VERIFY, MISSING and GATE FAIL alone the make-up count rises by one; the step is QUEUED with its slot
absent, its dwell count 0 and its source kept, or reserved anew by the pass that follows (stated with NO SOURCE of class NOTE), and while planning is blocked nothing else changes. Where the count would
exceed the limit the step is FAILED, STEP FAILED, code 18, occurs with the step, the dispenser that supplied it and its
kind, and no replan follows; the code is stated where its class asks nothing of the shaft at once. A STRIP pulse while no
strip is pending changes nothing, and GATE HOME asserted while no gate is pending, or negated then, changes nothing by the
model's choice (log entry 4); a component turned FAILED as it left V unmeasured counts as never measured (log entry 31).
While the gate is pending, GATE HOME going negated releases GATE FIRE and changes nothing else.
GATE close with no gate pending changes nothing but the window; a gate still pending fails: GATE JAM, code 9, occurs with the
component's step, source and kind, GATE FIRE and the pending gate end, the component turns to STRIP with
reason GATE FAIL, and its DIVERTING step, in a sound window, to STRIPPING; stated with no strip pending. -/
def Obligations.GateAndStripActionsEnd : Prop :=
  -- the two ends of an action
  (∀ (pitch : Nat) (o : Component) (s : State), s.blocks.chain.slotOf pitch = .occupied o → s.blocks.counters.quiet →
    s.blocks.planner.freeze = false →
    let same := fun (t : State) => t.blocks.shaft = s.blocks.shaft ∧ t.blocks.alarm = s.blocks.alarm
      ∧ t.blocks.positioner.lock = s.blocks.positioner.lock ∧ t.blocks.head.record = s.blocks.head.record
      ∧ t.blocks.planner.freeze = false ∧ t.link = s.link
    let ends := fun (after : State → Chain → Prop) =>
      let emptied := s.blocks.chain.slots.set pitch .empty
      (s.blocks.chain.gatePending = some pitch → s.blocks.chain.gateFire = false → s.blocks.shaft.isOpen .gate = true →
        ∃ t, exec .gateHomeAsserted s = .next t ∧ t.link = s.link
          ∧ after t { s.blocks.chain with gatePending := none, slots := emptied })
      ∧ (s.blocks.chain.stripPending = some pitch →
        ∃ t, exec .stripSensorPulse s = .next t ∧ t.link = s.link
          ∧ after t { s.blocks.chain with stripPending := none, slots := emptied })
    let settled := fun (t : State) => ∀ e, e < 96 → look t.blocks.source.dispensers e =
      (if o.source = some e ∧ (o.verify = .unmeasured ∨ o.unjudged = true) then
        { look s.blocks.source.dispensers e with proving := false } else look s.blocks.source.dispensers e)
    (o.nameless → ends fun t chain => same t ∧ t.blocks.chain = chain ∧ t.blocks.board = s.blocks.board
      ∧ t.blocks.source = s.blocks.source ∧ t.blocks.planner = s.blocks.planner)
    ∧ (∀ c, o.step = some c.number → s.blocks.board.context? c.number = some c → c.state ≠ .resolved →
      s.blocks.board.goodMask.getLsbD c.image = false → s.blocks.board.sound →
      (o.source ≠ none → s.blocks.board.nothingElseToPlan c.number) →
      ends fun t chain => same t ∧ t.blocks.chain = chain ∧ settled t
        ∧ t.blocks.board = s.blocks.board.withResolved { c with badImage := true } .skippedBadImage
          { s.blocks.board.tallies with
            skipped := s.blocks.board.tallies.skipped + 1, makeUps := s.blocks.board.tallies.makeUps + c.makeUps })
    ∧ (o.step = none → s.blocks.board.nothingToPlan →
      ends fun t chain => same t ∧ t.blocks.chain = chain ∧ t.blocks.board = s.blocks.board ∧ settled t)
    ∧ (∀ c, o.step = some c.number → s.blocks.board.context? c.number = some c → c.state ≠ .resolved →
      s.blocks.board.goodMask.getLsbD c.image = true → s.blocks.board.sound → s.blocks.board.nothingElseToPlan c.number →
      let counts := decide (o.reason = some .verify) || decide (o.reason = some .missing)
        || decide (o.reason = some .gateFail)
      let within := c.makeUps + 1 ≤ s.blocks.planner.makeUpLimit
      (counts = false ∨ within → s.blocks.plansNothing → ends fun t chain => same t ∧ t.blocks.chain = chain
        ∧ t.blocks.board = s.blocks.board.withContext (c.returned counts) ∧ settled t)
      ∧ (counts = false ∨ within → s.blocks.chain.sound → (look s.blocks.alarm.codes 25).cls = .note →
        ends fun t _ => t.blocks.holdsReturned (c.returned counts)
          ∧ ∀ n, n ≠ c.number → t.blocks.board.context? n = s.blocks.board.context? n)
      ∧ (counts = true → ¬ within → s.blocks.unmovedBy 18 → ends fun t chain => t.blocks.shaft = s.blocks.shaft
        ∧ t.blocks.chain = chain ∧ settled t ∧ t.blocks.alarm.elsewhere s.blocks.alarm [18]
        ∧ look t.blocks.alarm.codes 18 = (look s.blocks.alarm.codes 18).struck ⟨some c.number, c.source, some c.kind⟩
        ∧ t.blocks.board = s.blocks.board.withResolved c .failed { s.blocks.board.tallies with
            failed := s.blocks.board.tallies.failed + 1, makeUps := s.blocks.board.tallies.makeUps + c.makeUps })))
  ∧ (∀ s : State,
    (s.blocks.chain.gatePending = none → exec .gateHomeAsserted s = .next s)
    ∧ (s.blocks.chain.stripPending = none → exec .stripSensorPulse s = .next s)
    ∧ exec .gateHomeNegated s = .next (match s.blocks.chain.gatePending with
      | some _ => { s with blocks := { s.blocks with chain := { s.blocks.chain with gateFire := false } } }
      | none => s))
  -- GATE open and GATE close
  ∧ (∀ (station : Station) (s : State), s.blocks.shaft.advance = true →
    let sample := Instr.encoderSample true false station
    (s.blocks.meets .gate true →
      let counted := s.blocks.counted .gate true
      let pitch := s.blocks.chain.pitchAt s.blocks.chain.gateOffset
      let turns : Bool := match s.blocks.chain.slotOf pitch with
        | .occupied o => decide (o.disposition = .divert) | .reserved _ _ => false | .empty => false
      exec sample s = .next { s with blocks := { counted with chain := if turns then
          { counted.chain with gateDone := true, gateFire := true, gatePending := some pitch }
        else { counted.chain with gateDone := true } } })
    ∧ (s.blocks.meets .gate false →
      let counted := s.blocks.counted .gate false
      (s.blocks.chain.gatePending = none → exec sample s = .next { s with blocks := counted })
      ∧ (∀ pitch o, s.blocks.chain.gatePending = some pitch → s.blocks.chain.slotOf pitch = .occupied o →
        s.blocks.chain.stripPending = none →
        ∃ t, exec sample s = .next t ∧ t.blocks.chain.gatePending = none ∧ t.blocks.chain.gateFire = false
          ∧ t.blocks.chain.slotOf pitch = .occupied { o with disposition := .strip, reason := some .gateFail }
          ∧ look t.blocks.alarm.codes 9 = (look s.blocks.alarm.codes 9).struck ⟨o.step, o.source, o.kind⟩
          ∧ (∀ c, s.blocks.board.sound → o.step = some c.number → s.blocks.board.context? c.number = some c →
            c.state = .diverting → t.blocks.board.context? c.number = some { c with state := .stripping })
          ∧ t.link = s.link)))

/-- R86: the first CHAIN INDEX pulse of an advance's INDEX window sets index seen and does nothing else. Every other pulse
raises CHAIN MOVED UNBIDDEN, code 7, and does not move the map: P, L and the machine's angle stay.
R87, R88: at INDEX close of an advance a clear index seen raises CHAIN INDEX MISSING, code 6; a strip still pending raises
RUNOUT JAM, code 8, with the component's step, source and kind, and the component is taken as having left: no strip is pending,
and its slot is EMPTY. R32, R74, R75, R83: the step it names, nothing else being planned and the pulse seen, is
SKIPPED-BAD-IMAGE in a bad image; else it returns, its make-up count one higher for VERIFY, MISSING and GATE FAIL, to QUEUED or
to a new reservation, and beyond the limit it is FAILED with STEP FAILED, code 18: stated where the codes ask nothing of the
shaft at once, and where RUNOUT JAM is of class STOP-NOW, as it is by default, with no measurement, gate action or insertion
under way, where the machine halts as well and the step that returns is QUEUED. With the pulse seen and no strip pending, the counters
disabled and nothing to plan, neither alarm occurs and the map stays. In a dwell revolution nothing but the window changes. -/
def Obligations.ChainIndexPulse : Prop :=
  (∀ s : State,
    let expected := s.blocks.shaft.live && s.blocks.shaft.advance && s.blocks.shaft.isOpen .index
      && !s.blocks.chain.indexSeen
    (expected = true → exec .chainIndexPulse s =
      .next { s with blocks := { s.blocks with chain := { s.blocks.chain with indexSeen := true } } })
    ∧ (expected = false → ∃ t, exec .chainIndexPulse s = .next t
        ∧ t.blocks.chain.pointer = s.blocks.chain.pointer ∧ t.blocks.chain.length = s.blocks.chain.length
        ∧ t.blocks.shaft.angle = s.blocks.shaft.angle ∧ t.link = s.link
        ∧ look t.blocks.alarm.codes 7 = (look s.blocks.alarm.codes 7).struck ⟨none, none, none⟩))
  ∧ (∀ (station : Station) (s : State), s.blocks.meets .index false →
    let sample := Instr.encoderSample true false station
    let counted := s.blocks.counted .index false
    let advance := s.blocks.shaft.advance
    (advance = false → exec sample s = .next { s with blocks := counted })
    ∧ (advance = true → s.blocks.chain.indexSeen = false → ∃ t, exec sample s = .next t
        ∧ look t.blocks.alarm.codes 6 = (look s.blocks.alarm.codes 6).struck ⟨none, none, none⟩
        ∧ t.blocks.chain.pointer = s.blocks.chain.pointer ∧ t.link = s.link)
    ∧ (advance = true → s.blocks.chain.indexSeen = true → s.blocks.chain.stripPending = none → s.blocks.counters.quiet →
        s.blocks.board.nothingToPlan → ∃ t, exec sample s = .next t ∧ t.blocks.shaft = counted.shaft
        ∧ t.blocks.chain = s.blocks.chain ∧ t.blocks.board = s.blocks.board ∧ t.blocks.alarm = s.blocks.alarm
        ∧ t.blocks.source = s.blocks.source ∧ t.blocks.counters = s.blocks.counters
        ∧ t.blocks.positioner.lock = s.blocks.positioner.lock ∧ t.link = s.link)
    ∧ (∀ pitch o, advance = true → s.blocks.chain.stripPending = some pitch → s.blocks.chain.slotOf pitch = .occupied o →
        s.blocks.counters.quiet →
        (∃ t, exec sample s = .next t ∧ t.blocks.chain.stripPending = none ∧ t.link = s.link
          ∧ look t.blocks.alarm.codes 8 = (look s.blocks.alarm.codes 8).struck ⟨o.step, o.source, o.kind⟩
          ∧ (o.step = none → s.blocks.board.nothingToPlan → t.blocks.chain.slotOf pitch = .empty))
        -- the return of the step it names
        ∧ (∀ c, o.step = some c.number → s.blocks.board.context? c.number = some c → c.state ≠ .resolved →
          s.blocks.board.sound → s.blocks.board.nothingElseToPlan c.number → s.blocks.chain.indexSeen = true →
          let was := s.blocks.board.tallies
          let skipped := s.blocks.board.withResolved { c with badImage := true } .skippedBadImage
            { was with skipped := was.skipped + 1, makeUps := was.makeUps + c.makeUps }
          let failed := s.blocks.board.withResolved c .failed
            { was with failed := was.failed + 1, makeUps := was.makeUps + c.makeUps }
          let leaves := fun (t : State) (codes : List Nat) => t.blocks.shaft = counted.shaft
            ∧ t.blocks.chain = { s.blocks.chain with
                stripPending := none, slots := s.blocks.chain.slots.set pitch .empty }
            ∧ t.blocks.positioner.lock = s.blocks.positioner.lock ∧ t.blocks.head.record = s.blocks.head.record
            ∧ t.blocks.alarm.elsewhere s.blocks.alarm codes ∧ t.link = s.link
          let good := s.blocks.board.goodMask.getLsbD c.image
          let counts := decide (o.reason = some .verify) || decide (o.reason = some .missing)
            || decide (o.reason = some .gateFail)
          let within := counts = false ∨ c.makeUps + 1 ≤ s.blocks.planner.makeUpLimit
          let stepFailed := fun (t : State) => t.blocks.board = failed ∧ look t.blocks.alarm.codes 18 =
            (look s.blocks.alarm.codes 18).struck ⟨some c.number, c.source, some c.kind⟩
          -- RUNOUT JAM asks nothing of the shaft
          (s.blocks.planner.freeze = false → counted.unmovedBy 8 →
            (good = false → ∃ t, exec sample s = .next t ∧ leaves t [8] ∧ t.blocks.board = skipped)
            ∧ (good = true → within → s.blocks.plansNothing → ∃ t, exec sample s = .next t ∧ leaves t [8]
              ∧ t.blocks.board = s.blocks.board.withContext (c.returned counts))
            ∧ (good = true → within → s.blocks.chain.sound → (look s.blocks.alarm.codes 25).cls = .note →
              ∃ t, exec sample s = .next t ∧ t.blocks.holdsReturned (c.returned counts)
                ∧ ∀ n, n ≠ c.number → t.blocks.board.context? n = s.blocks.board.context? n)
            ∧ (good = true → ¬ within → counted.unmovedBy 18 → ∃ t, exec sample s = .next t ∧ leaves t [8, 18]
              ∧ stepFailed t))
          -- RUNOUT JAM halts the machine
          ∧ ((look s.blocks.alarm.codes 8).cls = .stopNow → s.blocks.alarm.demand < 4 →
            (s.blocks.shaft.machine = .cycling ∨ s.blocks.shaft.machine = .purging) → s.blocks.chain.gatePending = none →
            s.blocks.verifier.running = none → s.blocks.head.record = none →
            ∃ t, exec sample s = .next t ∧ t.blocks.shaft.machine = .halted ∧ t.blocks.shaft.drive = .held
              ∧ t.blocks.shaft.live = false ∧ t.blocks.chain.stripPending = none
              ∧ t.blocks.chain.slotOf pitch = .empty ∧ t.blocks.alarm.elsewhere s.blocks.alarm [8, 18]
              ∧ (good = false → t.blocks.board = skipped)
              ∧ (good = true → within → t.blocks.board = s.blocks.board.withContext (c.returned counts))
              ∧ (good = true → ¬ within → stepFailed t)
              ∧ (good = false ∨ within → look t.blocks.alarm.codes 18 = look s.blocks.alarm.codes 18)))))

/-! ## Window events of an advance -/

/-- R124, R125, R126, R113, R173: at TRANSFER open a VERIFIED step at offset 0 that passes the tier check and is ready, the
demand being below STOP-AT-PARK, is granted: the table is locked for it, its slot is EMPTY, the step is INSERTING without a
slot, the insertion record names it with no flag seen but JAWS when JAWS CLOSED is asserted (R129), HEAD INHIBIT is released
and the insert revolutions rise by one. Because the lock stands, the table target, the span target and the profile output
stay. That the lock keeps the step's kind with it is the model's (log entry 32).
While an unresolved step of a lower tier stands, whatever the demand and the readiness, there is no grant: the slot turns to
STRIP with reason TIER and the step to STRIPPING with its slot, its dwell count and the rest kept, no alarm occurs, the hole
revolutions rise by one in an advance, and nothing else changes but the choice of the candidate. -/
def Obligations.TransferGrants : Prop :=
  ∀ (station : Station) (s : State) (o : Component) (c : StepContext), s.blocks.meets .transfer true →
    s.blocks.shaft.machine = .cycling → s.blocks.chain.slotAt 0 = .occupied o → o.disposition = .insert →
    o.step = some c.number → s.blocks.board.context? c.number = some c → c.state = .verified →
    let p := s.blocks.positioner
    let pitch := s.blocks.chain.pitchAt 0
    let residency := s.blocks.counters.residency
    let offered := { (s.blocks.counted .transfer true).shaft with offerTaken := true }
    (∀ k, (∀ e ∈ s.blocks.board.window, e.state ≠ .resolved → c.tier ≤ e.tier) → p.lock = none → p.settle = .fine →
      (∃ served, p.target = some ⟨(c.target.getD (0, 0)).1, (c.target.getD (0, 0)).2, c.theta, served⟩) →
      c.target.isSome = true → s.blocks.source.kind? c.kind = some k → p.spanReady = true →
      p.spanTarget = some k.span → s.blocks.head.profileHolds k.profile = true → s.blocks.alarm.demand < 3 →
      ∃ t, exec (.encoderSample true false station) s = .next t ∧ t.blocks.positioner.lock = some c.number
        ∧ t.blocks.positioner.lockKind = some c.kind
        ∧ t.blocks.chain = { s.blocks.chain with slots := s.blocks.chain.slots.set pitch .empty }
        ∧ t.blocks.board.context? c.number = some { c with state := .inserting, slot := none }
        ∧ t.blocks.head = { s.blocks.head with
            inhibit := false
            record := some ⟨c.number, c.kind, c.source, station.jawsClosed, false, false, false, false, false⟩ }
        ∧ t.blocks.positioner.target = p.target ∧ t.blocks.positioner.spanTarget = p.spanTarget
        ∧ t.blocks.counters.residency.insert = min (residency.insert + 1) 4294967295
        ∧ t.blocks.shaft = offered ∧ t.blocks.alarm = s.blocks.alarm ∧ t.blocks.source = s.blocks.source
        ∧ t.blocks.sent = s.blocks.sent)
    ∧ ((∃ e ∈ s.blocks.board.window, e.state ≠ .resolved ∧ e.tier < c.tier) → s.blocks.board.sound →
      ∃ t, exec (.encoderSample true false station) s = .next t
        ∧ t.blocks.chain = { s.blocks.chain with
            slots := s.blocks.chain.slots.set pitch (.occupied { o with disposition := .strip, reason := some .tier }) }
        ∧ t.blocks.board = s.blocks.board.withContext { c with state := .stripping }
        ∧ t.blocks.counters = { s.blocks.counters with residency := { residency with
            hole := if s.blocks.shaft.advance then min (residency.hole + 1) 4294967295 else residency.hole } }
        ∧ t.blocks.head.record = s.blocks.head.record ∧ t.blocks.head.inhibit = s.blocks.head.inhibit
        ∧ t.blocks.positioner.lock = p.lock ∧ t.blocks.shaft = offered ∧ t.blocks.alarm = s.blocks.alarm
        ∧ t.blocks.source = s.blocks.source ∧ t.blocks.planner = s.blocks.planner ∧ t.link = s.link)

/-- R132, R133, R28, R74, R75: SENSE close, the step of the insertion record being INSERTING. The lock, the insertion record,
the head's inhibit and the shaft stay but where the pass that follows a return reserves the step anew, of which the window
alone is stated. The chain stays where the step is resolved INSERTED, MISINSERTED or FAILED, or SKIPPED-BAD-IMAGE, and where
the return is blocked.
With both leads seen the step is resolved INSERTED: it joins the tail of the report order, its make-ups and its insertion are
tallied, and the insertion is counted in its kind's statistics. With one lead seen it is resolved MISINSERTED, and counted so;
under the policy MARK, the step's override or else its kind's, no code occurs, and under STOP MISINSERT, code 19, occurs with
the step, the record's source and kind, stated where its class asks nothing of the shaft at once.
With no lead seen the component is LOST, a counted reason, and no other step is to be planned here: a step of a bad image is
SKIPPED-BAD-IMAGE; within the limit the step returns to QUEUED with its make-up count one higher, or is reserved anew by the
pass that follows; beyond it the step is FAILED and STEP FAILED, code 18, occurs with the step, its source and its kind. -/
def Obligations.BothLeadsInsert : Prop :=
  ∀ (station : Station) (s : State) (r : InsertionRecord) (c : StepContext), s.blocks.meets .sense false →
    s.blocks.head.record = some r → c.number = r.step → s.blocks.board.context? r.step = some c → c.state = .inserting →
    s.blocks.counters.quiet → s.blocks.board.sound →
    let sample := Instr.encoderSample true false station
    let counted := s.blocks.counted .sense false
    let was := s.blocks.board.tallies
    let stays := fun (t : State) => t.blocks.shaft = counted.shaft ∧ t.blocks.head.record = some r
      ∧ t.blocks.head.inhibit = s.blocks.head.inhibit ∧ t.blocks.positioner.lock = s.blocks.positioner.lock
      ∧ t.link = s.link
    let resolved := fun (t : State) (o : StepOutcome) (tallies : Tallies) => stays t ∧ t.blocks.chain = s.blocks.chain
      ∧ t.blocks.board = s.blocks.board.withResolved c o { tallies with makeUps := was.makeUps + c.makeUps }
    let struck := fun (t : State) (code : Nat) (context : AlarmContext) =>
      look t.blocks.alarm.codes code = (look s.blocks.alarm.codes code).struck context
        ∧ t.blocks.alarm.elsewhere s.blocks.alarm [code]
    let counts := fun (t : State) (f : Statistics → Statistics) => ∀ k, s.blocks.source.kind? r.kind = some k →
      k.statistics < 64 → look t.blocks.counters.statistics k.statistics =
        f (look s.blocks.counters.statistics k.statistics)
    -- both leads
    (r.leadA = true → r.leadB = true → ∃ t, exec sample s = .next t
      ∧ resolved t .inserted { was with inserted := was.inserted + 1 } ∧ t.blocks.alarm = s.blocks.alarm
      ∧ t.blocks.head = s.blocks.head ∧ t.blocks.positioner = s.blocks.positioner
      ∧ counts t fun e => { e with inserted := min (e.inserted + 1) 4294967295 })
    -- one lead
    ∧ (∀ k, r.leadA ≠ r.leadB → s.blocks.source.kind? c.kind = some k →
      let misinserted := fun (t : State) => resolved t .misinserted { was with misinserted := was.misinserted + 1 }
        ∧ counts t fun e => { e with misinsert := min (e.misinsert + 1) 4294967295 }
      (c.override.getD k.policy = .mark → ∃ t, exec sample s = .next t ∧ misinserted t ∧ t.blocks.alarm = s.blocks.alarm)
      ∧ (c.override.getD k.policy = .stop → counted.unmovedBy 19 → s.blocks.board.nothingToPlan →
        ∃ t, exec sample s = .next t ∧ misinserted t ∧ struck t 19 ⟨some r.step, r.source, some r.kind⟩))
    -- no lead
    ∧ (r.leadA = false → r.leadB = false → s.blocks.board.nothingElseToPlan c.number →
      let good := s.blocks.board.goodMask.getLsbD c.image
      let within := c.makeUps + 1 ≤ s.blocks.planner.makeUpLimit
      (good = false → ∃ t, exec sample s = .next t ∧ stays t ∧ t.blocks.chain = s.blocks.chain
        ∧ t.blocks.alarm = s.blocks.alarm
        ∧ t.blocks.board = s.blocks.board.withResolved { c with badImage := true } .skippedBadImage
            { was with skipped := was.skipped + 1, makeUps := was.makeUps + c.makeUps })
      ∧ (good = true → within → s.blocks.plansNothing → ∃ t, exec sample s = .next t ∧ stays t
        ∧ t.blocks.chain = s.blocks.chain ∧ t.blocks.alarm = s.blocks.alarm
        ∧ t.blocks.board = s.blocks.board.withContext (c.returned true))
      ∧ (good = true → within → s.blocks.chain.sound → (look s.blocks.alarm.codes 25).cls = .note →
        ∃ t, exec sample s = .next t ∧ t.blocks.holdsReturned (c.returned true)
          ∧ ∀ n, n ≠ c.number → t.blocks.board.context? n = s.blocks.board.context? n)
      ∧ (good = true → ¬ within → counted.unmovedBy 18 → ∃ t, exec sample s = .next t
        ∧ resolved t .failed { was with failed := was.failed + 1 } ∧ struck t 18 ⟨some c.number, c.source, some c.kind⟩))

/-! ## Head -/

/-- R129, R130, R132: JAWS, DOWN, RETURN, LEAD A and LEAD B are seen when their line's event falls in the TRANSFER, DESCEND,
CLINCH or SENSE window of a revolution that holds an insertion record; outside the window, and without a record, the event
changes nothing.
R130 to R132: an open that finds its line or contact asserted sees it at once: DOWN at DESCEND, LEAD A and LEAD B at SENSE, UP at
RETRACT, where the lock is freed the first time, and the candidate chosen, as by HEAD UP rising in the window; RETURN needs a
rise. Nothing else changes.
R129 to R131, R134: the closes of these windows. At TRANSFER, DESCEND and CLINCH close a line that was seen leaves all but the
window as it is, and one that was not raises TRANSFER JAM (2), HEAD DOWN MISSING (3) or CLINCH RETURN MISSING (4), with the
record's step, source and kind; the table's lock stands. RETRACT close asserts HEAD INHIBIT and ends the record; without UP
seen HEAD UP MISSING (5) occurs with the same context and HEAD UP is awaited. Without a record the opens and closes,
SENSE close among them, change nothing but the window.
Where the code's class is STOP-NOW and the demand was below it, the machine, CYCLING or PURGING, is braked and HALTED, the
record is gone, HEAD UP is awaited unless it was seen, and an INSERTING step of the record is UNCERTAIN with all else of it
kept, unless RETRACT close has ended the record first, which is the model's order (log entry 56); stated for a step that no
slot names. -/
def Obligations.LinesSeenInTheirWindows : Prop :=
  (∀ s : State,
    let see := fun (w : Window) (f : InsertionRecord → InsertionRecord) =>
      Host.Outcome.next (if s.blocks.shaft.isOpen w then
        { s with blocks := { s.blocks with head := { s.blocks.head with record := s.blocks.head.record.map f } } } else s)
    exec .jawsClosedAsserted s = see .transfer (fun r => { r with jaws := true })
      ∧ exec .headDownAsserted s = see .descend (fun r => { r with down := true })
      ∧ exec .clinchReturnRise s = see .clinch (fun r => { r with returned := true })
      ∧ exec (.leadContactClose .a) s = see .sense (fun r => { r with leadA := true })
      ∧ exec (.leadContactClose .b) s = see .sense (fun r => { r with leadB := true }))
  -- the closes and the opens
  ∧ (∀ (station : Station) (s : State),
    let sample := Instr.encoderSample true false station
    let head := s.blocks.head
    let missed := fun (r : InsertionRecord) (code : Nat) (keepsStep : Bool) (t : State) =>
      look t.blocks.alarm.codes code =
          (look s.blocks.alarm.codes code).struck ⟨some r.step, r.source, some r.kind⟩
      ∧ t.blocks.positioner.lock = s.blocks.positioner.lock ∧ t.link = s.link
      ∧ ((look s.blocks.alarm.codes code).cls = .stopNow → s.blocks.alarm.demand < 4 →
          (s.blocks.shaft.machine = .cycling ∨ s.blocks.shaft.machine = .purging) →
          t.blocks.shaft.machine = .halted ∧ t.blocks.shaft.drive = .held ∧ t.blocks.shaft.live = false
            ∧ (∀ w : Window, t.blocks.shaft.isOpen w = false) ∧ t.blocks.head.record = none
            ∧ t.blocks.head.inhibit = true ∧ t.blocks.head.upAwaited = (head.upAwaited || !r.up)
            ∧ ∀ c, s.blocks.board.context? r.step = some c → c.state = .inserting → s.blocks.board.sound →
                (∀ x ∈ s.blocks.chain.slots, x.step? ≠ some r.step) →
                t.blocks.board.context? r.step = some (if keepsStep then c else { c with state := .uncertain }))
    (head.record = none → (∀ w, w ∈ [Window.transfer, .descend, .clinch, .sense, .retract] → s.blocks.meets w false →
        exec sample s = .next { s with blocks := s.blocks.counted w false })
      ∧ ∀ w, w ∈ [Window.descend, .clinch, .sense, .retract] → s.blocks.meets w true →
        exec sample s = .next { s with blocks := s.blocks.counted w true })
    ∧ (∀ r, head.record = some r →
      (∀ w seen code, (w, seen, code) ∈ [(Window.transfer, r.jaws, 2), (.descend, r.down, 3), (.clinch, r.returned, 4)] →
        s.blocks.meets w false →
        (seen = true → exec sample s = .next { s with blocks := s.blocks.counted w false })
        ∧ (seen = false → ∃ t, exec sample s = .next t ∧ missed r code false t))
      ∧ (s.blocks.meets .retract false →
        (r.up = true → exec sample s = .next { s with blocks := { s.blocks.counted .retract false with
          head := { head with inhibit := true, record := none } } })
        ∧ (r.up = false → ∃ t, exec sample s = .next t ∧ missed r 5 true t ∧ t.blocks.head.record = none
          ∧ t.blocks.head.inhibit = true ∧ t.blocks.head.upAwaited = true))
      -- the opens
      ∧ (let opens := fun (w : Window) (now : InsertionRecord) => s.blocks.meets w true → exec sample s =
          .next { s with blocks := { s.blocks.counted w true with head := { head with record := some now } } }
        opens .descend (if station.headDown then { r with down := true } else r) ∧ opens .clinch r
        ∧ opens .sense { r with leadA := r.leadA || station.leadA, leadB := r.leadB || station.leadB }
        ∧ (station.headUp = false ∨ r.up = true → opens .retract r)
        ∧ (station.headUp = true → s.blocks.meets .retract true → head.upAwaited = false →
          exec sample s = exec .headUpAsserted { s with blocks := s.blocks.counted .retract true })
        ∧ (station.headUp = true → r.up = false → s.blocks.meets .retract true → ∃ t, exec sample s = .next t
          ∧ t.blocks.head.record = some { r with up := true } ∧ t.blocks.head.upAwaited = head.upAwaited
          ∧ t.blocks.head.inhibit = head.inhibit ∧ t.blocks.positioner.lock = none
          ∧ t.blocks.shaft = (s.blocks.counted .retract true).shaft ∧ t.blocks.board = s.blocks.board
          ∧ t.blocks.chain = s.blocks.chain ∧ t.blocks.alarm = s.blocks.alarm ∧ t.blocks.source = s.blocks.source
          ∧ t.link = s.link))))

/-- R113, R131: HEAD UP rising in RETRACT is seen by the insertion record, and the first time it is seen, or while HEAD UP
is awaited, it frees the table's lock; HEAD UP is awaited no longer. The board, the chain, the shaft and the alarms stay.
R112, R114, R115, R121: a lock that is freed has the candidate chosen afresh and applied. The candidate is the step of the
lowest offset whose OCCUPIED slot has disposition INSERT and whose step is FIRED or VERIFIED. A table target that differs from
the current one, in counts or theta, becomes the current target under the next number, from 255 to 0, with both runs 0 and its
command sent; the same target gets the candidate as the step served and keeps number and runs. A span that differs is the new
span target, is sent, and clears span ready; the same span leaves both. The clinch profile is handed over: the outputs drive the
entry's values and profile ready is clear, or stay as they are when they present those already, or are released with profile
ready clear when the entry is unloaded. With no candidate the target, the runs, the span and the outputs are left as they are
and nothing is sent; that an output is then not compared is the model's choice (log entry 43). -/
def Obligations.HeadUpFreesTheLock : Prop :=
  ∀ s : State,
    let inRetract := s.blocks.shaft.isOpen .retract
    let first := inRetract && (match s.blocks.head.record with | some r => !r.up | none => false)
    let freed := first || s.blocks.head.upAwaited
    let p := s.blocks.positioner
    let h := s.blocks.head
    ∃ t, exec .headUpAsserted s = .next t ∧ t.blocks.head.upAwaited = false
      ∧ t.blocks.positioner.lock = (if freed then none else p.lock)
      ∧ t.blocks.head.record = (if inRetract then h.record.map (fun r => { r with up := true }) else h.record)
      ∧ t.blocks.head.inhibit = h.inhibit ∧ t.blocks.board = s.blocks.board
      ∧ t.blocks.chain = s.blocks.chain ∧ t.blocks.shaft = s.blocks.shaft ∧ t.blocks.alarm = s.blocks.alarm
      ∧ t.blocks.source = s.blocks.source ∧ t.link = s.link
      ∧ (freed = true → p.lock ≠ none →
        let u := t.blocks.positioner
        let v := t.blocks.head
        u.slipReported = false
        ∧ ((∀ j, j < s.blocks.chain.length → ∀ o c, ¬ s.blocks.qualifies j o c) →
          u.candidate = none ∧ u.target = p.target ∧ u.targetNumber = p.targetNumber ∧ u.coarseRun = p.coarseRun
            ∧ u.fineRun = p.fineRun ∧ u.spanTarget = p.spanTarget ∧ u.spanReady = p.spanReady
            ∧ v.output = h.output ∧ v.ready = h.ready ∧ v.handed = h.handed ∧ t.blocks.sent = s.blocks.sent)
        ∧ (∀ j o c, j < s.blocks.chain.length → s.blocks.qualifies j o c →
          (∀ i, i < j → ∀ o' c', ¬ s.blocks.qualifies i o' c') →
          ∀ k x y, s.blocks.source.kind? c.kind = some k → c.target = some (x, y) →
          let held := match p.target with
            | some g => decide (g.x = x) && decide (g.y = y) && decide (g.q = c.theta)
            | none => false
          let number := (p.targetNumber + 1) % 256
          u.candidate = some c.number ∧ u.target = some ⟨x, y, c.theta, c.number⟩
          ∧ (held = true → u.targetNumber = p.targetNumber ∧ u.coarseRun = p.coarseRun ∧ u.fineRun = p.fineRun)
          ∧ (held = false → u.targetNumber = number ∧ u.coarseRun = 0 ∧ u.fineRun = 0)
          ∧ u.spanTarget = some k.span
          ∧ u.spanReady = (if p.spanTarget = some k.span then p.spanReady else false)
          ∧ t.blocks.sent = (if p.spanTarget = some k.span then [] else [.spanValue k.span])
              ++ (if held then [] else [.targetCommand number x y c.theta]) ++ s.blocks.sent
          ∧ v.handed = some k.profile
          ∧ (∀ w, look h.profiles k.profile = some w → v.output = some ⟨k.profile, w⟩
              ∧ v.ready = (if h.output = some ⟨k.profile, w⟩ then h.ready else false))
          ∧ (look h.profiles k.profile = none → v.output = none ∧ v.ready = false)))

/-- R126, R127, R128: a VERIFIED step that is offered at TRANSFER open, passes the tier check and is not ready, the demand being
below STOP-AT-PARK, waits: its dwell count is one higher, no higher than 64. Below the dwell limit nothing else of it
changes. At or above it, whenever the limit was loaded, the timeout of the first condition that fails occurs, settle (14),
span (15), profile (16), with its number, source and kind as context, and its dwell count is 0 again.
The row DWELL_TIMEOUT is a wait that reaches the limit, by itself: it does the same in an open TRANSFER whose offer has not been
made, and changes nothing once it has been, for a step that stays below the limit, and under a demand of STOP-AT-PARK or
STOP-NOW. That the sample carries the wait, so that the row has nothing left to do after it, is the model's (log entry 33). -/
def Obligations.DwellTimesOut : Prop :=
  ∀ (s : State) (n : Nat) (o : Component) (c : StepContext) (k : Kind), s.blocks.shaft.machine = .cycling →
    s.blocks.chain.slotAt 0 = .occupied o → o.disposition = .insert → o.step = some n →
    s.blocks.board.context? n = some c → c.state = .verified → s.blocks.source.kind? c.kind = some k →
    (∀ e ∈ s.blocks.board.window, e.state ≠ .resolved → c.tier ≤ e.tier) →
    let settled := s.blocks.positioner.settledFor c
    let spanned := s.blocks.positioner.spanHolds k.span
    let clinched := s.blocks.head.profileHolds k.profile
    let code := if settled = false then 14 else if spanned = false then 15 else 16
    let was := look s.blocks.alarm.codes code
    let count := min (c.dwell + 1) 64
    let timesOut := fun (i : Instr) => ∃ t, exec i s = .next t
      ∧ (∃ d, t.blocks.board.context? n = some d ∧ d.dwell = 0)
      ∧ look t.blocks.alarm.codes code = was.struck ⟨some n, c.source, some c.kind⟩
      ∧ t.link = s.link
    (∀ station : Station, s.blocks.meets .transfer true → (settled && spanned && clinched) = false →
      s.blocks.alarm.demand < 3 →
      (s.blocks.head.dwellLimit ≤ count → timesOut (.encoderSample true false station))
      ∧ (count < s.blocks.head.dwellLimit → ∃ t, exec (.encoderSample true false station) s = .next t
          ∧ t.blocks.board.context? n = some { c with dwell := count } ∧ t.blocks.chain = s.blocks.chain
          ∧ t.blocks.alarm = s.blocks.alarm ∧ t.blocks.positioner = s.blocks.positioner ∧ t.blocks.head = s.blocks.head
          ∧ t.blocks.shaft = { (s.blocks.counted .transfer true).shaft with offerTaken := true } ∧ t.link = s.link))
    ∧ (s.blocks.shaft.live = true → s.blocks.shaft.isOpen .transfer = true → s.blocks.shaft.offerTaken = false →
        (settled && spanned && clinched) = false → s.blocks.head.dwellLimit ≤ count → s.blocks.alarm.demand < 3 →
        timesOut .dwellTimeout)
    ∧ (count < s.blocks.head.dwellLimit → exec .dwellTimeout s = .next s)
    ∧ (s.blocks.shaft.offerTaken = true → exec .dwellTimeout s = .next s)
    ∧ (3 ≤ s.blocks.alarm.demand → exec .dwellTimeout s = .next s)

/-! ## Table drive, span drive, clinch -/

/-- R108, R109, R116: a sample that fails the line check changes nothing; while no target is held a sample restarts the silence
time alone; while one is held, and the lock is FREE, it moves the two runs, restarts the silence time and clears silence
reported, and changes nothing else but the count of milliseconds without the current number (R107). While the lock is
LOCKED and slip reported clear, a sample that does not count, or lies outside the fine window, and so takes the settle state
from FINE, is a TABLE SLIP: code 13 occurs with the locked step and its kind, slip reported is set, and an unresolved context
of the step has its SLIP flag. The kind is the one kept with the lock (log entry 32). The lock names its step by number alone,
so the clause gives the flag to a new board's step of that number too, under a lock that has outlived its board: that is the
model's choice, which R116 leaves open (log entry 52). -/
def Obligations.PositionSampleMovesRuns : Prop :=
  ∀ (number : Nat) (x y : Int) (stage : Stage) (s : State),
    let p := s.blocks.positioner
    exec (.positionSample false number x y stage) s = .next s
    ∧ (p.target = none → exec (.positionSample true number x y stage) s =
        .next { s with blocks := { s.blocks with positioner := { p with silence := 0 } } })
    ∧ (∀ (t : Target) (n : Nat), p.target = some t → p.lock = some n → p.settle = .fine → p.slipReported = false →
        ¬ (number = p.targetNumber ∧ stage = .quarter t.q ∧ (x - t.x).natAbs ≤ p.config.fine
          ∧ (y - t.y).natAbs ≤ p.config.fine) →
        ∃ u, exec (.positionSample true number x y stage) s = .next u ∧ u.blocks.positioner.slipReported = true
          ∧ u.blocks.positioner.lock = some n ∧ u.blocks.positioner.fineRun = 0
          ∧ look u.blocks.alarm.codes 13 = (look s.blocks.alarm.codes 13).struck ⟨some n, none, p.lockKind⟩
          ∧ (∀ c, s.blocks.board.context? n = some c → c.state ≠ .resolved →
              ∃ d, u.blocks.board.context? n = some d ∧ d.slip = true)
          ∧ u.link = s.link)
    ∧ ∀ t : Target, p.target = some t → p.lock = none →
        let counts : Prop := number = p.targetNumber ∧ stage = .quarter t.q
        let within : Nat → Prop := fun w => (x - t.x).natAbs ≤ w ∧ (y - t.y).natAbs ≤ w
        ∃ u, exec (.positionSample true number x y stage) s =
            .next { s with blocks := { s.blocks with positioner := u } }
          ∧ u = { p with
              coarseRun := u.coarseRun, fineRun := u.fineRun, silence := 0, silenceReported := false
              unmatched := if number = p.targetNumber then 0 else p.unmatched }
          ∧ (counts ∧ within p.config.coarse → u.coarseRun = min (p.coarseRun + 1) 8)
          ∧ (counts ∧ within p.config.coarse ∧ within p.config.fine → u.fineRun = min (p.fineRun + 1) 16)
          ∧ (¬ (counts ∧ within p.config.coarse) → u.coarseRun = 0 ∧ u.fineRun = 0)
          ∧ (¬ (counts ∧ within p.config.fine) → u.fineRun = 0)

/-- R110: when the silence time reaches 10 ms with a target held and the lock FREE, it stands at 10 and both runs are 0;
TABLE DRIVE SILENT, code 12, occurs with the served step unless silence reported is set already, and then nothing else
changes. With no target held nothing changes. That the row asserts its deadline is the model's (log entry 3). -/
def Obligations.SilenceIsReportedOnce : Prop :=
  ∀ s : State,
    let p := s.blocks.positioner
    (p.target = none → exec .tableDriveSilent s = .next s)
    ∧ ∀ t : Target, p.target = some t → p.lock = none →
        (p.silenceReported = true → exec .tableDriveSilent s =
          .next { s with blocks := { s.blocks with positioner := { p with
            silence := 10, coarseRun := 0, fineRun := 0 } } })
        ∧ (p.silenceReported = false → ∃ u, exec .tableDriveSilent s = .next u ∧ u.blocks.positioner.silence = 10
            ∧ u.blocks.positioner.coarseRun = 0 ∧ u.blocks.positioner.fineRun = 0
            ∧ u.blocks.positioner.silenceReported = true
            ∧ look u.blocks.alarm.codes 12 = (look s.blocks.alarm.codes 12).struck ⟨some t.served, none, none⟩)

/-- R53, R107, R173: the resend sends the current target command unchanged, and none while no target is held; the poll sends a
frame whose number is raised by one, from 15 to 0, unless a FIRE window is open; a 1 ms tick raises the halted milliseconds by
one, no higher than 2^32 − 1, while the machine is HALTED. Nothing else changes. That these rows assert their deadline and do
not test it is the model's (log entry 3). -/
def Obligations.TimebaseRowsAct : Prop :=
  (∀ s : State,
    exec .targetCommandResend s = .next (match s.blocks.positioner.target with
      | some t => { s with blocks := { s.blocks with
          sent := .targetCommand s.blocks.positioner.targetNumber t.x t.y t.q :: s.blocks.sent } }
      | none => s)
    ∧ exec .pollFrame s = .next (
        if s.blocks.shaft.isOpen .fire then s
        else { s with blocks := { s.blocks with
          source := { s.blocks.source with frame := (s.blocks.source.frame + 1) % 16 }
          sent := .pollFrame ((s.blocks.source.frame + 1) % 16) :: s.blocks.sent } }))
  ∧ (∀ s : State, exec .haltedMillisecond s = .next (
    if s.blocks.shaft.machine = .halted then
      { s with blocks := { s.blocks with counters := { s.blocks.counters with residency :=
        { s.blocks.counters.residency with halted := min (s.blocks.counters.residency.halted + 1) 4294967295 } } } }
    else s))

/-- R115, R122, R166: SPAN AT TARGET rising sets span ready when a span value has been sent since the line last went asserted
(or span ready stands already), and leaves it clear at the moment of a send, for which the line must rise again; its fall
clears span ready. PROFILE ACK does the same for profile ready and the drive of a profile, and its rise never sets profile
ready while the outputs are released. Nothing else changes. That a flag which stands stays set at a further rise, and what
counts as sent or driven since, is the model's reading (log entry 21), and so is that the outputs count as released while
EMERGENCY STOP is ACTIVE (log entry 26). -/
def Obligations.ReadyFollowsTheLines : Prop :=
  (∀ s : State,
    let p := s.blocks.positioner
    let with_ := fun (ready sent : Bool) => Host.Outcome.next { s with blocks := { s.blocks with
      positioner := { p with spanReady := ready, spanSent := sent } } }
    exec (.spanAtTargetRise false) s = with_ (p.spanReady || p.spanSent) false
      ∧ exec (.spanAtTargetRise true) s = with_ false p.spanSent
      ∧ exec .spanAtTargetFall s = with_ false p.spanSent)
  ∧ (∀ s : State,
    let h := s.blocks.head
    let with_ := fun (ready driven : Bool) => Host.Outcome.next { s with blocks := { s.blocks with
      head := { h with ready := ready, driven := driven } } }
    let released := h.output.isNone || decide ((look s.blocks.alarm.codes 0).state = .active)
    exec (.profileAckRise false) s = with_ (!released && (h.ready || h.driven)) false
      ∧ exec (.profileAckRise true) s = with_ false h.driven
      ∧ exec .profileAckFall s = with_ false h.driven)

/-! ## Bank bus -/

/-- R48, R55: a fire reply that does not show the fired position home jams the dispenser and raises DISPENSER JAM, code 10,
with the dispenser, the step and its kind; one that shows it home, or of a bank with no fire, is recorded and changes nothing
else. A reply to another frame, and a bank's second reply, of which the spec leaves that open (log entry 38), change nothing.
R42, R53, R89: at FIRE open of an advance every RESERVED slot that stands at its source's station is fired. With none, a frame
goes out that names no position. With one, its slot is OCCUPIED, UNMEASURED, with disposition INSERT, its step FIRED, the frame
names its position, the reel count is one lower and the FIRE event is counted; when no limit of the reel is reached and no
other step is PLANNED nothing else changes. Each dispenser that is fired has its count one lower, is EMPTY at 0, with REEL OUT,
code 24, and LOW at its threshold, with REEL LOW, code 26, each occurring once (R45).
R56: at FIRE close the frame is no longer outstanding. When every bank with an installed dispenser has replied nothing else
changes; of each that has not BANK SILENT, code 11, occurs once, and its fired dispenser, and no other, is jammed. The context is
left by the silent bank of the highest number, judged last by the model's order (log entry 40): its fired dispenser, or its
lowest installed one. -/
def Obligations.NotHomeIsAJam : Prop :=
  (∀ (bank frame : Nat) (home : BitVec 8) (s : State) (f : FireFrame) (e : Fire),
    s.blocks.source.outstanding = some f → f.number = frame → bank ∉ f.replied → e ∈ f.fires →
    e.dispenser / 8 = bank → (∀ g ∈ f.fires, g.dispenser / 8 = bank → g = e) → e.dispenser < 96 →
    home.getLsbD (e.dispenser % 8) = false →
    ∃ t, exec (.bankReply bank frame home 0 0) s = .next t
      ∧ (look t.blocks.source.dispensers e.dispenser).jammed = true
      ∧ look t.blocks.alarm.codes 10 =
          (look s.blocks.alarm.codes 10).struck ⟨some e.step, some e.dispenser, some e.kind⟩
      ∧ t.link = s.link)
  ∧ (∀ (bank frame : Nat) (home : BitVec 8) (s : State) (f : FireFrame), s.blocks.source.outstanding = some f →
    (f.number = frame → bank ∉ f.replied →
      (∀ e ∈ f.fires, e.dispenser / 8 = bank → home.getLsbD (e.dispenser % 8) = true) →
      exec (.bankReply bank frame home 0 0) s = .next { s with blocks := { s.blocks with source := { s.blocks.source with
        outstanding := some { f with replied := bank :: f.replied } } } })
    ∧ (f.number ≠ frame ∨ bank ∈ f.replied → exec (.bankReply bank frame home 0 0) s = .next s))
  ∧ (∀ (station : Station) (s : State), s.blocks.shaft.advance = true →
    let sample := Instr.encoderSample true false station
    (s.blocks.meets .fire true →
      let chain := s.blocks.chain
      let stands := fun (j n d : Nat) => j < chain.length ∧ chain.slotAt j = .reserved n d
        ∧ (look s.blocks.source.dispensers d).offset = j
      let number := (s.blocks.source.frame + 1) % 16
      -- once, where only one dispenser is fired, and otherwise once at least
      let reported := fun (t : State) (code d : Nat) (one : Prop) =>
        let e := look s.blocks.alarm.codes code
        let now := look t.blocks.alarm.codes code
        (one → now = e.struck ⟨none, some d, none⟩) ∧ now.state = (if e.state = .idle then .latched else e.state)
          ∧ (if e.state = .idle then 1 else min (e.count + 1) 255) ≤ now.count
      ((∀ j n d, ¬ stands j n d) → ∃ t, exec sample s = .next t
        ∧ t.blocks.shaft = (s.blocks.counted .fire true).shaft ∧ t.blocks.chain = chain ∧ t.blocks.board = s.blocks.board
        ∧ t.blocks.source = { s.blocks.source with frame := number, outstanding := some ⟨number, [], []⟩ }
        ∧ .fireFrame number (List.replicate 12 none) ∈ t.blocks.sent ∧ t.blocks.alarm = s.blocks.alarm ∧ t.link = s.link)
      ∧ (∀ j n d c, stands j n d → d < 96 → s.blocks.board.context? n = some c →
        let was := look s.blocks.source.dispensers d
        ((∀ i m e, stands i m e → i = j) → (∀ e ∈ s.blocks.board.window, e.state = .planned → e.number = n) →
          s.blocks.counters.quiet → 2 ≤ was.count →
          ¬ (was.threshold ≠ 0 ∧ was.count = was.threshold + 1 ∧ was.reel = .loaded) → ∃ t, exec sample s = .next t
          ∧ t.blocks.shaft = (s.blocks.counted .fire true).shaft
          ∧ t.blocks.chain = { chain with
              slots := chain.slots.set (chain.pitchAt j)
                (.occupied ⟨some n, some d, some c.kind, .unmeasured, .insert, none, false⟩) }
          ∧ t.blocks.board = { s.blocks.board with window := s.blocks.board.window.map fun e =>
              if e.number = n then { e with state := .fired } else e }
          ∧ look t.blocks.source.dispensers d = { was with count := was.count - 1 }
          ∧ (∀ e, e ≠ d → look t.blocks.source.dispensers e = look s.blocks.source.dispensers e)
          ∧ t.blocks.source.outstanding = some ⟨number, [⟨d, n, c.kind⟩], []⟩ ∧ t.blocks.source.frame = number
          ∧ .fireFrame number ((List.range 12).map fun bank => if bank = d / 8 then some (d % 8) else none)
              ∈ t.blocks.sent
          ∧ (∀ k, s.blocks.source.kind? c.kind = some k → k.statistics < 64 →
              (look t.blocks.counters.statistics k.statistics).fired =
                min ((look s.blocks.counters.statistics k.statistics).fired + 1) 4294967295)
          ∧ t.blocks.alarm = s.blocks.alarm ∧ t.link = s.link)
        ∧ ∃ t, exec sample s = .next t ∧ (look t.blocks.source.dispensers d).count = was.count - 1
          ∧ (was.count ≤ 1 → (look t.blocks.source.dispensers d).reel = .empty
              ∧ (was.outReported = false → reported t 24 d (∀ i m e, stands i m e → i = j)))
          ∧ (2 ≤ was.count → was.threshold ≠ 0 → was.count = was.threshold + 1 → was.reel = .loaded →
              (look t.blocks.source.dispensers d).reel = .low
              ∧ (was.lowReported = false → reported t 26 d (∀ i m e, stands i m e → i = j)))))
    ∧ (s.blocks.meets .fire false →
      let counted := s.blocks.counted .fire false
      let silent := fun (f : FireFrame) (bank : Nat) => (List.range 96).any fun d =>
        (look s.blocks.source.dispensers d).installed && decide (d / 8 = bank) && !f.replied.contains bank
      (s.blocks.source.outstanding = none → exec sample s = .next { s with blocks := counted })
      ∧ (∀ f, s.blocks.source.outstanding = some f →
        ((∀ bank, silent f bank = false) → exec sample s =
          .next { s with blocks := { counted with source := { counted.source with outstanding := none } } })
        ∧ (∀ bank, silent f bank = true → (∀ b, bank < b → silent f b = false) →
          let n := ((List.range 12).filter (silent f)).length
          let was := look s.blocks.alarm.codes 11
          ∃ t context, exec sample s = .next t ∧ t.blocks.source.outstanding = none ∧ t.link = s.link
          ∧ look t.blocks.alarm.codes 11 = (if was.state = .idle then
              { was with state := .latched, count := n, context := context, noticePending := true }
            else { was with count := min (was.count + n) 255, context := context })
          ∧ (∀ e ∈ f.fires, e.dispenser / 8 = bank → (∀ g ∈ f.fires, g.dispenser / 8 = bank → g = e) →
              context = ⟨none, some e.dispenser, none⟩)
          ∧ (∀ d, d / 8 = bank → (∀ e ∈ f.fires, e.dispenser / 8 ≠ bank) →
              (look s.blocks.source.dispensers d).installed = true →
              (∀ e, e < d → e / 8 = bank → (look s.blocks.source.dispensers e).installed = false) →
              context = ⟨none, some d, none⟩)
          ∧ (∀ d, d < 96 → (∀ e ∈ f.fires, ∀ g ∈ f.fires, e.dispenser / 8 = g.dispenser / 8 → e = g) →
              (look t.blocks.source.dispensers d).jammed = ((look s.blocks.source.dispensers d).jammed
                || (silent f (d / 8) && f.fires.any fun e => decide (e.dispenser = d))))))))

/-- R41, R44, R45, R57: a LOADED press at an installed dispenser, with no step planned, puts the reel back to full and the
dispenser on proof, and detaches it from the OCCUPIED slots that name it unmeasured; every other dispenser and slot, the board,
the shaft and the alarms stay, and no component of the old reel proves the new one (the mark so ended is the model's, log entry
31). A reel whose threshold is its capacity, and not 0, is LOW at once, and REEL LOW, code 26, occurs with the dispenser, stated
where its class asks nothing of the shaft at once. A press at a dispenser that is not installed changes nothing.
R43, R45: an EMPTY SENSE report at an installed dispenser makes its reel EMPTY, and REEL OUT, code 24, occurs with the dispenser
unless it is reported already; at one that is not installed it changes nothing.
R44, R51, R69, R70: where a PLANNED step has its slot RESERVED from the dispenser, both replan from the lowest such step, and
while planning is blocked every PLANNED step from it on is QUEUED without slot and source, its slot EMPTY and its source's
proving-in-flight flag clear, and every step below it stays; stated for a reel that is not LOW at once and for REEL OUT of class
NOTE. -/
def Obligations.LoadedPressRefills : Prop :=
  ∀ (bank frame p : Nat) (home : BitVec 8) (s : State), bank < 12 → p < 8 → s.blocks.source.outstanding = none →
    let press := Instr.bankReply bank frame home (1#8 <<< p) 0
    let report := Instr.bankReply bank frame home 0 (1#8 <<< p)
    let d := bank * 8 + p
    let reel := fun (e : Nat) => look s.blocks.source.dispensers e
    let was := reel d
    let full := decide (was.threshold = was.capacity) && decide (was.threshold ≠ 0)
    let entry := fun (t : State) (code : Nat) => look t.blocks.alarm.codes code
    let stays := fun (t : State) => t.blocks.board = s.blocks.board ∧ t.blocks.shaft = s.blocks.shaft ∧ t.link = s.link
      ∧ ∀ e, e ≠ d → look t.blocks.source.dispensers e = reel e
    let refilled := { was with
      count := was.capacity, reel := if full then .low else .loaded, condition := .proving, jammed := false, missing := 0
      badPart := 0, proving := false, lowReported := full, outReported := false }
    -- a replan from step `c`
    let names := fun (pitch : Nat) (c : StepContext) => (s.blocks.chain.slotOf pitch).step? = some c.number
      ∧ ∀ q, q < s.blocks.chain.slots.length → (s.blocks.chain.slotOf q).step? = some c.number → q = pitch
    let replanned := fun (t : State) (c : StepContext) => ∀ e ∈ s.blocks.board.window,
      (e.state ≠ .planned ∨ e.number < c.number → t.blocks.board.context? e.number = some e)
      ∧ (∀ pitch n f, s.blocks.chain.slotOf pitch = .reserved n f → names pitch e → e.state = .planned →
        c.number ≤ e.number → t.blocks.chain.slotOf pitch = .empty
          ∧ t.blocks.board.context? e.number = some { e with state := .queued, slot := none, source := none, dwell := 0 }
          ∧ (look t.blocks.source.dispensers f).proving = false)
    let holds := fun (c : StepContext) => c ∈ s.blocks.board.window ∧ c.state = .planned
      ∧ ∃ pitch, pitch < s.blocks.chain.slots.length ∧ s.blocks.chain.slotOf pitch = .reserved c.number d ∧ names pitch c
    let lowest := fun (c : StepContext) => holds c ∧ s.blocks.board.sound ∧ s.blocks.plansNothing
      ∧ ∀ e ∈ s.blocks.board.window, e.number < c.number → e.state = .planned →
        ∀ pitch f, s.blocks.chain.slotOf pitch = .reserved e.number f → f ≠ d
    (was.installed = false → exec press s = .next s ∧ exec report s = .next s)
    ∧ (was.installed = true → s.blocks.board.nothingToPlan → s.blocks.counters.quiet →
      -- the press
      ((full = true → s.blocks.unmovedBy 26) → ∃ t, exec press s = .next t ∧ stays t
        ∧ look t.blocks.source.dispensers d = refilled
        ∧ t.blocks.chain = { s.blocks.chain with
            slots := s.blocks.chain.slots.map (fun slot => match slot with
              | .occupied o =>
                if o.source = some d ∧ o.verify = .unmeasured then .occupied { o with source := none }
                else if o.source = some d then .occupied { o with unjudged := false }
                else .occupied o
              | .reserved n e => .reserved n e
              | .empty => .empty) }
        ∧ (full = false → t.blocks.alarm = s.blocks.alarm)
        ∧ (full = true → entry t 26 = (entry s 26).struck ⟨none, some d, none⟩
          ∧ t.blocks.alarm.elsewhere s.blocks.alarm [26]))
      -- the report
      ∧ ((was.outReported = false → s.blocks.unmovedBy 24) → ∃ t, exec report s = .next t ∧ stays t
        ∧ look t.blocks.source.dispensers d = { was with reel := .empty, outReported := true }
        ∧ t.blocks.chain = s.blocks.chain
        ∧ (was.outReported = true → t.blocks.alarm = s.blocks.alarm)
        ∧ (was.outReported = false → entry t 24 = (entry s 24).struck ⟨none, some d, none⟩
          ∧ t.blocks.alarm.elsewhere s.blocks.alarm [24])))
    -- with a step to replan
    ∧ (∀ c, was.installed = true → s.blocks.counters.quiet → lowest c →
      (full = false → ∃ t, exec press s = .next t ∧ look t.blocks.source.dispensers d = refilled ∧ replanned t c
        ∧ t.blocks.shaft = s.blocks.shaft ∧ t.blocks.alarm = s.blocks.alarm ∧ t.link = s.link)
      ∧ ((entry s 24).cls = .note → ∃ t, exec report s = .next t
        ∧ (look t.blocks.source.dispensers d).reel = .empty ∧ (look t.blocks.source.dispensers d).outReported = true
        ∧ replanned t c ∧ t.blocks.shaft = s.blocks.shaft ∧ t.blocks.alarm.elsewhere s.blocks.alarm [24]
        ∧ t.link = s.link))

/-! ## Alarms, lines and the emergency stop -/

/-- R139, R146: a LEVEL line going asserted makes its code ACTIVE with acknowledge pending clear, its count 1 and its context
absent from IDLE, or its count raised from LATCHED, and joins the code to the notice list unless it waits there. A line going
negated makes an ACTIVE code LATCHED, or IDLE when it was acknowledged, with its count and context as they were. A line
already at the level changes nothing (log entry 4). -/
def Obligations.LevelLinesFollow : Prop :=
  ∀ (line : LevelLine) (s : State),
    let code := match line with | .guardOpen => 20 | .airLow => 21 | .binFull => 22
    let now := match line with
      | .guardOpen => s.levels.guardOpen | .airLow => s.levels.airLow | .binFull => s.levels.binFull
    let set_ := fun (l : LevelLines) (v : Bool) => match line with
      | .guardOpen => { l with guardOpen := v } | .airLow => { l with airLow := v } | .binFull => { l with binFull := v }
    let was := look s.blocks.alarm.codes code
    (now = true → exec (.levelInputAsserted line) s = .next s)
    ∧ (now = false → exec (.levelInputNegated line) s = .next s)
    ∧ (now = false → was.state ≠ .active → ∃ t, exec (.levelInputAsserted line) s = .next t
        ∧ t.levels = set_ s.levels true ∧ t.link = s.link
        ∧ look t.blocks.alarm.codes code = { was with
            state := .active, ackPending := false, noticePending := true
            count := if was.state = .idle then 1 else min (was.count + 1) 255
            context := if was.state = .idle then ⟨none, none, none⟩ else was.context }
        ∧ (was.noticePending = false → code ∈ t.blocks.alarm.notices))
    ∧ (now = true → was.state = .active → ∃ t, exec (.levelInputNegated line) s = .next t
        ∧ t.levels = set_ s.levels false ∧ t.link = s.link
        ∧ look t.blocks.alarm.codes code = { was with
            state := if was.ackPending then .idle else .latched, ackPending := false, noticePending := true })

/-- R166, R16, R152: the E-STOP line going asserted, code 0 not ACTIVE before, makes code 0 ACTIVE and holds every actuator
output released: SHAFT RUN negated and SHAFT BRAKE asserted, HEAD INHIBIT asserted, GATE FIRE negated, MEASURE DRIVE
released, the PROFILE lines negated and profile ready clear; a turning machine, the demand below STOP-NOW before, is HALTED
with the drive HELD and no revolution live; a STOPPED machine stays STOPPED.
The line going negated makes code 0 LATCHED, or IDLE when it was acknowledged; a HALTED machine stays as it is, and a profile
output drives the PROFILE lines again. A line already at the level changes nothing (log entry 4). -/
def Obligations.EmergencyStopActs : Prop :=
  (∀ s : State, s.levels.eStop = false → (look s.blocks.alarm.codes 0).state ≠ .active →
    (look s.blocks.alarm.codes 0).cls = .stopNow → s.blocks.alarm.demand < 4 → s.blocks.shaft.sound →
    ∃ t, exec .eStopAsserted s = .next t ∧ t.levels = { s.levels with eStop := true } ∧ t.link = s.link
      ∧ (look t.blocks.alarm.codes 0).state = .active ∧ t.blocks.shaftRunLine = false ∧ t.blocks.shaftBrakeLine = true
      ∧ t.blocks.headInhibitLine = true ∧ t.blocks.gateFireLine = false ∧ t.blocks.measureDriveLine = none
      ∧ t.blocks.profileLines = 0 ∧ t.blocks.head.ready = false ∧ t.blocks.shaft.drive = .held
      ∧ t.blocks.shaft.live = false
      ∧ t.blocks.shaft.machine = (if s.blocks.shaft.machine = .stopped then .stopped else .halted))
  ∧ (∀ s : State,
    (s.levels.eStop = true → exec .eStopAsserted s = .next s)
    ∧ (s.levels.eStop = false → exec .eStopNegated s = .next s)
    ∧ (s.levels.eStop = true → s.blocks.shaft.machine = .halted → (look s.blocks.alarm.codes 0).state = .active →
      ∃ t, exec .eStopNegated s = .next t ∧ t.levels = { s.levels with eStop := false } ∧ t.link = s.link
        ∧ (look t.blocks.alarm.codes 0).state =
            (if (look s.blocks.alarm.codes 0).ackPending then .idle else .latched)
        ∧ t.blocks.shaft = s.blocks.shaft
        ∧ t.blocks.head = { s.blocks.head with driven := s.blocks.head.driven || s.blocks.head.output.isSome }))

/-- R140, R141: an acknowledgement of a LATCHED code makes it IDLE with its count and context kept and a notice pending; of
an ACTIVE code it sets acknowledge pending and changes nothing else; by record for the code named or presented, by the ACK
key for the presented code. A record that names an IDLE code is refused NOT LATCHED with the code, PRESENTED with no code
standing refused NOT LATCHED with none, and a code from 32 to 254 refused RANGE; the key is ignored when no code stands.
Stated with nothing to plan, so that a hold that lifts plans nothing. -/
def Obligations.AcknowledgementsAct : Prop :=
  ∀ s : State, s.blocks.board.nothingToPlan →
    let entry := fun (t : State) (code : Nat) => look t.blocks.alarm.codes code
    let acked := fun (t : State) (code : Nat) =>
      ((entry s code).state = .latched →
        entry t code = { entry s code with state := .idle, noticePending := true }
          ∧ (∀ c, c ≠ code → entry t c = entry s c) ∧ t.blocks.shaft = s.blocks.shaft ∧ t.blocks.chain = s.blocks.chain
          ∧ t.blocks.board = s.blocks.board ∧ t.blocks.head = s.blocks.head)
      ∧ ((entry s code).state = .active → t.blocks = { s.blocks with alarm := { s.blocks.alarm with
          codes := put s.blocks.alarm.codes code { entry s code with ackPending := true } } })
    (∀ (n : Nat) (rest : List Record), n < 256 → s.offers ⟨0x13#8, [byteOf n]⟩ rest →
      let named := if n = 255 then s.blocks.alarm.presented else some n
      let refused := fun (reason : RefusalReason) (detail : Detail) =>
        exec .acknowledgeAlarm s = .next (s.answered rest (refusal 0x13#8 reason detail))
      (∀ code, code < 32 → named = some code → (entry s code).state ≠ .idle →
        ∃ t, exec .acknowledgeAlarm s = .next t ∧ acked t code ∧ t.link = { s.link with input := rest })
      ∧ (∀ code, code < 32 → named = some code → (entry s code).state = .idle → refused .notLatched (.number code))
      ∧ (named = none → refused .notLatched .none) ∧ (32 ≤ n → n < 255 → refused .range .none))
    -- the key, whatever the link holds
    ∧ (s.blocks.alarm.presented = none → exec .panelAck s = .next s)
    ∧ (∀ code, s.blocks.alarm.presented = some code → ∃ t, exec .panelAck s = .next t ∧ acked t code ∧ t.link = s.link)

/-! ## Link port -/

/-- R176 to R178: the frame of a record of at most 60 payload bytes, of any type but RETURN CREDIT, received byte by byte by
a receiver in HUNT while the input buffer has a free place, puts exactly that record at the tail of the buffer and leaves
the receiver in HUNT; nothing else changes. -/
def Obligations.FrameBecomesRecord : Prop :=
  ∀ (r : Record) (s : State), r.payload.length ≤ 60 → r.type ≠ 0x1F#8 → s.link.receiver.phase = .hunt →
    s.link.input.length < 8 →
    receiveAll r.frame s = .next { s with link := { s.link with
      input := s.link.input ++ [r]
      receiver := ⟨.hunt, r.type, r.payload.length, [], none, false, 0⟩ } }

/-- R176 to R179: in HUNT a byte other than A5h, or without its stop bit, changes nothing, and the byte A5h begins a record,
noting whether the buffer holds 8 records. A record under way is discarded at a byte without its stop bit, at the gap of three
ticks, and at a length byte above 60, each a framing error; at the second CRC byte, when the CRC over type, length and payload
does not agree, a CRC error; and at its completion, when the buffer held 8 records at its sync byte, an overrun, or, for a
RETURN CREDIT whose length is not 1, a framing error. The receiver is then in HUNT, that error counter alone is one higher, no
higher than 65535, FEED ERROR, code 27, occurs with no context, and the buffer, the queue and the credit stay. A gap in HUNT
changes nothing. That the gap row asserts its deadline is the model's (log entry 3). -/
def Obligations.BytesAndGaps : Prop :=
  ∀ (x : Byte) (s : State),
    let r := s.link.receiver
    let bumped := fun (n : Nat) => min (n + 1) 65535
    let discarded := fun (link : LinkPort) (o : Host.Outcome State Fault Refusal) => ∃ t, o = .next t
      ∧ t.link = { link with receiver := ⟨.hunt, r.type, r.length, [], none, r.full, 0⟩ }
      ∧ look t.blocks.alarm.codes 27 = (look s.blocks.alarm.codes 27).struck ⟨none, none, none⟩
    let framing := { s.link with framingErrors := bumped s.link.framingErrors }
    (r.phase = .hunt →
      exec (.linkByteReceived x false) s = .next s
      ∧ (x ≠ 0xA5#8 → exec (.linkByteReceived x true) s = .next s)
      ∧ (x = 0xA5#8 → exec (.linkByteReceived x true) s = .next { s with link := { s.link with
          receiver := ⟨.type, r.type, r.length, [], none, decide (8 ≤ s.link.input.length), 0⟩ } })
      ∧ exec .linkGapTimeout s = .next s)
    ∧ (r.phase ≠ .hunt → discarded framing (exec .linkGapTimeout s)
      ∧ exec (.linkByteReceived x false) s = exec .linkGapTimeout s)
    ∧ (r.phase = .length → 60 < x.toNat → discarded framing (exec (.linkByteReceived x true) s))
    ∧ (∀ high, r.phase = .check → r.crcHigh = some high →
      let agrees := high ++ x = crcOf (r.type :: byteOf r.payload.length :: r.payload)
      (¬ agrees → discarded { s.link with crcErrors := bumped s.link.crcErrors } (exec (.linkByteReceived x true) s))
      ∧ (agrees → r.type ≠ 0x1F#8 → r.full = true →
        discarded { s.link with overrunErrors := bumped s.link.overrunErrors } (exec (.linkByteReceived x true) s))
      ∧ (agrees → r.type = 0x1F#8 → r.payload.length ≠ 1 → discarded framing (exec (.linkByteReceived x true) s)))

/-- R177, R182: the frame of a RETURN CREDIT record raises the credit count by its payload byte, no higher than 255, whatever
the input buffer holds, and the record does not enter the buffer; the row RETURN_CREDIT is that completion by itself (log
entry 23).
R182: with the transmitter idle and credit above 0 the send of the record at the head of the queue begins: the credit
falls by one, its frame goes out, and it keeps its place; with an empty queue, a send under way or no credit nothing begins.
When its last byte has gone the record leaves the queue. -/
def Obligations.CreditAndSending : Prop :=
  (∀ (c : Byte) (s : State),
    (s.link.receiver.phase = .hunt →
      receiveAll (Record.frame ⟨0x1F#8, [c]⟩) s = .next { s with link := { s.link with
        credit := min (s.link.credit + c.toNat) 255
        receiver := ⟨.hunt, 0x1F#8, 1, [], none, decide (8 ≤ s.link.input.length), 0⟩ } })
    ∧ exec (.returnCredit c) s =
        .next { s with link := { s.link with credit := min (s.link.credit + c.toNat) 255 } })
  ∧ (∀ s : State,
    exec .sendStart s = .next (match s.link.upstream with
      | [] => s
      | r :: _ =>
        if s.link.sending = false ∧ 0 < s.link.credit then
          { s with
            link := { s.link with sending := true, credit := s.link.credit - 1 }
            blocks := { s.blocks with sent := .linkRecord r.frame :: s.blocks.sent } }
        else s)
    ∧ exec .recordSent s = .next (
        if s.link.sending then { s with link := { s.link with sending := false, upstream := s.link.upstream.tail } }
        else s))

/-- R34, R36, R147, Tables 11-10, 11-11 and 11-17: each placement puts its record at the tail of the upstream queue while a place is free. The STEP RESULT,
of 9 bytes, is that of the context at the head of the report order, which leaves the window and the order; the ALARM NOTICE, of 7 bytes, that of
the code at the head of the notice list, from its entry as it stands, which leaves the list with its flag cleared; the
BOARD RESULT, of 26 bytes, is placed when the board is CLOSING with an empty window, and the board becomes NONE, by which a WAITING machine
is STOPPED. With no free place nothing changes. That placements are commands of their own is the model's (log entry 5). -/
def Obligations.PlacementsJoinTheQueue : Prop :=
  ∀ s : State,
    let queued := fun (r : Record) => { s.link with upstream := s.link.upstream ++ [r] }
    (64 ≤ s.link.upstream.length → exec .stepResultPlacement s = .next s ∧ exec .boardResultPlacement s = .next s
      ∧ exec .alarmNoticePlacement s = .next s)
    ∧ (s.link.upstream.length < 64 →
      -- Table 11-10
      (∀ n order c o, s.blocks.board.reportOrder = n :: order → s.blocks.board.context? n = some c → c.outcome = some o →
        let result := fun (r : VerifyResult) => match r with
          | .pass => 0 | .passAlt => 1 | .value => 2 | .opened => 3 | .short => 4 | .missing => 5 | .reversed => 6
        let count : Option Nat := match c.verify with | some v => v.count | none => none
        let band : Option Nat := match c.verify with | some v => v.band | none => none
        let outcome := match o with
          | .inserted => 0 | .misinserted => 1 | .skippedBadImage => 2 | .skippedOutOfField => 3 | .failed => 4
          | .aborted => 5
        let bytes := be16 c.number ++ [byteOf outcome, byteOf (c.source.getD 255),
            byteOf (flag c.slip 7 + flag c.passAlt 6 + flag c.badImage 5 + flag c.operator 4 + flag count.isSome 3
              + c.makeUps % 8),
            byteOf (match c.verify with | some v => result v.result | none => 255), byteOf (band.getD 255)]
          ++ be16 (count.getD 0)
        bytes.length = 9 ∧ exec .stepResultPlacement s = .next { s with
          link := queued ⟨0x81#8, bytes⟩
          blocks := { s.blocks with board := { s.blocks.board with
            window := s.blocks.board.window.filter (fun e => decide (e.number ≠ n)), reportOrder := order } } })
      -- Table 11-11
      ∧ (∀ code notices, s.blocks.alarm.notices = code :: notices →
        let e := look s.blocks.alarm.codes code
        let cls := match e.cls with | .note => 0 | .holdFeed => 1 | .stopAtPark => 2 | .stopNow => 3
        let state := match e.state with | .idle => 0 | .active => 1 | .latched => 2
        let bytes := [byteOf code,
            byteOf (cls * 64 + state * 16 + flag e.ackPending 3 + flag e.context.step.isSome 2
              + flag e.context.dispenser.isSome 1 + flag e.context.kind.isSome 0), byteOf e.count]
          ++ be16 (e.context.step.getD 0) ++ [byteOf (e.context.dispenser.getD 0), byteOf (e.context.kind.getD 0)]
        bytes.length = 7 ∧ exec .alarmNoticePlacement s = .next { s with
          link := queued ⟨0x83#8, bytes⟩
          blocks := { s.blocks with alarm :=
            { codes := put s.blocks.alarm.codes code { look s.blocks.alarm.codes code with noticePending := false }
              notices := notices } } })
      -- Table 11-17
      ∧ (s.blocks.board.phase = .closing → s.blocks.board.window = [] →
        let d := s.blocks.board
        let y := d.tallies
        let status := match d.endStatus with | .complete => 0#8 | .aborted => 1#8
        let bytes := be32 d.id ++ [status] ++ be24 y.accepted ++ be24 y.inserted ++ be24 y.misinserted ++ be24 y.skipped
          ++ be24 y.failed ++ be24 y.aborted ++ be24 y.makeUps
        bytes.length = 26 ∧ ∃ t, exec .boardResultPlacement s = .next t
          ∧ t.link = queued ⟨0x82#8, bytes⟩ ∧ t.blocks.board = { s.blocks.board with phase := .none }
          ∧ t.blocks.shaft = (if s.blocks.shaft.machine = .waiting then
              { s.blocks.shaft with machine := .stopped, stopPending := false } else s.blocks.shaft)
          ∧ t.blocks.chain = s.blocks.chain ∧ t.blocks.alarm = s.blocks.alarm)
      ∧ (s.blocks.board.phase ≠ .closing ∨ s.blocks.board.window ≠ [] → exec .boardResultPlacement s = .next s))

/-- R180: while a STEP that a full window holds back is the oldest record, a passing record behind it, of any type but the four
stream types, is taken by its own row ahead of it, and the STEP stays in the buffer, unless the record is a RESET, which empties
the buffer of all that is older (R165); no stream record is taken, so the rows BOARD START, STEP, BOARD END and BAD IMAGE do
nothing (log entry 5).
R181, Table 11-19: a QUERY is answered by a STATUS REPLY of 60 bytes with each item as it stands; the counts are those without
the QUERY and the reply (log entry 9), and the target number is 0 while no target is held (log entry 28). Nothing else
changes. -/
def Obligations.PassingRecordsOvertake : Prop :=
  (∀ (headUp : Bool) (r q : Record) (rest : List Record) (s : State), s.link.input = r :: q :: rest → r.type = 0x02#8 →
    256 ≤ s.blocks.board.window.length → s.link.upstream.length < 64 →
    exec .boardStart s = .next s ∧ exec .step s = .next s ∧ exec .boardEnd s = .next s ∧ exec .badImage s = .next s
      ∧ (q.type ∉ [0x01#8, 0x02#8, 0x03#8, 0x04#8] → ∃ t, exec (q.row.command headUp) s = .next t
        ∧ t.link.input = (if q.row = .control 7 ∧ q.payload.length = 2 then rest else r :: rest)))
  ∧ ∀ (rest : List Record) (s : State), s.offers ⟨0x14#8, []⟩ rest →
    let b := s.blocks
    let p := b.positioner
    let h := b.head
    let a := b.alarm
    let shaftBytes := be16 b.shaft.angle ++ [byteOf (flag b.shaft.registered 7 + match b.shaft.machine with
        | .stopped => 0 | .homing => 1 | .waiting => 2 | .cycling => 3 | .halted => 4 | .recovering => 5 | .purging => 6)]
    let boardBytes := [byteOf (match b.board.phase with | .none => 0 | .opened => 1 | .closing => 2)]
      ++ be32 (match b.board.phase with | .none => 0 | .opened => b.board.id | .closing => b.board.id)
      ++ be24 b.board.expectedStep ++ be16 b.board.window.length
    let plannerBytes := be16 b.board.queue.length ++ be16 (b.board.queue.head?.getD 0) ++ [byteOf b.chain.frontierPlus,
      byteOf ((match b.planner.stopCause with
          | .empty => 0 | .noSource => 1 | .horizon => 2 | .held => 3 | .machine => 4 | .frozen => 5)
        + flag b.planner.freeze 4 + flag (decide (2 ≤ a.demand)) 5 + flag b.board.queue.head?.isSome 6)]
    let chainBytes := [byteOf b.chain.pointer, byteOf b.chain.reservedCount, byteOf b.chain.occupiedCount,
      byteOf (flag b.chain.grant 0 + flag b.chain.stripPending.isSome 1)]
    let settleBytes := [byteOf (match p.settle with | .moving => 0 | .coarse => 1 | .fine => 2), byteOf p.coarseRun,
      byteOf p.fineRun, byteOf p.silence]
    let targetBytes := (match p.target with
        | some t => [byteOf p.targetNumber] ++ beSigned32 t.x ++ beSigned32 t.y
        | none => List.replicate 9 0#8)
      ++ [byteOf ((match p.target with | some t => t.q % 4 | none => 0) + flag p.target.isSome 2 + flag p.lock.isSome 3
        + flag p.candidate.isSome 4 + flag p.spanTarget.isSome 5 + flag p.spanReady 6
        + flag (match (b.chain.slotAt 0).step?.bind b.board.context? with
          | some c => p.targetIs c | none => false) 7)]
      ++ be16 (match p.target with | some t => t.served | none => 0)
    let stepBytes := be16 (p.candidate.getD 0) ++ be16 (p.lock.getD 0) ++ be16 (p.spanTarget.getD 0)
    let headBytes := [byteOf (flag b.headInhibitLine 0 + flag h.record.isSome 1 + flag h.upAwaited 2
        + flag h.output.isSome 3 + flag h.ready 4)]
      ++ (match h.record with
        | some r => byteOf (flag r.jaws 5 + flag r.down 4 + flag r.returned 3 + flag r.leadA 2 + flag r.leadB 1
            + flag r.up 0) :: be16 r.step
        | none => [0#8, 0#8, 0#8])
      ++ [match h.output with | some o => byteOf o.number | none => 0#8]
    let alarmBytes := (match a.presented with
        | some code =>
          let e := look a.codes code
          [byteOf code, byteOf ((match e.cls with | .note => 0 | .holdFeed => 1 | .stopAtPark => 2 | .stopNow => 3) * 64
            + (match e.state with | .idle => 0 | .active => 1 | .latched => 2) * 16 + flag e.ackPending 3 + a.demand),
            byteOf e.count]
        | none => [255#8, byteOf a.demand, 0#8])
      ++ [byteOf (flag a.lampAlarm 2 + flag a.lampHold 1 + flag b.shaft.lampRun 0),
        byteOf ((List.range 32).countP fun code => decide ((look a.codes code).state = .active)),
        byteOf ((List.range 32).countP fun code => decide ((look a.codes code).state = .latched)), byteOf a.notices.length]
    let linkBytes := [byteOf s.link.credit, byteOf rest.length, byteOf s.link.upstream.length]
    let payload := shaftBytes ++ boardBytes ++ plannerBytes ++ chainBytes ++ settleBytes ++ targetBytes ++ stepBytes
      ++ headBytes ++ alarmBytes ++ linkBytes
    payload.length = 60 ∧ exec .query s = .next (s.answered rest ⟨0x86#8, payload⟩)

/-- R181: a record of a type the TQ-96 does not take is refused UNKNOWN TYPE with its type, and a CONTROL of an unknown
subcommand refused RANGE; a LOAD of a table above 10 is refused RANGE with the table id (R183). Nothing else changes. That one
row takes all three is the model's reading (log entry 8).
Tables 11-5, 11-18: the 7 bytes of a REFUSAL: the refused type, the reason's number, the form of the detail, and the detail. -/
def Obligations.UnknownRecordsRefused : Prop :=
  (∀ (type : Byte) (payload : List Byte) (rest : List Record) (s : State), s.offers ⟨type, payload⟩ rest →
    (type ∉ [0x01#8, 0x02#8, 0x03#8, 0x04#8, 0x10#8, 0x11#8, 0x12#8, 0x13#8, 0x14#8] →
      exec .unknownTypeRecord s = .next (s.answered rest (refusal type .unknownType (.number type.toNat))))
    ∧ (type = 0x12#8 → payload.length = 2 → 7 < byteAt payload 0 →
      exec .unknownTypeRecord s = .next (s.answered rest (refusal 0x12#8 .range .none)))
    ∧ (type = 0x10#8 → payload ≠ [] → 10 < byteAt payload 0 →
      exec .unknownTypeRecord s = .next (s.answered rest (refusal 0x10#8 .range (.number (byteAt payload 0))))))
  -- Table 11-18
  ∧ (∀ (type : Byte) (reason : RefusalReason) (detail : Detail),
    let code := match reason with
      | .busy => 0 | .range => 1 | .noBoard => 2 | .boardOpen => 3 | .sequence => 4 | .tier => 5 | .countMismatch => 6
      | .state => 7 | .alarmsOutstanding => 8 | .notLatched => 9 | .fixed => 10 | .config => 11 | .unknownType => 12
    let bytes := match detail with
      | .none => [0#8, 0#8, 0#8, 0#8, 0#8]
      | .entry table index => [1#8, byteOf table] ++ be16 index ++ [0#8]
      | .field n => [2#8, byteOf n, 0#8, 0#8, 0#8]
      | .number n => [3#8] ++ be32 n
    refusal type reason detail = ⟨0x84#8, [type, byteOf code] ++ bytes⟩)

/-! ## Boards and steps -/

/-- R20: a BOARD START while a board stands is refused BOARD OPEN with its id; with the board NONE and every cross-table check
passed it opens the board: id, mask, correction and expected count as given, expected step number, last tier and tallies 0, end
status COMPLETE. Nothing else changes.
A correction outside −2000 to +2000, or a present expected count above 65536, is refused RANGE with the byte of the first such
field, in the order dx, dy, count, which is the model's (log entry 35).
R5, R21: the checks are those of Table 2-2, in its order: the cam entries loaded and the conditions of Table 1-3, in order; the
chain geometry loaded; the station offset of each installed dispenser from V+1 to L−2; the sources of each loaded kind
installed and its pin within the list; its band set within the band table, loaded and strictly ascending; each image of the
mask installed; the table configuration loaded. The first that fails refuses the record CONFIG with its table and the lowest
entry that fails it.
R33: a BOARD END whose final count equals the expected step number, and the expected step count when one is present,
makes an OPEN board CLOSING and changes nothing else; any other is refused: NO BOARD, STATE, or COUNT MISMATCH with the count
that differs. -/
def Obligations.BoardsOpenAndClose : Prop :=
  (∀ (id mask count : Nat) (dx dy : Int) (counted : Bool) (rest : List Record) (s : State), id < 4294967296 →
    mask < 65536 → count < 16777216 → -32768 ≤ dx → dx < 32768 → -32768 ≤ dy → dy < 32768 →
    s.offers ⟨0x01#8, be32 id ++ be16 mask ++ be16 (dx % 65536).toNat ++ be16 (dy % 65536).toNat
      ++ [if counted then 1#8 else 0#8] ++ be24 count⟩ rest →
    (s.blocks.board.phase ≠ .none →
      exec .boardStart s = .next (s.answered rest (refusal 0x01#8 .boardOpen (.number s.blocks.board.id))))
    ∧ (s.blocks.board.phase = .none →
      let outside := fun (v : Int) => v < -2000 ∨ 2000 < v
      let above := counted = true ∧ 65536 < count
      let range := fun (field : Nat) => exec .boardStart s = .next (s.answered rest (refusal 0x01#8 .range (.field field)))
      (outside dx → range 6) ∧ (¬ outside dx → outside dy → range 8)
      ∧ (¬ outside dx → ¬ outside dy → above → range 11)
      ∧ (¬ outside dx → ¬ outside dy → ¬ above →
        let chain := s.blocks.chain
        let reel := fun (d : Nat) => look s.blocks.source.dispensers d
        let image := fun (i : Nat) => look s.blocks.positioner.images i
        -- the checks of Table 2-2, each of one entry
        let placed := fun (d : Nat) => (reel d).installed = true →
          chain.verifyOffset + 1 ≤ (reel d).offset ∧ (reel d).offset + 2 ≤ chain.length
        let sourced := fun (id : Nat) => ∀ k, s.blocks.source.kind? id = some k →
          (∀ d ∈ k.sources, (reel d).installed = true) ∧ ∀ i, k.pin = some i → i < k.sources.length
        let banded := fun (id : Nat) => ∀ k, s.blocks.source.kind? id = some k → k.bandStart + k.bandCount ≤ 128
          ∧ s.blocks.verifier.bandsPass k
        let shown := fun (i : Nat) => mask.testBit i = true → (image i).installed = true
        let cams := s.blocks.shaft.camPasses
        let reels := cams ∧ chain.loaded = true ∧ ∀ d, d < 96 → placed d
        let kinds := reels ∧ (∀ id, id < 256 → sourced id) ∧ ∀ id, id < 256 → banded id
        let images := kinds ∧ ∀ i, i < 16 → shown i
        let refused := fun (table index : Nat) =>
          exec .boardStart s = .next (s.answered rest (refusal 0x01#8 .config (.entry table index)))
        (images → s.blocks.positioner.config.loaded = true →
          exec .boardStart s = .next (s.taken rest { s.blocks with board := { s.blocks.board with
            phase := .opened, id := id, goodMask := BitVec.ofNat 16 mask, dx := dx, dy := dy
            expectedCount := if counted then some count else none, expectedStep := 0, lastTier := 0
            endStatus := .complete, tallies := ⟨0, 0, 0, 0, 0, 0, 0⟩ } }))
        ∧ (∀ e, s.blocks.shaft.camFails e → refused 0 e)
        ∧ (cams → chain.loaded = false → refused 1 0)
        ∧ (∀ d, d < 96 → cams → chain.loaded = true → ¬ placed d → (∀ e, e < d → placed e) → refused 3 d)
        ∧ (∀ id, id < 256 → reels → ¬ sourced id → (∀ k, k < id → sourced k) → refused 2 id)
        ∧ (∀ id, id < 256 → reels → (∀ k, k < 256 → sourced k) → ¬ banded id → (∀ k, k < id → banded k) → refused 2 id)
        ∧ (∀ i, i < 16 → kinds → ¬ shown i → (∀ j, j < i → shown j) → refused 5 i)
        ∧ (images → s.blocks.positioner.config.loaded = false → refused 6 0))))
  ∧ (∀ (n : Nat) (rest : List Record) (s : State), n < 16777216 → s.offers ⟨0x03#8, be24 n⟩ rest →
    let d := s.blocks.board
    (d.phase = .none → exec .boardEnd s = .next (s.answered rest (refusal 0x03#8 .noBoard .none)))
    ∧ (d.phase = .closing → exec .boardEnd s = .next (s.answered rest (refusal 0x03#8 .state .none)))
    ∧ (d.phase = .opened → n ≠ d.expectedStep →
      exec .boardEnd s = .next (s.answered rest (refusal 0x03#8 .countMismatch (.number d.expectedStep))))
    ∧ (∀ m, d.phase = .opened → n = d.expectedStep → d.expectedCount = some m → m ≠ n →
      exec .boardEnd s = .next (s.answered rest (refusal 0x03#8 .countMismatch (.number m))))
    ∧ (d.phase = .opened → n = d.expectedStep → (∀ m, d.expectedCount = some m → m = n) →
      exec .boardEnd s = .next (s.taken rest { s.blocks with board := { d with phase := .closing } })))

/-- R104, R105: the table target of a step. The position relative to the rotary centre is turned by the step's quarter turns
(Table 6-3) and taken from the head position; each axis is scaled by its k over 4096 to the nearest count, a half going away
from zero. -/
def Obligations.TargetIsTurnedAndRounded : Prop :=
  ∀ (t : TableConfig) (image : Image) (dx dy : Int) (x y : Nat),
    let u : Int := image.ox + x + dx - t.rx
    let v : Int := image.oy + y + dy - t.ry
    let nearest := fun (count product : Int) =>
      2 * (4096 * count - product).natAbs ≤ 4096
        ∧ (2 * (4096 * count - product).natAbs = 4096 → product.natAbs ≤ 4096 * count.natAbs)
    let placed := fun (target : Int × Int) (u' v' : Int) =>
      nearest target.1 ((t.hx - u') * t.kx) ∧ nearest target.2 ((t.hy - v') * t.ky)
    placed (transform t image dx dy x y 0) u v ∧ placed (transform t image dx dy x y 1) (-v) u
      ∧ placed (transform t image dx dy x y 2) (-u) (-v) ∧ placed (transform t image dx dy x y 3) v (-u)

/-- R22 to R25, R28: a STEP that passes every test is accepted: a context with its fields joins the tail of the window, the
expected number and the accepted tally rise by one, and its tier is the last accepted. In a bad image it is resolved
SKIPPED-BAD-IMAGE with the BAD-IMAGE flag and no target; with its target outside the travel limits SKIPPED-OUT-OF-FIELD
with the target kept; otherwise, while a hold blocks planning, it is QUEUED with its target and the stop cause is HELD.
Nothing else changes.
R22, R23: the refusals, in their order: NO BOARD, STATE with the board CLOSING, SEQUENCE with the expected number, at which FEED
ERROR, code 27, occurs with the refused number, COUNT MISMATCH with a present count that the number is not below, then by the
record's fields RANGE for x, y, the image and the override code 3, which is tested there by the model's reading (log entry 29),
TIER with the last accepted tier, RANGE for a kind not loaded and for an image not installed. A refused step changes nothing;
at SEQUENCE the expected number and the last tier stay, and where FEED ERROR is of class NOTE and no counter is enabled, nothing
but the alarm table changes. -/
def Obligations.StepAccepted : Prop :=
  (∀ (number kind image x y tier policy theta : Nat) (rest : List Record) (s : State), number < 65536 → kind < 256 →
    image < 16 → x ≤ 60000 → y ≤ 60000 → tier < 16 → policy < 3 → theta < 4 →
    s.offers ⟨0x02#8, be16 number ++ [byteOf kind, byteOf image] ++ be16 x ++ be16 y
      ++ [byteOf (tier * 16 + policy * 4 + theta)]⟩ rest →
    s.blocks.board.window.length < 256 → s.blocks.board.phase = .opened → number = s.blocks.board.expectedStep →
    (∀ n, s.blocks.board.expectedCount = some n → number < n) → s.blocks.board.lastTier ≤ tier →
    (s.blocks.source.kind? kind).isSome = true → (look s.blocks.positioner.images image).installed = true →
    s.blocks.board.sound →
    let d := s.blocks.board
    let good := d.goodMask.getLsbD image
    let target := transform s.blocks.positioner.config (look s.blocks.positioner.images image) d.dx d.dy x y theta
    let context : StepContext := ⟨number, kind, image, x, y, theta, tier,
      if policy = 1 then some .stop else if policy = 2 then some .mark else none,
      none, .queued, none, none, 0, 0, none, false, false, false, false, none⟩
    let accepted := fun (c : StepContext) (skipped : Bool) => { d with
      window := d.window ++ [c], expectedStep := d.expectedStep + 1, lastTier := tier
      reportOrder := if skipped then d.reportOrder ++ [number] else d.reportOrder
      tallies := { d.tallies with
        accepted := d.tallies.accepted + 1
        skipped := if skipped then d.tallies.skipped + 1 else d.tallies.skipped } }
    (good = false → exec .step s = .next (s.taken rest { s.blocks with board := accepted { context with
      state := .resolved, badImage := true, outcome := some .skippedBadImage } true }))
    ∧ (good = true → s.blocks.positioner.config.inField target = false →
      exec .step s = .next (s.taken rest { s.blocks with board := accepted { context with
        target := some target, state := .resolved, outcome := some .skippedOutOfField } true }))
    ∧ (good = true → s.blocks.positioner.config.inField target = true → 2 ≤ s.blocks.alarm.demand →
      exec .step s = .next (s.taken rest { s.blocks with
        board := accepted { context with target := some target } false
        planner := { s.blocks.planner with stopCause := .held } })))
  -- the refusals
  ∧ (∀ (number kind image x y tier policy theta : Nat) (rest : List Record) (s : State), number < 65536 → kind < 256 →
    image < 256 → x < 65536 → y < 65536 → tier < 16 → policy < 4 → theta < 4 →
    s.offers ⟨0x02#8, be16 number ++ [byteOf kind, byteOf image] ++ be16 x ++ be16 y
      ++ [byteOf (tier * 16 + policy * 4 + theta)]⟩ rest → s.blocks.board.window.length < 256 →
    let d := s.blocks.board
    let refused := fun (reason : RefusalReason) (detail : Detail) =>
      exec .step s = .next (s.answered rest (refusal 0x02#8 reason detail))
    (d.phase = .none → refused .noBoard .none) ∧ (d.phase = .closing → refused .state .none)
    ∧ (d.phase = .opened → number ≠ d.expectedStep → ∃ t, exec .step s = .next t
      ∧ t.link = (s.answered rest (refusal 0x02#8 .sequence (.number d.expectedStep))).link
      ∧ look t.blocks.alarm.codes 27 = (look s.blocks.alarm.codes 27).struck ⟨some number, none, none⟩
      ∧ t.blocks.board.expectedStep = d.expectedStep ∧ t.blocks.board.lastTier = d.lastTier
      ∧ ((look s.blocks.alarm.codes 27).cls = .note → s.blocks.counters.quiet →
        t.blocks = { s.blocks with alarm := t.blocks.alarm } ∧ t.blocks.alarm.elsewhere s.blocks.alarm [27]))
    ∧ (∀ n, d.phase = .opened → number = d.expectedStep → d.expectedCount = some n → n ≤ number →
      refused .countMismatch (.number n))
    ∧ (d.phase = .opened → number = d.expectedStep → (∀ n, d.expectedCount = some n → number < n) →
      (60000 < x → refused .range (.field 4))
      ∧ (x ≤ 60000 → 60000 < y → refused .range (.field 6))
      ∧ (x ≤ 60000 → y ≤ 60000 → 16 ≤ image → refused .range (.field 3))
      ∧ (x ≤ 60000 → y ≤ 60000 → image < 16 → policy = 3 → refused .range (.field 8))
      ∧ (x ≤ 60000 → y ≤ 60000 → image < 16 → policy < 3 →
        (tier < d.lastTier → refused .tier (.number d.lastTier))
        ∧ (d.lastTier ≤ tier → s.blocks.source.kind? kind = none → refused .range (.field 2))
        ∧ (d.lastTier ≤ tier → s.blocks.source.kind? kind ≠ none →
          (look s.blocks.positioner.images image).installed = false → refused .range (.field 3)))))

/-- R59 to R67: an accepted STEP whose kind names one source, available and unpinned, is planned at once on an empty chain
of a STOPPED machine with no other step QUEUED: the slot at the offset one above the source's station is RESERVED for it,
the step is PLANNED with that source and slot, the kind's last-used index is 0 and the stop cause EMPTY; the machine stays
STOPPED and no alarm occurs.
R39, R45, R47, R50, R59 to R67: the same of any kind on any chain. The candidates are the pinned source, or those of the list,
that are available; a candidate fits at an offset of the chain above its station and above every slot in use, where no RESERVED
slot of its bank has the same fire wait, and is feasible at the lowest such offset. With no candidate the step stays QUEUED with
the stop cause NO SOURCE, and NO SOURCE, code 25, occurs with the step and its kind when the kind has not reported it, which it
then has (stated with that code of class NOTE and no counter enabled). With candidates and none feasible it stays QUEUED with
HORIZON, and no alarm occurs. Otherwise the feasible candidate with the smallest offset has the reservation, at a tie the one of
the lowest index for FILL and the first in cyclic order after the last-used index for SPREAD: its slot is RESERVED, the step
PLANNED, the last-used index its index, a PROVING source's proving-in-flight flag set, and the stop cause EMPTY. -/
def Obligations.StepReservedOnEmptyChain : Prop :=
  (∀ (number kind image x y tier theta d : Nat) (k : Kind) (rest : List Record) (s : State), number < 65536 →
      kind < 256 → image < 16 → x ≤ 60000 → y ≤ 60000 → tier < 16 → theta < 4 →
      s.offers ⟨0x02#8, be16 number ++ [byteOf kind, byteOf image] ++ be16 x ++ be16 y
        ++ [byteOf (tier * 16 + theta)]⟩ rest →
      s.blocks.board.window = [] → s.blocks.board.phase = .opened → number = s.blocks.board.expectedStep →
      (∀ n, s.blocks.board.expectedCount = some n → number < n) → s.blocks.board.lastTier ≤ tier →
      s.blocks.source.kind? kind = some k → k.sources = [d] → k.pin = none → s.blocks.source.available d k = true →
      (look s.blocks.source.dispensers d).condition = .operational →
      (look s.blocks.positioner.images image).installed = true → s.blocks.board.goodMask.getLsbD image = true →
      (let target := transform s.blocks.positioner.config (look s.blocks.positioner.images image) s.blocks.board.dx
        s.blocks.board.dy x y theta
       s.blocks.positioner.config.inField target = true) →
      s.blocks.shaft.machine = .stopped → s.blocks.alarm.demand < 2 → s.blocks.planner.freeze = false →
      s.blocks.chain.loaded = true → s.blocks.chain.work = false →
      (look s.blocks.source.dispensers d).offset + 1 < s.blocks.chain.length →
      let pitch := s.blocks.chain.pitchAt ((look s.blocks.source.dispensers d).offset + 1)
      ∃ t, exec .step s = .next t
        ∧ t.blocks.chain = { s.blocks.chain with slots := s.blocks.chain.slots.set pitch (.reserved number d) }
        ∧ (∃ c, t.blocks.board.context? number = some c ∧ c.state = .planned ∧ c.source = some d ∧ c.slot = some pitch
            ∧ c.kind = kind)
        ∧ (look t.blocks.source.kinds kind).lastUsed = 0 ∧ t.blocks.planner.stopCause = .empty
        ∧ t.blocks.shaft = s.blocks.shaft ∧ t.blocks.alarm = s.blocks.alarm
        ∧ t.link = { s.link with input := rest })
  ∧ (∀ (number kind image x y tier theta : Nat) (k : Kind) (rest : List Record) (s : State), number < 65536 →
    kind < 256 → image < 16 → x ≤ 60000 → y ≤ 60000 → tier < 16 → theta < 4 →
    s.offers ⟨0x02#8, be16 number ++ [byteOf kind, byteOf image] ++ be16 x ++ be16 y
      ++ [byteOf (tier * 16 + theta)]⟩ rest →
    s.blocks.board.window.length < 256 → s.blocks.board.sound → s.blocks.board.phase = .opened →
    number = s.blocks.board.expectedStep → (∀ n, s.blocks.board.expectedCount = some n → number < n) →
    s.blocks.board.lastTier ≤ tier → s.blocks.source.kind? kind = some k →
    (look s.blocks.positioner.images image).installed = true → s.blocks.board.goodMask.getLsbD image = true →
    let target := transform s.blocks.positioner.config (look s.blocks.positioner.images image) s.blocks.board.dx
      s.blocks.board.dy x y theta
    s.blocks.positioner.config.inField target = true → s.blocks.shaft.machine = .stopped → s.blocks.alarm.demand < 2 →
    s.blocks.planner.freeze = false → (∀ c ∈ s.blocks.board.window, c.state ≠ .queued) → s.blocks.counters.quiet →
    (look s.blocks.alarm.codes 25).cls = .note →
    let chain := s.blocks.chain
    let reel := fun (d : Nat) => look s.blocks.source.dispensers d
    let entry := look s.blocks.source.kinds kind
    let queued : StepContext := ⟨number, kind, image, x, y, theta, tier, none, some target, .queued, none, none, 0, 0,
      none, false, false, false, false, none⟩
    let candidate := fun (i d : Nat) =>
      k.sources[i]? = some d ∧ (k.pin = none ∨ k.pin = some i) ∧ s.blocks.source.available d k = true
    let used := fun (j : Nat) => j < chain.length ∧ chain.slotAt j ≠ .empty
    let clashes := fun (d j : Nat) => ∃ i n e, i < chain.length ∧ chain.slotAt i = .reserved n e ∧ e / 8 = d / 8
      ∧ i + (reel d).offset = j + (reel e).offset
    let fits := fun (d j : Nat) => j < chain.length ∧ (reel d).offset < j ∧ (∀ i, used i → i < j) ∧ ¬ clashes d j
    let feasible := fun (i d j : Nat) => candidate i d ∧ fits d j ∧ ∀ h, h < j → ¬ fits d h
    let turn := fun (i : Nat) => match k.selection with | .fill => i | .spread => (i + 3 - entry.lastUsed % 4) % 4
    let kept := fun (t : State) => t.blocks.alarm = s.blocks.alarm ∧ t.blocks.chain = chain
      ∧ t.blocks.board.context? number = some queued
    ∃ t, exec .step s = .next t ∧ t.link = { s.link with input := rest } ∧ t.blocks.shaft = s.blocks.shaft
      ∧ (∀ n, n ≠ number → t.blocks.board.context? n = s.blocks.board.context? n)
      ∧ ((∀ i d, ¬ candidate i d) → t.blocks.planner.stopCause = .noSource
        ∧ (look t.blocks.source.kinds kind) = { entry with noSource := true }
        ∧ t.blocks.source.dispensers = s.blocks.source.dispensers ∧ t.blocks.chain = chain
        ∧ t.blocks.board.context? number = some queued
        ∧ (entry.noSource = true → t.blocks.alarm = s.blocks.alarm)
        ∧ (entry.noSource = false → t.blocks.alarm.elsewhere s.blocks.alarm [25]
          ∧ look t.blocks.alarm.codes 25 = (look s.blocks.alarm.codes 25).struck ⟨some number, none, some kind⟩))
      ∧ ((∃ i d, candidate i d) → (∀ i d j, ¬ feasible i d j) → kept t ∧ t.blocks.planner.stopCause = .horizon
        ∧ t.blocks.source = s.blocks.source)
      ∧ (∀ i d j, feasible i d j →
        (∀ i' d' j', feasible i' d' j' → j < j' ∨ (j = j' ∧ (turn i < turn i' ∨ (turn i = turn i' ∧ i ≤ i')))) →
        let pitch := chain.pitchAt j
        t.blocks.chain = { chain with slots := chain.slots.set pitch (.reserved number d) }
          ∧ t.blocks.board.context? number = some { queued with
              state := .planned, source := some d, slot := some pitch }
          ∧ look t.blocks.source.kinds kind = { entry with lastUsed := i } ∧ t.blocks.planner.stopCause = .empty
          ∧ t.blocks.alarm = s.blocks.alarm
          ∧ (∀ e, e < 96 → look t.blocks.source.dispensers e =
              if e = d ∧ (reel d).condition = .proving then { reel e with proving := true } else reel e)))

/-- R29 to R31: a BAD IMAGE while a board stands clears the image's flag in the good mask and no other flag; with every step of
the image INSERTING, UNCERTAIN, STRIPPING or RESOLVED, those unresolved get the BAD-IMAGE flag and nothing else changes.
With the board NONE the record is refused NO BOARD. An image above 15 is refused RANGE, whether a board stands or not, which is
the model's order of the two refusals (log entry 36).
R28, R30, R31: in general each step of the image that is QUEUED, or PLANNED with a slot RESERVED for it, is resolved SKIPPED-
BAD-IMAGE with the BAD-IMAGE flag, a PLANNED one without its source, and joins the report order in ascending number; the
skipped and make-up tallies rise by theirs. A FIRED, VERIFIED or DIVERTING step whose slot lies above G, or at G with gate done
clear, is DIVERTING and its slot DIVERT with reason DESELECTED; past the gate the slot stays. Every unresolved step gets the
flag, and a resolved one stays as it is. A planning event may follow, in which NO SOURCE, code 25, is of class NOTE here. Where
planning is blocked, the slots of the PLANNED steps are EMPTY and their sources' proving-in-flight flags clear, a PLANNED step
of another image above the lowest of them is QUEUED again with its slot EMPTY, and every other step of another image stays as
it was. -/
def Obligations.BadImageMarks : Prop :=
  ∀ (image : Nat) (rest : List Record) (s : State), image < 256 → s.offers ⟨0x04#8, [byteOf image]⟩ rest →
    s.blocks.planner.freeze = false →
    (16 ≤ image → exec .badImage s = .next (s.answered rest (refusal 0x04#8 .range .none)))
    ∧ (image < 16 → s.blocks.board.phase = .none →
      exec .badImage s = .next (s.answered rest (refusal 0x04#8 .noBoard .none)))
    ∧ (image < 16 → s.blocks.board.phase ≠ .none → s.blocks.board.sound →
        (∀ c ∈ s.blocks.board.window, c.image = image →
          c.state = .inserting ∨ c.state = .uncertain ∨ c.state = .stripping ∨ c.state = .resolved) →
      ∃ mask : BitVec 16, exec .badImage s = .next (s.taken rest { s.blocks with board := { s.blocks.board with
          goodMask := mask
          window := s.blocks.board.window.map (fun c =>
            if c.image = image ∧ c.state ≠ .resolved then { c with badImage := true } else c) } })
        ∧ ∀ n, n < 16 → mask.getLsbD n = (s.blocks.board.goodMask.getLsbD n && decide (n ≠ image)))
    ∧ (image < 16 → s.blocks.board.phase ≠ .none → s.blocks.board.sound → s.blocks.counters.quiet →
        (look s.blocks.alarm.codes 25).cls = .note →
      let d := s.blocks.board
      let chain := s.blocks.chain
      let dropped := d.window.filter fun c =>
        decide (c.image = image) && (decide (c.state = .queued) || decide (c.state = .planned))
      let names := fun (pitch : Nat) (c : StepContext) => (chain.slotOf pitch).step? = some c.number
        ∧ ∀ q, q < chain.slots.length → (chain.slotOf q).step? = some c.number → q = pitch
      let flagged := fun (c : StepContext) => { c with badImage := true }
      ∃ t, exec .badImage s = .next t ∧ t.link = { s.link with input := rest }
        ∧ (∀ n, n < 16 → t.blocks.board.goodMask.getLsbD n = (d.goodMask.getLsbD n && decide (n ≠ image)))
        ∧ t.blocks.board.reportOrder = d.reportOrder ++ dropped.map StepContext.number
        ∧ t.blocks.board.tallies = { d.tallies with
            skipped := d.tallies.skipped + dropped.length
            makeUps := d.tallies.makeUps + (dropped.map StepContext.makeUps).sum }
        ∧ t.blocks.head.record = s.blocks.head.record ∧ t.blocks.positioner.lock = s.blocks.positioner.lock
        ∧ (∀ c ∈ d.window, c.image = image →
          (c.state = .queued → t.blocks.board.context? c.number = some ((flagged c).ended .skippedBadImage))
          ∧ (∀ pitch n e, c.state = .planned → chain.slotOf pitch = .reserved n e → names pitch c →
            t.blocks.board.context? c.number = some { (flagged c).ended .skippedBadImage with source := none, dwell := 0 }
              ∧ (s.blocks.plansNothing → t.blocks.chain.slotOf pitch = .empty
                ∧ (look t.blocks.source.dispensers e).proving = false))
          ∧ ((c.state = .inserting ∨ c.state = .uncertain ∨ c.state = .stripping) →
            t.blocks.board.context? c.number = some (flagged c))
          ∧ (c.state = .resolved → t.blocks.board.context? c.number = some c)
          ∧ (∀ pitch o, (c.state = .fired ∨ c.state = .verified ∨ c.state = .diverting) →
            chain.slotOf pitch = .occupied o → names pitch c →
            if chain.gateOffset < chain.offsetOf pitch
                ∨ (chain.gateOffset = chain.offsetOf pitch ∧ chain.gateDone = false) then
              t.blocks.chain.slotOf pitch = .occupied { o with disposition := .divert, reason := some .deselected }
                ∧ t.blocks.board.context? c.number = some { flagged c with state := .diverting }
            else t.blocks.chain.slotOf pitch = .occupied o
              ∧ t.blocks.board.context? c.number = some (flagged c)))
        ∧ (s.blocks.plansNothing → ∀ c ∈ d.window, c.image ≠ image →
          ((c.state ≠ .planned ∨ ∀ e ∈ d.window, e.image = image → e.state = .planned → c.number < e.number) →
            t.blocks.board.context? c.number = some c)
          ∧ (∀ pitch n e, c.state = .planned →
            (∃ f ∈ d.window, f.image = image ∧ f.state = .planned ∧ f.number < c.number) →
            chain.slotOf pitch = .reserved n e → names pitch c →
            t.blocks.board.context? c.number = some { c with state := .queued, source := none, slot := none, dwell := 0 }
              ∧ t.blocks.chain.slotOf pitch = .empty)))

/-- R27: the tier question is answered yes exactly when some context in a state other than RESOLVED has a lower tier; where
tiers do not fall along the window that is exactly when the lowest-numbered unresolved context's tier is lower. -/
def Obligations.TierQuestion : Prop :=
  ∀ (d : Board) (tier : Nat),
    (d.lowerTierUnresolved tier = true ↔ ∃ c ∈ d.window, c.state ≠ .resolved ∧ c.tier < tier)
    ∧ ((d.window.map StepContext.tier).Pairwise (· ≤ ·) →
        (d.lowerTierUnresolved tier = true ↔
          ∃ c, (d.window.filter (fun c => decide (c.state ≠ .resolved))).head? = some c ∧ c.tier < tier))

/-! ## Loads and reads -/

/-- R4, R79, R102, R103, R120, R167: each of these LOADs, with no board standing and its fields within their values,
replaces its entry whole and changes nothing else. The cam entry asks for a machine that does not turn, the chain geometry
for an empty chain, whose map it makes anew with P at 0; a counter starts with value 0 and its three flags clear. A clinch
profile is compared at once with the outputs while the table's lock is FREE, against the profile last handed over, if any: an
entry whose values the outputs do not present is driven and profile ready is clear, one they present changes nothing, and an
unloaded one releases them; under the lock the outputs stay (R121). That a release keeps the note of a drive since the last
rise of PROFILE ACK is the model's (log entry 21). -/
def Obligations.LoadsReplaceEntries : Prop :=
  ∀ (rest : List Record) (s : State),
    (∀ e a z, e < 10 → a < z → z ≤ 1439 → s.blocks.board.phase = .none → s.blocks.shaft.machine.turning = false →
      s.offers (loadRecord 0 e (be16 a ++ be16 z)) rest →
      exec .loadCamTable s = .next (s.taken rest { s.blocks with shaft := { s.blocks.shaft with
        cam := put s.blocks.shaft.cam e ⟨true, a, z⟩ } }))
    ∧ (∀ p x, p ≤ 1439 → x < 65536 → s.blocks.board.phase = .none → s.blocks.shaft.machine.turning = false →
      s.offers (loadRecord 0 10 (be16 p ++ be16 x)) rest →
      exec .loadCamTable s = .next (s.taken rest { s.blocks with shaft := { s.blocks.shaft with
        cam := put s.blocks.shaft.cam 10 ⟨true, p, 0⟩ } }))
    ∧ (∀ l v g, 64 ≤ l → l ≤ 240 → 2 ≤ v → v ≤ 15 → 1 ≤ g → g < v → s.blocks.board.phase = .none →
      s.blocks.chain.work = false → s.offers (loadRecord 1 0 [byteOf l, byteOf v, byteOf g]) rest →
      exec .loadChainGeometry s = .next (s.taken rest { s.blocks with chain := { s.blocks.chain with
        loaded := true, length := l, verifyOffset := v, gateOffset := g, slots := List.replicate l .empty
        pointer := 0 } }))
    ∧ (∀ i ox oy (installed : Bool), i < 16 → ox ≤ 60000 → oy ≤ 60000 → s.blocks.board.phase = .none →
      s.offers (loadRecord 5 i ((if installed then 1#8 else 0#8) :: (be16 ox ++ be16 oy))) rest →
      exec .loadImage s = .next (s.taken rest { s.blocks with positioner := { s.blocks.positioner with
        images := put s.blocks.positioner.images i ⟨installed, ox, oy⟩ } }))
    ∧ (∀ (kx ky hx hy rx ry wf wc : Nat) (x₀ x₁ y₀ y₁ : Int), 1 ≤ kx → kx < 65536 → 1 ≤ ky → ky < 65536 → hx < 65536 →
      hy < 65536 → rx < 65536 → ry < 65536 → 1 ≤ wf → wf < 256 → 1 ≤ wc → wc < 256 → -2147483648 ≤ x₀ → x₀ ≤ x₁ →
      x₁ ≤ 2147483647 → -2147483648 ≤ y₀ → y₀ ≤ y₁ → y₁ ≤ 2147483647 → s.blocks.board.phase = .none →
      s.offers (loadRecord 6 0 (be16 kx ++ be16 ky ++ be16 hx ++ be16 hy ++ be16 rx ++ be16 ry ++ beSigned32 x₀
        ++ beSigned32 x₁ ++ beSigned32 y₀ ++ beSigned32 y₁ ++ [byteOf wf, byteOf wc])) rest →
      exec .loadTableConfiguration s = .next (s.taken rest { s.blocks with positioner := { s.blocks.positioner with
        config := ⟨true, kx, ky, hx, hy, rx, ry, x₀, x₁, y₀, y₁, wf, max wc wf⟩ } }))
    ∧ (∀ (i : Nat) (entry : Option Profile) (x y : Byte), i < 16 → (∀ v, entry = some v → v.cut < 4) →
      s.offers (loadRecord 7 i (match entry with
        | some v => [0#8, byteOf v.direction.index, byteOf v.cut] | none => [1#8, x, y])) rest →
      ∃ (output : Option ProfileOutput) (ready driven : Bool),
        exec .loadClinchProfile s = .next (s.taken rest { s.blocks with head := { s.blocks.head with
          profiles := put s.blocks.head.profiles i entry, output := output, ready := ready, driven := driven } })
        ∧ (s.blocks.positioner.lock ≠ none →
          output = s.blocks.head.output ∧ ready = s.blocks.head.ready ∧ driven = s.blocks.head.driven)
        ∧ (s.blocks.positioner.lock = none →
          let h := s.blocks.head
          let held := fun (q : Nat) => if q = i then entry else look h.profiles q
          (h.handed = none → output = h.output ∧ ready = h.ready ∧ driven = h.driven)
          ∧ (∀ q v, h.handed = some q → held q = some v → h.output = some ⟨q, v⟩ →
            output = h.output ∧ ready = h.ready ∧ driven = h.driven)
          ∧ (∀ q v, h.handed = some q → held q = some v → h.output ≠ some ⟨q, v⟩ →
            output = some ⟨q, v⟩ ∧ ready = false ∧ driven = true)
          ∧ (∀ q, h.handed = some q → held q = none → output = none ∧ ready = false ∧ driven = h.driven)))
    ∧ (∀ n event a b t limit (invert edge enable : Bool), n < 4 → a < 256 → b < 256 → t < 256 → limit < 4294967296 →
      s.offers (loadRecord 9 n ([byteOf (CountEvent.code event), byteOf a, byteOf b, byteOf t,
        byteOf ((if invert then 4 else 0) + (if edge then 2 else 0) + if enable then 1 else 0)] ++ be32 limit)) rest →
      exec .loadCounterConfiguration s = .next (s.taken rest { s.blocks with counters := { s.blocks.counters with
        events := put s.blocks.counters.events n
          ⟨event, a, b, t, invert, edge, limit, enable, 0, false, false, false⟩ } }))

/-- R183, R76, R128, R158: a LOAD of a band entry and a LOAD of the limits. A band's max count is taken, or its entry
unloaded, with no board standing, and the record is refused BUSY while one stands and RANGE for a max count of 0, board or
not, which is the model's order of the two refusals (log entry 11). The limits are taken in every state: a make-up limit
above 7 as 7, and while a board stands no lower than the highest make-up count of its window, a dwell limit of 0 as 1; a
dwell limit above 64 or a choice above 2 is refused RANGE. -/
def Obligations.BandsAndLimitsLoad : Prop :=
  ∀ (rest : List Record) (s : State),
    (∀ i top, i < 128 → 1 ≤ top → top < 65536 → s.offers (loadRecord 4 i (0#8 :: be16 top)) rest →
      (s.blocks.board.phase = .none → exec .loadBand s = .next (s.taken rest { s.blocks with
        verifier := { s.blocks.verifier with bands := put s.blocks.verifier.bands i (some top) } }))
      ∧ (s.blocks.board.phase ≠ .none →
        exec .loadBand s = .next (s.answered rest (refusal 0x10#8 .busy .none))))
    ∧ (∀ i x, i < 128 → x < 65536 → s.blocks.board.phase = .none → s.offers (loadRecord 4 i (1#8 :: be16 x)) rest →
      exec .loadBand s = .next (s.taken rest { s.blocks with
        verifier := { s.blocks.verifier with bands := put s.blocks.verifier.bands i none } }))
    ∧ (∀ i, i < 128 → s.offers (loadRecord 4 i [0#8, 0#8, 0#8]) rest →
      exec .loadBand s = .next (s.answered rest (refusal 0x10#8 .range .none)))
    ∧ ∀ m w n c, m < 256 → w < 256 → n < 256 → c < 256 →
        s.offers (loadRecord 10 0 [byteOf m, byteOf w, byteOf n, byteOf c]) rest →
        (64 < w ∨ 2 < c → exec .loadLimits s = .next (s.answered rest (refusal 0x10#8 .range .none)))
        ∧ (w ≤ 64 → c ≤ 2 → ∃ limit, exec .loadLimits s = .next (s.taken rest { s.blocks with
              planner := { s.blocks.planner with makeUpLimit := limit }
              head := { s.blocks.head with dwellLimit := if w = 0 then 1 else w }
              verifier := { s.blocks.verifier with shortLimit := n }
              shaft := { s.blocks.shaft with
                resumeChoice := if c = 0 then .reinsert else if c = 1 then .accept else .mark } })
            ∧ (s.blocks.board.phase = .none → limit = min m 7)
            ∧ (s.blocks.board.phase ≠ .none → min m 7 ≤ limit ∧ (∀ e ∈ s.blocks.board.window, e.makeUps ≤ limit)
                ∧ (limit = min m 7 ∨ ∃ e ∈ s.blocks.board.window, e.makeUps = limit)))

/-- R37, R39: with the board NONE a LOAD of a kind whose fields lie within the values of Table 3-1, laid out as Table 11-15
says, is taken: the entry holds the fields, its last-used index is the index of its last source and its NO SOURCE flag clear;
an unload request leaves the entry unloaded with the last-used index 3. Nothing else changes. -/
def Obligations.KindLoads : Prop :=
  ∀ (id : Nat) (k : Kind) (rest : List Record) (s : State), id < 256 → k.fits → s.blocks.board.phase = .none →
    (s.offers (loadRecord 2 id ([byteOf k.mode.code, byteOf k.range, byteOf k.bandStart, byteOf k.bandCount,
          byteOf k.expectedLo, byteOf k.expectedHi]
        ++ (match k.alternate with | some a => [1#8, byteOf a.1, byteOf a.2] | none => [0#8, 0#8, 0#8])
        ++ be16 k.span ++ [byteOf k.profile, byteOf k.policy.code, byteOf k.sources.length]
        ++ (List.range 4).map (fun i => byteOf (k.sources[i]?.getD 0))
        ++ [if k.selection = .fill then 0#8 else 1#8, byteOf (k.pin.getD 255), byteOf k.statistics])) rest →
      exec .loadKind s = .next (s.taken rest { s.blocks with source := { s.blocks.source with
        kinds := put s.blocks.source.kinds id ⟨some k, k.sources.length - 1, false⟩ } }))
    ∧ (∀ xs, xs.length = 20 → s.offers (loadRecord 2 id (0x80#8 :: xs)) rest →
      exec .loadKind s = .next (s.taken rest { s.blocks with source := { s.blocks.source with
        kinds := put s.blocks.source.kinds id ⟨none, 3, false⟩ } }))

/-- R40, R41, R45: a LOAD of a dispenser entry, nothing being planned, replaces its fields and refills the reel: full and
LOADED, OPERATIONAL, every flag and count clear; every other dispenser, the board, the chain and the alarms stay. A threshold
at or above the capacity is taken as the capacity, and the reel is then LOW: REEL LOW, code 26, occurs with the dispenser, and
REEL LOW reported is set. While a board stands a change of installed or D is refused BUSY. -/
def Obligations.DispenserLoads : Prop :=
  ∀ (id offset capacity threshold : Nat) (installed enabled : Bool) (rest : List Record) (s : State), id < 96 →
    3 ≤ offset → offset ≤ 238 → 1 ≤ capacity → capacity < 65536 → threshold < 65536 →
    s.offers (loadRecord 3 id ([if installed then 1#8 else 0#8, byteOf offset] ++ be16 capacity ++ be16 threshold
      ++ [if enabled then 1#8 else 0#8])) rest →
    let was := look s.blocks.source.dispensers id
    (s.blocks.board.phase ≠ .none → was.installed ≠ installed ∨ was.offset ≠ offset →
      exec .loadDispenser s = .next (s.answered rest (refusal 0x10#8 .busy (.number id))))
    ∧ (s.blocks.board.phase = .none ∨ (was.installed = installed ∧ was.offset = offset) →
        s.blocks.board.nothingToPlan → threshold < capacity → ∃ t, exec .loadDispenser s = .next t
      ∧ look t.blocks.source.dispensers id = ⟨true, installed, offset, capacity, threshold, enabled, capacity, .loaded,
          .operational, false, 0, 0, false, false, false⟩
      ∧ (∀ e, e ≠ id → look t.blocks.source.dispensers e = look s.blocks.source.dispensers e)
      ∧ t.blocks.board = s.blocks.board ∧ t.blocks.chain = s.blocks.chain ∧ t.blocks.alarm = s.blocks.alarm
      ∧ t.blocks.shaft = s.blocks.shaft ∧ t.link = { s.link with input := rest })
    ∧ (s.blocks.board.phase = .none ∨ (was.installed = installed ∧ was.offset = offset) →
        s.blocks.board.nothingToPlan → capacity ≤ threshold → ∃ t, exec .loadDispenser s = .next t
      ∧ look t.blocks.source.dispensers id = ⟨true, installed, offset, capacity, capacity, enabled, capacity, .low,
          .operational, false, 0, 0, false, true, false⟩
      ∧ look t.blocks.alarm.codes 26 = (look s.blocks.alarm.codes 26).struck ⟨none, some id, none⟩
      ∧ t.link = { s.link with input := rest })

/-- R137: a class loaded for a code from 2 to 31 replaces the class and leaves the code's state, count, context and notice flag.
It is stated for every code that is IDLE, with nothing else changed; for a code that stands it is stated in every state,
whatever the demand then asks of the machine, for the codes from 2 to 27 but 18 and 25, because the demand's own work (a
departure at a brake, a planning pass) can make 18, 25 and 28 to 31 occur at the same event; for these six it is stated with
the machine STOPPED, nothing to plan and no counter enabled. For code 0 or 1 the record is refused FIXED, for a code above
31 or a class above 3 RANGE with the field. -/
def Obligations.ClassLoads : Prop :=
  ∀ (code n : Nat) (rest : List Record) (s : State), code < 256 → n < 256 →
    s.offers (loadRecord 8 code [byteOf n]) rest →
    (code < 2 → exec .loadAlarmClass s = .next (s.answered rest (refusal 0x10#8 .fixed .none)))
    ∧ (31 < code → exec .loadAlarmClass s = .next (s.answered rest (refusal 0x10#8 .range (.field 1))))
    ∧ (2 ≤ code → code ≤ 31 → 3 < n →
      exec .loadAlarmClass s = .next (s.answered rest (refusal 0x10#8 .range (.field 2))))
    ∧ (∀ cls : AlarmClass, 2 ≤ code → code ≤ 31 → n = cls.code → (look s.blocks.alarm.codes code).state = .idle →
      exec .loadAlarmClass s = .next (s.taken rest { s.blocks with alarm := { s.blocks.alarm with
        codes := put s.blocks.alarm.codes code { look s.blocks.alarm.codes code with cls := cls } } }))
    ∧ (∀ cls : AlarmClass, 2 ≤ code → code ≤ 31 → n = cls.code →
      ((code ≤ 27 ∧ code ≠ 18 ∧ code ≠ 25)
        ∨ (s.blocks.shaft.machine = .stopped ∧ s.blocks.board.nothingToPlan ∧ s.blocks.counters.quiet)) →
      ∃ t, exec .loadAlarmClass s = .next t
        ∧ look t.blocks.alarm.codes code = { look s.blocks.alarm.codes code with cls := cls }
        ∧ t.link = { s.link with input := rest })

/-- R183, with R4, R40, R79, R102, R103, R120, R137, R167, R173 and R178: a READ answers with the values as they stand, in the
layout of Tables 11-15 and 11-16, the loaded bit first, and changes nothing else. Every table has its contents stated here but
table 16, the statistics, which CountersClear states. The availability bit of table 11 is for the dispenser's own kinds as the
model reads the words (log entry 12). A table above 17 is refused RANGE with its number, and so is an index outside the range of
any table: above 10 for table 0, above 95 for tables 3 and 11, above 127 for table 4, above 15 for tables 5 and 7, above 31 for
table 8, above 3 for table 9, from L for table 13, above 63 for table 16, and other than 0 for tables 1, 6, 10, 14, 15 and
17. -/
def Obligations.ReadsReply : Prop :=
  ∀ (table index : Nat) (rest : List Record) (s : State), table < 256 → index < 256 →
    s.offers ⟨0x11#8, [byteOf table, byteOf index]⟩ rest →
    let reply := fun (contents : List Byte) =>
      exec .read s = .next (s.answered rest ⟨0x85#8, byteOf table :: byteOf index :: contents⟩)
    let bit := fun (p : Bool) (weight : Nat) => if p then byteOf weight else 0#8
    let r := s.blocks.counters.residency
    (table = 0 → index < 11 → reply ((if (look s.blocks.shaft.cam index).loaded then 1#8 else 0#8)
        :: (be16 (look s.blocks.shaft.cam index).start ++ be16 (look s.blocks.shaft.cam index).stop)))
    ∧ (table = 10 → index = 0 → reply [1#8, byteOf s.blocks.planner.makeUpLimit, byteOf s.blocks.head.dwellLimit,
        byteOf s.blocks.verifier.shortLimit, match s.blocks.shaft.resumeChoice with
          | .reinsert => 0#8 | .accept => 1#8 | .mark => 2#8])
    ∧ (table = 15 → index = 0 → reply (1#8 :: (be32 r.insert ++ be32 r.hole ++ be32 r.dwell ++ be32 r.halted)))
    ∧ (table = 17 → index = 0 → reply (1#8 :: (be16 s.link.framingErrors ++ be16 s.link.crcErrors
        ++ be16 s.link.overrunErrors)))
    -- the entries of the other tables
    ∧ (table = 1 → index = 0 → let c := s.blocks.chain
      reply [bit c.loaded 1, byteOf c.length, byteOf c.verifyOffset, byteOf c.gateOffset])
    ∧ (table = 2 → reply (match s.blocks.source.kind? index with
      | none => 0#8 :: List.replicate 21 0#8
      | some k => [1#8, byteOf (match k.mode with
            | .resistive => 0 | .capacitive => 1 | .diode => 2 | .jumper => 3 | .none => 4),
          byteOf k.range, byteOf k.bandStart, byteOf k.bandCount, byteOf k.expectedLo, byteOf k.expectedHi,
          bit k.alternate.isSome 1, byteOf (k.alternate.getD (0, 0)).1, byteOf (k.alternate.getD (0, 0)).2]
        ++ be16 k.span ++ [byteOf k.profile, match k.policy with | .stop => 0#8 | .mark => 1#8, byteOf k.sources.length]
        ++ (List.range 4).map (fun i => byteOf ((k.sources[i]?).getD 0))
        ++ [match k.selection with | .fill => 0#8 | .spread => 1#8, byteOf (k.pin.getD 255), byteOf k.statistics]))
    ∧ (table = 3 → index < 96 → let e := look s.blocks.source.dispensers index
      reply ([bit e.loaded 1, bit e.installed 1, byteOf e.offset] ++ be16 e.capacity ++ be16 e.threshold
        ++ [bit e.enabled 1]))
    ∧ (table = 4 → index < 128 → let e := look s.blocks.verifier.bands index
      reply (bit e.isSome 1 :: 0#8 :: be16 (e.getD 0)))
    ∧ (table = 5 → index < 16 → let e := look s.blocks.positioner.images index
      reply (1#8 :: bit e.installed 1 :: (be16 e.ox ++ be16 e.oy)))
    ∧ (table = 6 → index = 0 → let c := s.blocks.positioner.config
      reply (bit c.loaded 1 :: (be16 c.kx ++ be16 c.ky ++ be16 c.hx ++ be16 c.hy ++ be16 c.rx ++ be16 c.ry
        ++ beSigned32 c.xMin ++ beSigned32 c.xMax ++ beSigned32 c.yMin ++ beSigned32 c.yMax
        ++ [byteOf c.fine, byteOf c.coarse])))
    ∧ (table = 7 → index < 16 → reply (match look s.blocks.head.profiles index with
      | none => [0#8, 0#8, 0#8, 0#8]
      | some v => [1#8, 0#8, match v.direction with | .inward => 0#8 | .outward => 1#8 | .cutOnly => 2#8, byteOf v.cut]))
    ∧ (table = 8 → index < 32 → let e := look s.blocks.alarm.codes index
      reply ([1#8, match e.cls with | .note => 0#8 | .holdFeed => 1#8 | .stopAtPark => 2#8 | .stopNow => 3#8,
        bit (index ≠ 0 && index ≠ 20 && index ≠ 21 && index ≠ 22) 128 + bit e.noticePending 64
          + (match e.state with | .idle => 0#8 | .active => 16#8 | .latched => 32#8) + bit e.ackPending 8
          + bit e.context.step.isSome 4 + bit e.context.dispenser.isSome 2 + bit e.context.kind.isSome 1,
        byteOf e.count] ++ be16 (e.context.step.getD 0)
        ++ [byteOf (e.context.dispenser.getD 0), byteOf (e.context.kind.getD 0)]))
    ∧ (table = 9 → index < 4 → let c := look s.blocks.counters.events index
      reply ([1#8, byteOf (CountEvent.code c.event), byteOf c.matchA, byteOf c.matchB, byteOf c.threshold,
        bit c.invert 4 + bit c.edge 2 + bit c.enable 1] ++ be32 c.limit))
    ∧ (table = 11 → index < 96 → let e := look s.blocks.source.dispensers index
      reply (1#8 :: (be16 e.count
        ++ [match e.reel with | .loaded => 0#8 | .low => 1#8 | .empty => 2#8,
          match e.condition with | .operational => 0#8 | .proving => 1#8 | .suspect => 2#8,
          byteOf e.missing, byteOf e.badPart,
          bit e.jammed 1 + bit e.proving 2 + bit e.lowReported 4 + bit e.outReported 8
            + bit (s.blocks.source.availableForOwn index) 16])))
    ∧ (table = 12 → let e := look s.blocks.source.kinds index
      let ids := match e.entry with
        | none => []
        | some k => k.sources.filter fun d => s.blocks.source.available d k
      reply ([1#8, byteOf e.lastUsed, bit e.noSource 1, byteOf ids.length]
        ++ (List.range 4).map (fun i => byteOf ((ids[i]?).getD 255))))
    ∧ (table = 13 → index < s.blocks.chain.length → let pitch := byteOf (s.blocks.chain.pitchAt index)
      reply (match s.blocks.chain.slotAt index with
      | .empty => 1#8 :: pitch :: List.replicate 9 0#8
      | .reserved n d => [1#8, pitch, 1#8, 3#8] ++ be16 n ++ [byteOf d, 0#8, 0#8, 0#8, 0#8]
      | .occupied o => [1#8, pitch, 2#8, bit o.step.isSome 1 + bit o.source.isSome 2 + bit o.kind.isSome 4]
        ++ be16 (o.step.getD 0) ++ [byteOf (o.source.getD 0), byteOf (o.kind.getD 0),
          match o.verify with | .unmeasured => 0#8 | .passed => 1#8 | .failed => 2#8,
          match o.disposition with | .insert => 0#8 | .divert => 1#8 | .strip => 2#8,
          match o.reason with
            | none => 0#8 | some .verify => 1#8 | some .missing => 2#8 | some .stray => 3#8 | some .deselected => 4#8
            | some .purge => 5#8 | some .orphan => 6#8 | some .tier => 7#8 | some .gateFail => 8#8]))
    ∧ (table = 14 → index = 0 → reply (1#8 :: (List.range 4).flatMap fun n =>
        let c := look s.blocks.counters.events n
        be32 c.value ++ [bit c.occurred 1 + bit c.previous 2 + bit c.limitReported 4]))
    ∧ (17 < table → exec .read s = .next (s.answered rest (refusal 0x11#8 .range (.number table))))
    ∧ (∀ entries, (table, entries) ∈ [(0, 11), (1, 1), (3, 96), (4, 128), (5, 16), (6, 1), (7, 16), (8, 32), (9, 4), (10, 1),
          (11, 96), (13, s.blocks.chain.length), (14, 1), (15, 1), (16, 64), (17, 1)] → entries ≤ index →
        exec .read s = .next (s.answered rest (refusal 0x11#8 .range (.number index))))

/-! ## Counters -/

/-- R168, R171: a report reaches an enabled counter of its event that matches it: stated for the STRIP report of a component
that names no step and no source, and for the ALARM OCCURRENCE of FEED ERROR, code 27, with one counter enabled. It matches
when match A or B is its kind or code or 255, a kind of none through 255 only. With edge clear it adds 1; with edge set it
sets occurred and adds nothing. An addition goes no higher than 2^32 − 1, and the one that leaves the value at or above a
limit that is not 0, limit reported being clear, sets limit reported and raises COUNTER LIMIT, code 28 to 31, with no
context; that occurrence is itself counted by a counter that matches it, and raises no second one.
R169, R170: at an index completion CHAIN OCCUPANCY, QUEUE DEPTH and FRONTIER are sampled: threshold 0 adds the sample, another
adds 1 when the sample is at or above it, or below it with invert. With edge set the condition, for a simple event "occurred",
or with invert "not occurred", counts when it held at the completion before too, and becomes previous condition; occurred is
cleared. Stated with these codes of class NOTE, and for counters that do not count alarm occurrences.
R172, R175: CLEAR COUNTERS sets every event counter's value to 0 and clears its three flags, keeps the configurations, and
changes nothing else. CLEAR STATISTICS sets every count of all 64 blocks to 0 in every state and leaves everything else; a READ
of table 16 names a block and answers its four counts, and a block number above 63 is refused RANGE; after a power-on reset
every count is 0, and a link reset keeps them. -/
def Obligations.CountersClear : Prop :=
  let passes := fun (c : EventCounter) (tag : Option Nat) =>
    decide (c.matchA = 255) || decide (c.matchB = 255) || (match tag with
      | some k => decide (c.matchA = k) || decide (c.matchB = k)
      | none => false)
  let reaches := fun (c : EventCounter) (k : Nat) =>
    decide (c.limit ≠ 0) && decide (c.limit ≤ min (c.value + k) 4294967295) && !c.limitReported
  let added := fun (c : EventCounter) (k : Nat) =>
    { c with value := min (c.value + k) 4294967295, limitReported := c.limitReported || reaches c k }
  -- counter `n` has taken the addition, if any, and then the change of its flags; its code follows (R171)
  let counted := fun (s t : State) (n : Nat) (k : Option Nat) (f : EventCounter → EventCounter) =>
    let c := look s.blocks.counters.events n
    look t.blocks.counters.events n = f (match k with | some k => added c k | none => c)
      ∧ look t.blocks.alarm.codes (28 + n) =
          (if (match k with | some k => reaches c k | none => false) = true then
            (look s.blocks.alarm.codes (28 + n)).struck ⟨none, none, none⟩ else look s.blocks.alarm.codes (28 + n))
  let notes := fun (s : State) => ∀ n, n < 4 → (look s.blocks.alarm.codes (28 + n)).cls = .note
  let follows := fun (s : State) (n : Nat) =>
    (look s.blocks.counters.events n).event ≠ .alarmOccurrence ∨ (look s.blocks.counters.events n).enable = false
  -- a report: a STRIP
  (∀ (pitch : Nat) (o : Component) (s : State), s.blocks.chain.stripPending = some pitch →
    s.blocks.chain.slotOf pitch = .occupied o → o.nameless → s.blocks.planner.freeze = false → notes s →
    ∃ t, exec .stripSensorPulse s = .next t ∧ t.blocks.chain.slotOf pitch = .empty
      ∧ ∀ n, n < 4 → follows s n →
        let c := look s.blocks.counters.events n
        if c.enable = true ∧ c.event = .strip ∧ passes c o.kind = true then
          (if c.edge then counted s t n none fun e => { e with occurred := true } else counted s t n (some 1) id)
        else counted s t n none id)
  -- an ALARM OCCURRENCE, and the one that a limit makes of its own
  ∧ (∀ (n : Nat) (s : State), n < 4 → s.link.receiver.phase ≠ .hunt → notes s →
    (look s.blocks.alarm.codes 27).cls = .note →
    (∀ m, m < 4 → m ≠ n → (look s.blocks.counters.events m).enable = false) →
    let c := look s.blocks.counters.events n
    c.event = .alarmOccurrence → ∃ t, exec .linkGapTimeout s = .next t
      ∧ (∀ m, m < 4 → m ≠ n → look t.blocks.counters.events m = look s.blocks.counters.events m)
      ∧ (c.enable = false ∨ passes c (some 27) = false → counted s t n none id)
      ∧ (c.enable = true → passes c (some 27) = true → c.edge = true → counted s t n none fun e => { e with occurred := true })
      ∧ (c.enable = true → passes c (some 27) = true → c.edge = false → counted s t n (some 1) fun e =>
          if reaches c 1 = true ∧ passes c (some (28 + n)) = true then added e 1 else e))
  -- an index completion
  ∧ (∀ (station : Station) (s : State), s.blocks.meets .index false → s.blocks.shaft.advance = true →
    s.blocks.chain.indexSeen = true → s.blocks.chain.stripPending = none →
    (s.blocks.board.nothingToPlan ∨ s.blocks.plansNothing) → notes s →
    let chain := s.blocks.chain
    let used := fun (j : Nat) => j < chain.length ∧ chain.slotAt j ≠ .empty
    ∃ t, exec (.encoderSample true false station) s = .next t ∧ t.blocks.chain = chain
      ∧ ∀ n, n < 4 → follows s n →
        let c := look s.blocks.counters.events n
        let sampled := fun (v : Nat) =>
          (c.event = .chainOccupancy ∧ v = chain.slots.countP fun x => match x with
            | .occupied _ => true | .reserved _ _ => false | .empty => false)
          ∨ (c.event = .queueDepth ∧ v = s.blocks.board.window.countP fun e => decide (e.state = .queued))
          ∨ (c.event = .frontier ∧ (∀ j, used j → j < v) ∧ (v = 0 ∨ used (v - 1)))
        let decided := fun (condition : Bool) (f : EventCounter → EventCounter) =>
          counted s t n (if condition && c.previous then some 1 else none) fun e => f { e with previous := condition }
        let occupancy := c.event = .chainOccupancy ∨ c.event = .queueDepth ∨ c.event = .frontier
        (c.enable = false ∨ c.event = .none ∨ (¬ occupancy ∧ c.edge = false) → counted s t n none id)
        ∧ (c.enable = true → c.event ≠ .none → ¬ occupancy → c.edge = true →
            decided (c.occurred != c.invert) fun e => { e with occurred := false })
        ∧ (∀ v, c.enable = true → sampled v →
          let condition : Bool := (if c.threshold = 0 then decide (0 < v) else decide (c.threshold ≤ v)) != c.invert
          (c.edge = true → decided condition id)
          ∧ (c.edge = false → c.threshold = 0 → counted s t n (some v) id)
          ∧ (c.edge = false → c.threshold ≠ 0 → counted s t n (if condition then some 1 else none) id)))
  -- clearing
  ∧ (∀ (argument : Byte) (rest : List Record) (s : State), s.offers (controlRecord 6 argument) rest →
    ∃ events, exec .clearCounters s = .next (s.taken rest { s.blocks with
        counters := { s.blocks.counters with events := events } })
      ∧ ∀ n, n < 4 → look events n = { look s.blocks.counters.events n with
          value := 0, occurred := false, previous := false, limitReported := false })
  ∧ (∀ (argument : Byte) (rest : List Record) (s : State), s.offers (controlRecord 5 argument) rest →
    ∃ blocks, exec .clearStatistics s = .next (s.taken rest { s.blocks with
        counters := { s.blocks.counters with statistics := blocks } })
      ∧ ∀ n, n < 64 → look blocks n = ⟨0, 0, 0, 0⟩)
  ∧ (∀ (n : Nat) (rest : List Record) (s : State), n < 256 → s.offers ⟨0x11#8, [16#8, byteOf n]⟩ rest →
    let b := look s.blocks.counters.statistics n
    (n < 64 → exec .read s = .next (s.answered rest ⟨0x85#8, 16#8 :: byteOf n :: 1#8 ::
        (be32 b.fired ++ be32 b.inserted ++ be32 b.verifyFail ++ be32 b.misinsert)⟩))
    ∧ (64 ≤ n → exec .read s = .next (s.answered rest (refusal 0x11#8 .range (.number n)))))
  ∧ (∀ (straps : Straps) (levels : LevelLines) (s t : State), exec (.powerOnReset straps levels) s = .next t →
    ∀ n, n < 64 → look t.blocks.counters.statistics n = ⟨0, 0, 0, 0⟩)
  ∧ (∀ s t : State, exec .linkReset s = .next t → t.blocks.counters.statistics = s.blocks.counters.statistics)

/-! ## Run, stop, resume, purge, abort, reset -/

/-- R10, R11, R13: a RUN in STOPPED with a board standing and the demand below STOP-AT-PARK: an UNREGISTERED shaft homes,
its drive DRIVING and no park asked for yet; a REGISTERED one waits, or cycles when work exists, its first index granted
when the transfer point is clear. The START key does the same. Otherwise the record is refused, STATE or ALARMS
OUTSTANDING, and the key changes nothing. -/
def Obligations.RunStarts : Prop :=
  ∀ s : State,
    let sh := s.blocks.shaft
    let started : Blocks :=
      if sh.registered = false then
        { s.blocks with shaft := { sh with machine := .homing, drive := .driving, parkRequested := false } }
      else if s.blocks.chain.work then
        { s.blocks with
          shaft := { sh with machine := .cycling, drive := .driving, parkRequested := false }
          chain := { s.blocks.chain with grant := s.blocks.chain.headClear } }
      else { s.blocks with shaft := { sh with machine := .waiting } }
    let standing := s.blocks.board.phase ≠ .none
    (∀ (argument : Byte) (rest : List Record), s.offers (controlRecord 0 argument) rest →
      (sh.machine = .stopped → standing → s.blocks.alarm.demand < 3 → exec .run s = .next (s.taken rest started))
      ∧ (sh.machine ≠ .stopped ∨ ¬ standing → exec .run s = .next (s.answered rest (refusal 0x12#8 .state .none)))
      ∧ (sh.machine = .stopped → standing → 3 ≤ s.blocks.alarm.demand →
        exec .run s = .next (s.answered rest (refusal 0x12#8 .alarmsOutstanding .none))))
    -- the key, whatever the link holds
    ∧ ∀ headUp : Bool,
      (sh.machine = .stopped → standing → s.blocks.alarm.demand < 3 →
        exec (.panelStart headUp) s = .next { s with blocks := started })
      ∧ (sh.machine ≠ .halted → (sh.machine ≠ .stopped ∨ ¬ standing ∨ 3 ≤ s.blocks.alarm.demand) →
        exec (.panelStart headUp) s = .next s)

/-- R15, R153: a STOP, by record or by key: in STOPPED and HALTED it changes nothing; in WAITING the machine is STOPPED at
once; in CYCLING, RECOVERING and PURGING, and in HOMING with the shaft REGISTERED, the STOP-pending flag is set; in HOMING
with the shaft UNREGISTERED, no revolution being live, the shaft brakes and the machine is STOPPED. Nothing else changes. -/
def Obligations.StopStops : Prop :=
  ∀ s : State, (s.blocks.shaft.machine = .homing → s.blocks.shaft.live = false) →
    let sh := s.blocks.shaft
    let stopped : Blocks := match sh.machine with
      | .stopped | .halted => s.blocks
      | .waiting => { s.blocks with shaft := { sh with machine := .stopped, stopPending := false } }
      | .cycling | .recovering | .purging => { s.blocks with shaft := { sh with stopPending := true } }
      | .homing =>
        if sh.registered then { s.blocks with shaft := { sh with stopPending := true } }
        else { s.blocks with
          shaft := { sh with drive := .held, parkRequested := false, machine := .stopped, stopPending := false }
          chain := { s.blocks.chain with grant := false } }
    (∀ (argument : Byte) (rest : List Record), s.offers (controlRecord 1 argument) rest →
      exec .stop s = .next (s.taken rest stopped))
    ∧ exec .panelStop s = .next { s with blocks := stopped }

/-- R153 to R156: a RESUME in HALTED with no UNCERTAIN step, the lock FREE, the demand below STOP-AT-PARK and a board standing,
is taken. A shaft that is not at park recovers, DRIVING, with purge requested set to the record's flag, and the blocked
planning event's cause is HELD under a hold and MACHINE otherwise (log entry 14); a shaft at park, without the purge flag
and with nothing to plan and no work, waits. The START key in HALTED acts as the RESUME without the flag, the PURGE key as
the one with it. The record is refused RANGE for a choice of 3, STATE outside HALTED, ALARMS
OUTSTANDING with the presented alarm under a demand of STOP-AT-PARK or STOP-NOW, and CONFIG with the failing cam entry where
it would turn the shaft with the board NONE; there the keys are ignored.
R155, R156, R74, R75: in HALTED, a board standing, the demand below STOP-AT-PARK and the shaft not at park, a table lock that
stands is freed when HEAD UP is asserted, and HEAD UP is then awaited no longer; with HEAD UP negated the lock is left in
place, and the machine recovers all the same. The one UNCERTAIN step, nothing being planned and no counter enabled, is decided
by the record's choice, or by the default choice for a key: ACCEPT resolves it INSERTED and MARK MISINSERTED, with the OPERATOR
flag, the tallies and the kind's statistics, and no alarm occurs; REINSERT resolves a step of a bad image SKIPPED-BAD-IMAGE,
returns another to QUEUED with its make-up count one higher within the limit, and beyond it resolves the step FAILED with STEP
FAILED, code 18, which leaves the machine HALTED when its class is STOP-AT-PARK or STOP-NOW. -/
def Obligations.ResumeRecovers : Prop :=
  (∀ s : State, (∀ c ∈ s.blocks.board.window, c.state ≠ .uncertain) → s.blocks.positioner.lock = none →
    let sh := s.blocks.shaft
    let standing := s.blocks.board.phase ≠ .none
    let record := fun (choice : Nat) (purge : Bool) => controlRecord 2 (byteOf (choice + if purge then 128 else 0))
    let recovering := fun (flag : Bool) => { s.blocks with
      shaft := { sh with
        machine := .recovering, purgeRequested := flag, drive := .driving, parkRequested := sh.registered }
      planner := { s.blocks.planner with stopCause := if 2 ≤ s.blocks.alarm.demand then .held else .machine } }
    let waits := fun (t : State) => t.blocks.shaft = { sh with machine := .waiting }
      ∧ t.blocks.chain = s.blocks.chain ∧ t.blocks.board = s.blocks.board ∧ t.blocks.alarm = s.blocks.alarm
    let turns := fun (purge : Bool) => sh.atPark = false ∨ purge = true
    (∀ (headUp purge : Bool) (choice : Nat) (rest : List Record), choice < 4 → s.offers (record choice purge) rest →
      let refused := fun (reason : RefusalReason) (detail : Detail) =>
        exec (.resume headUp) s = .next (s.answered rest (refusal 0x12#8 reason detail))
      (choice = 3 → refused .range .none)
      ∧ (choice < 3 → sh.machine = .halted → s.blocks.alarm.demand < 3 → standing → sh.atPark = false →
        exec (.resume headUp) s = .next (s.taken rest (recovering purge)))
      ∧ (choice < 3 → sh.machine = .halted → s.blocks.alarm.demand < 3 → standing → sh.atPark = true → purge = false →
        s.blocks.board.nothingToPlan → s.blocks.chain.work = false →
        ∃ t, exec (.resume headUp) s = .next t ∧ waits t ∧ t.link = { s.link with input := rest })
      ∧ (choice < 3 → sh.machine ≠ .halted → refused .state .none)
      ∧ (choice < 3 → sh.machine = .halted → 3 ≤ s.blocks.alarm.demand →
        ∃ code, s.blocks.alarm.presented = some code ∧ refused .alarmsOutstanding (.number code))
      ∧ (∀ e, choice < 3 → sh.machine = .halted → s.blocks.alarm.demand < 3 → ¬ standing → turns purge →
        sh.camFails e → refused .config (.entry 0 e)))
    -- the keys in HALTED, whatever the link holds
    ∧ ∀ headUp : Bool, sh.machine = .halted →
      (s.blocks.alarm.demand < 3 → standing → sh.atPark = false →
        exec (.panelStart headUp) s = .next { s with blocks := recovering false }
          ∧ exec (.panelPurge headUp) s = .next { s with blocks := recovering true })
      ∧ (s.blocks.alarm.demand < 3 → standing → sh.atPark = true → s.blocks.board.nothingToPlan →
        s.blocks.chain.work = false → ∃ t, exec (.panelStart headUp) s = .next t ∧ waits t ∧ t.link = s.link)
      ∧ (3 ≤ s.blocks.alarm.demand → exec (.panelStart headUp) s = .next s ∧ exec (.panelPurge headUp) s = .next s)
      ∧ (∀ e, s.blocks.alarm.demand < 3 → ¬ standing → sh.camFails e → exec (.panelPurge headUp) s = .next s
        ∧ (sh.atPark = false → exec (.panelStart headUp) s = .next s)))
  -- a lock that stands, and an UNCERTAIN step
  ∧ (∀ (headUp purge : Bool) (choice : Nat) (s : State), choice < 3 → s.blocks.shaft.machine = .halted →
    s.blocks.alarm.demand < 3 → s.blocks.board.phase ≠ .none → s.blocks.shaft.atPark = false →
    let sh := s.blocks.shaft
    let lock := s.blocks.positioner.lock
    let leaves := fun (t : State) (flag : Bool) => t.blocks.shaft = { sh with
      machine := .recovering, purgeRequested := flag, drive := .driving, parkRequested := sh.registered }
    let released := fun (t : State) => t.blocks.positioner.lock = (if headUp then none else lock)
      ∧ t.blocks.head.upAwaited = (s.blocks.head.upAwaited && !(headUp && lock.isSome))
      ∧ t.blocks.chain = s.blocks.chain ∧ t.blocks.source = s.blocks.source
    let taken := fun (after : State → Bool → Prop) =>
      (∀ rest : List Record, s.offers (controlRecord 2 (byteOf (choice + if purge then 128 else 0))) rest →
        ∃ t, exec (.resume headUp) s = .next t ∧ t.link = { s.link with input := rest } ∧ after t purge)
      ∧ (choice = (match sh.resumeChoice with | .reinsert => 0 | .accept => 1 | .mark => 2) →
        (∃ t, exec (.panelStart headUp) s = .next t ∧ t.link = s.link ∧ after t false)
        ∧ ∃ t, exec (.panelPurge headUp) s = .next t ∧ t.link = s.link ∧ after t true)
    ((∀ c ∈ s.blocks.board.window, c.state ≠ .uncertain) → taken fun t flag => released t ∧ leaves t flag
      ∧ t.blocks.board = s.blocks.board ∧ t.blocks.alarm = s.blocks.alarm)
    ∧ (∀ c, c ∈ s.blocks.board.window → c.state = .uncertain →
      (∀ e ∈ s.blocks.board.window, e.state = .uncertain → e = c) → s.blocks.board.sound →
      s.blocks.board.nothingToPlan → s.blocks.counters.quiet →
      let was := s.blocks.board.tallies
      let decided := fun (t : State) (e : StepContext) (o : StepOutcome) (tallies : Tallies) => released t
        ∧ t.blocks.board = s.blocks.board.withResolved e o { tallies with makeUps := was.makeUps + c.makeUps }
      let stays := fun (t : State) (flag : Bool) => leaves t flag ∧ t.blocks.alarm = s.blocks.alarm
      let counts := fun (t : State) (f : Statistics → Statistics) => ∀ k, s.blocks.source.kind? c.kind = some k →
        k.statistics < 64 → look t.blocks.counters.statistics k.statistics =
          f (look s.blocks.counters.statistics k.statistics)
      let good := s.blocks.board.goodMask.getLsbD c.image
      let within := c.makeUps + 1 ≤ s.blocks.planner.makeUpLimit
      let cls := (look s.blocks.alarm.codes 18).cls
      (choice = 1 → taken fun t flag => stays t flag
        ∧ decided t { c with operator := true } .inserted { was with inserted := was.inserted + 1 }
        ∧ counts t fun e => { e with inserted := min (e.inserted + 1) 4294967295 })
      ∧ (choice = 2 → taken fun t flag => stays t flag
        ∧ decided t { c with operator := true } .misinserted { was with misinserted := was.misinserted + 1 }
        ∧ counts t fun e => { e with misinsert := min (e.misinsert + 1) 4294967295 })
      ∧ (choice = 0 → good = false → taken fun t flag => stays t flag
        ∧ decided t { c with badImage := true } .skippedBadImage { was with skipped := was.skipped + 1 })
      ∧ (choice = 0 → good = true → within → taken fun t flag => stays t flag ∧ released t
        ∧ t.blocks.board = s.blocks.board.withContext (c.returned true))
      ∧ (choice = 0 → good = true → ¬ within → taken fun t flag =>
        decided t c .failed { was with failed := was.failed + 1 } ∧ t.blocks.alarm.elsewhere s.blocks.alarm [18]
          ∧ look t.blocks.alarm.codes 18 =
              (look s.blocks.alarm.codes 18).struck ⟨some c.number, c.source, some c.kind⟩
          ∧ (cls = .stopAtPark ∨ cls = .stopNow → t.blocks.shaft = sh)
          ∧ (cls = .note ∨ cls = .holdFeed → leaves t flag))))

/-- R159, R160: a purge asked for by record or by the PURGE key in STOPPED or WAITING, the demand below STOP-AT-PARK and, with
the board NONE, the cam table passing R5, with nothing to plan: when a slot is OCCUPIED every OCCUPIED slot is marked PURGE,
DIVERT at offsets of G and above and STRIP below, an unresolved step that one of them names is DIVERTING or STRIPPING with it
and keeps its slot, every other step stays, the freeze is set and the machine is PURGING, DRIVING, with the first index granted
when the marked transfer point is clear; when none is, the machine state, the chain and the freeze's clearing are all that is
left, and the board stays. The record is refused STATE in another machine state, ALARMS OUTSTANDING under a demand of
STOP-AT-PARK or STOP-NOW, and CONFIG with the failing cam entry with the board NONE. The key is ignored where the record would be
refused, and in HOMING and CYCLING; that it is ignored in RECOVERING and PURGING too is R153's. -/
def Obligations.PurgeMarksTheChain : Prop :=
  ∀ s : State,
    let sh := s.blocks.shaft
    let rests := sh.machine = .stopped ∨ sh.machine = .waiting
    let standing := s.blocks.board.phase ≠ .none
    let marked : Chain := { s.blocks.chain with slots := s.blocks.chain.slots.mapIdx (fun pitch slot => match slot with
      | .occupied o => .occupied { o with
          disposition := if s.blocks.chain.gateOffset ≤ s.blocks.chain.offsetOf pitch then .divert else .strip
          reason := some .purge }
      | .reserved n d => .reserved n d
      | .empty => .empty) }
    let purging := fun (t : State) =>
      t.blocks.shaft = { sh with machine := .purging, drive := .driving, parkRequested := false }
        ∧ t.blocks.planner.freeze = true ∧ t.blocks.chain = { marked with grant := marked.headClear }
        ∧ t.blocks.alarm = s.blocks.alarm ∧ t.blocks.source = s.blocks.source
        ∧ t.blocks.positioner.lock = s.blocks.positioner.lock
        ∧ (∀ pitch o c, s.blocks.chain.slotOf pitch = .occupied o → o.step = some c.number →
          (∀ q, q < s.blocks.chain.slots.length → (s.blocks.chain.slotOf q).step? = some c.number → q = pitch) →
          s.blocks.board.context? c.number = some c → t.blocks.board.context? c.number = some (
            if c.state = .resolved then c
            else if s.blocks.chain.gateOffset ≤ s.blocks.chain.offsetOf pitch then { c with state := .diverting }
            else { c with state := .stripping }))
        ∧ (∀ n, (∀ slot ∈ s.blocks.chain.slots, slot.step? ≠ some n) →
          t.blocks.board.context? n = s.blocks.board.context? n)
    let quiet := fun (t : State) => t.blocks.chain = s.blocks.chain ∧ t.blocks.planner.freeze = false
      ∧ t.blocks.shaft = sh ∧ t.blocks.alarm = s.blocks.alarm ∧ t.blocks.board = s.blocks.board
    let passes := rests ∧ s.blocks.alarm.demand < 3 ∧ (¬ standing → sh.camPasses) ∧ s.blocks.board.nothingToPlan
    (∀ (argument : Byte) (rest : List Record), s.offers (controlRecord 3 argument) rest →
      let refused := fun (reason : RefusalReason) (detail : Detail) =>
        exec .purge s = .next (s.answered rest (refusal 0x12#8 reason detail))
      (passes → s.blocks.chain.occupiedCount ≠ 0 →
        ∃ t, exec .purge s = .next t ∧ purging t ∧ t.link = { s.link with input := rest })
      ∧ (passes → s.blocks.chain.occupiedCount = 0 →
        ∃ t, exec .purge s = .next t ∧ quiet t ∧ t.link = { s.link with input := rest })
      ∧ (¬ rests → refused .state .none) ∧ (rests → 3 ≤ s.blocks.alarm.demand → refused .alarmsOutstanding .none)
      ∧ (∀ e, rests → s.blocks.alarm.demand < 3 → ¬ standing → sh.camFails e → refused .config (.entry 0 e)))
    -- the key, whatever the link holds
    ∧ ∀ headUp : Bool,
      (passes → s.blocks.chain.occupiedCount ≠ 0 →
        ∃ t, exec (.panelPurge headUp) s = .next t ∧ purging t ∧ t.link = s.link)
      ∧ (passes → s.blocks.chain.occupiedCount = 0 →
        ∃ t, exec (.panelPurge headUp) s = .next t ∧ quiet t ∧ t.link = s.link)
      ∧ (∀ e, rests → 3 ≤ s.blocks.alarm.demand ∨ (¬ standing ∧ sh.camFails e) →
        exec (.panelPurge headUp) s = .next s)
      ∧ (¬ rests → sh.machine ≠ .halted → exec (.panelPurge headUp) s = .next s)

/-- R163, R164, R28: an ABORT BOARD makes the board CLOSING with the end status ABORTED and resolves every unresolved step
ABORTED, in every state of the steps: each joins the report order in ascending number, the aborted tally rises by their
number and the make-up tally by theirs, and a resolved context stays as it is. The head's record, the shaft and the alarms
stay, and so does every slot that names no PLANNED, FIRED, VERIFIED, DIVERTING or STRIPPING step.
Of a step that one slot names: the RESERVED slot of a PLANNED step is EMPTY, its dispenser's proving-in-flight flag is clear,
and the step has no source; the OCCUPIED slot of a FIRED, VERIFIED, DIVERTING or STRIPPING step names no step and keeps its
source, kind and verify state, with its disposition and reason when the reason is PURGE, and otherwise with reason ORPHAN and
disposition DIVERT at offsets of G and above or STRIP below. With no such step the chain map stays whole. With the board NONE
the record is refused NO BOARD. -/
def Obligations.AbortResolvesSteps : Prop :=
  ∀ (argument : Byte) (rest : List Record) (s : State), s.offers (controlRecord 4 argument) rest →
    (s.blocks.board.phase = .none → exec .abortBoard s = .next (s.answered rest (refusal 0x12#8 .noBoard .none)))
    ∧ (s.blocks.board.phase ≠ .none → s.blocks.board.sound →
      let d := s.blocks.board
      let open_ := d.window.filter (fun c => decide (c.state ≠ .resolved))
      let onChain := fun (c : StepContext) => decide (c.state = .fired) || decide (c.state = .verified)
        || decide (c.state = .diverting) || decide (c.state = .stripping)
      let names := fun (pitch : Nat) (c : StepContext) => (s.blocks.chain.slotOf pitch).step? = some c.number
        ∧ ∀ q, q < s.blocks.chain.slots.length → (s.blocks.chain.slotOf q).step? = some c.number → q = pitch
      ∃ t, exec .abortBoard s = .next t ∧ t.link = { s.link with input := rest }
        ∧ t.blocks.board.phase = .closing ∧ t.blocks.board.endStatus = .aborted
        ∧ t.blocks.board.window.map StepContext.number = d.window.map StepContext.number
        ∧ t.blocks.board.reportOrder = d.reportOrder ++ open_.map StepContext.number
        ∧ t.blocks.board.tallies = { d.tallies with
            aborted := d.tallies.aborted + open_.length, makeUps := d.tallies.makeUps + (open_.map StepContext.makeUps).sum }
        ∧ t.blocks.head.record = s.blocks.head.record ∧ t.blocks.head.inhibit = s.blocks.head.inhibit
        ∧ t.blocks.positioner.lock = s.blocks.positioner.lock ∧ t.blocks.shaft = s.blocks.shaft
        ∧ t.blocks.alarm = s.blocks.alarm
        ∧ ((∀ c ∈ d.window, c.state ≠ .planned ∧ onChain c = false) →
            t.blocks.chain = s.blocks.chain ∧ t.blocks.head = s.blocks.head ∧ t.blocks.source = s.blocks.source)
        ∧ (∀ c ∈ d.window, c.state ≠ .planned →
            t.blocks.board.context? c.number = some (if c.state = .resolved then c else c.ended .aborted))
        ∧ (∀ pitch, pitch < s.blocks.chain.slots.length →
            (∀ c ∈ d.window, (s.blocks.chain.slotOf pitch).step? = some c.number →
              c.state ≠ .planned ∧ onChain c = false) →
            t.blocks.chain.slotOf pitch = s.blocks.chain.slotOf pitch)
        ∧ (∀ pitch n e, s.blocks.chain.slotOf pitch = .reserved n e → ∀ c ∈ d.window, c.number = n → names pitch c →
            c.state = .planned → t.blocks.chain.slotOf pitch = .empty
              ∧ t.blocks.board.context? n = some { c.ended .aborted with source := none, dwell := 0 }
              ∧ (look t.blocks.source.dispensers e).proving = false)
        ∧ (∀ pitch o, s.blocks.chain.slotOf pitch = .occupied o → ∀ c ∈ d.window, names pitch c → onChain c = true →
            t.blocks.chain.slotOf pitch = .occupied (if o.reason = some .purge then { o with step := none }
              else { o with
                step := none, reason := some .orphan
                disposition := if s.blocks.chain.gateOffset ≤ s.blocks.chain.offsetOf pitch then .divert else .strip })))

/-- R165, R180, R184 and the rules of the blocks it resets (R18, R19, R58, R78, R80, R98, R118, R136, R151): a CONTROL RESET is
taken as the oldest record, ahead of older STEPs that a full window holds back, and, when no place is free, ahead of every
older record. The board is NONE and the window empty, the machine STOPPED and
HELD with no revolution live, every slot EMPTY, no target held and the lock FREE, the outputs released, every code IDLE with
count 0 or, with its line asserted, ACTIVE with count 1 and a notice; angle, tables, reel counts and target number are kept, and
so are all the counters, for the reset makes no alarm occurrence: that the appearances are not reported is the model's reading
(log entry 48). The buffer holds the records younger than the RESET, and the queue only a record being sent. That the stop cause
stays EMPTY is the model's reading (log entry 25), and so is that a RESET of a wrong length among the older records waits (log
entry 50). -/
def Obligations.LinkResetResets : Prop :=
  ∀ (argument : Byte) (older younger : List Record) (s : State),
    s.link.input = older ++ controlRecord 7 argument :: younger →
    (64 ≤ s.link.upstream.length ∨ older = [] ∨ (256 ≤ s.blocks.board.window.length ∧ ∀ r ∈ older, r.type = 0x02#8)) →
    (∀ r ∈ older, ∀ x, r ≠ controlRecord 7 x) →
    let asserted : Nat → Bool := fun code => (code == 0 && s.levels.eStop) || (code == 20 && s.levels.guardOpen)
      || (code == 21 && s.levels.airLow) || (code == 22 && s.levels.binFull)
    ∃ t, exec .linkReset s = .next t
      ∧ t.link = { s.link with
          input := younger, upstream := if s.link.sending then s.link.upstream.take 1 else [] }
      ∧ t.blocks.board.phase = .none ∧ t.blocks.board.window = [] ∧ t.blocks.board.expectedStep = 0
      ∧ t.blocks.shaft.machine = .stopped ∧ t.blocks.shaft.drive = .held ∧ t.blocks.shaft.live = false
      ∧ t.blocks.shaft.stopPending = false ∧ (∀ w : Window, t.blocks.shaft.isOpen w = false)
      ∧ t.blocks.shaft.angle = s.blocks.shaft.angle ∧ t.blocks.shaft.distance = s.blocks.shaft.distance
      ∧ t.blocks.shaft.registered = s.blocks.shaft.registered ∧ t.blocks.shaft.cam = s.blocks.shaft.cam
      ∧ (∀ p, t.blocks.chain.slotOf p = .empty) ∧ t.blocks.chain.pointer = s.blocks.chain.pointer
      ∧ t.blocks.chain.grant = false ∧ t.blocks.chain.stripPending = none ∧ t.blocks.chain.gatePending = none
      ∧ t.blocks.chain.gateFire = false ∧ t.blocks.verifier.running = none
      ∧ t.blocks.positioner.target = none ∧ t.blocks.positioner.lock = none
      ∧ t.blocks.positioner.lockKind = none
      ∧ t.blocks.positioner.targetNumber = s.blocks.positioner.targetNumber
      ∧ t.blocks.positioner.images = s.blocks.positioner.images ∧ t.blocks.head.record = none
      ∧ t.blocks.head.output = none ∧ t.blocks.head.inhibit = true ∧ t.blocks.head.profiles = s.blocks.head.profiles
      ∧ (∀ d, d < 96 →
          let was := look s.blocks.source.dispensers d
          look t.blocks.source.dispensers d = { was with
            jammed := false, missing := 0, badPart := 0, proving := false, lowReported := false, outReported := false })
      ∧ t.blocks.source.frame = s.blocks.source.frame ∧ t.blocks.source.outstanding = none
      ∧ t.blocks.verifier.bands = s.blocks.verifier.bands ∧ t.blocks.verifier.faultRun = []
      ∧ t.blocks.planner = { s.blocks.planner with freeze := false, stopCause := .empty }
      ∧ (∀ code, code < 32 → (look t.blocks.alarm.codes code).cls = (look s.blocks.alarm.codes code).cls
          ∧ (look t.blocks.alarm.codes code).context = ⟨none, none, none⟩
          ∧ (look t.blocks.alarm.codes code).ackPending = false
          ∧ (look t.blocks.alarm.codes code).noticePending = asserted code
          ∧ (look t.blocks.alarm.codes code).state = (if asserted code then .active else .idle)
          ∧ (look t.blocks.alarm.codes code).count = (if asserted code then 1 else 0))
      ∧ t.blocks.counters = s.blocks.counters

end
end

