-- ==== Sys2Proof/Laws/State.lean ====
section
/-! SUPPORT. Laws/State.lean: what each update of the state leaves in each field, one lemma per field per update, so that no
later proof unfolds a record update. -/

namespace Sys2Proof.Machine

variable (b : Blocks) (s : State)

/-! ### `Blocks.onShaft` -/

@[simp] theorem Blocks.onShaft_shaft (f : Shaft → Shaft) : (b.onShaft f).shaft = f b.shaft := rfl
@[simp] theorem Blocks.onShaft_board (f : Shaft → Shaft) : (b.onShaft f).board = b.board := rfl
@[simp] theorem Blocks.onShaft_source (f : Shaft → Shaft) : (b.onShaft f).source = b.source := rfl
@[simp] theorem Blocks.onShaft_planner (f : Shaft → Shaft) : (b.onShaft f).planner = b.planner := rfl
@[simp] theorem Blocks.onShaft_chain (f : Shaft → Shaft) : (b.onShaft f).chain = b.chain := rfl
@[simp] theorem Blocks.onShaft_verifier (f : Shaft → Shaft) : (b.onShaft f).verifier = b.verifier := rfl
@[simp] theorem Blocks.onShaft_positioner (f : Shaft → Shaft) : (b.onShaft f).positioner = b.positioner := rfl
@[simp] theorem Blocks.onShaft_head (f : Shaft → Shaft) : (b.onShaft f).head = b.head := rfl
@[simp] theorem Blocks.onShaft_alarm (f : Shaft → Shaft) : (b.onShaft f).alarm = b.alarm := rfl
@[simp] theorem Blocks.onShaft_counters (f : Shaft → Shaft) : (b.onShaft f).counters = b.counters := rfl
@[simp] theorem Blocks.onShaft_time (f : Shaft → Shaft) : (b.onShaft f).time = b.time := rfl
@[simp] theorem Blocks.onShaft_sent (f : Shaft → Shaft) : (b.onShaft f).sent = b.sent := rfl

/-! ### `Blocks.onBoard` -/

@[simp] theorem Blocks.onBoard_shaft (f : Board → Board) : (b.onBoard f).shaft = b.shaft := rfl
@[simp] theorem Blocks.onBoard_board (f : Board → Board) : (b.onBoard f).board = f b.board := rfl
@[simp] theorem Blocks.onBoard_source (f : Board → Board) : (b.onBoard f).source = b.source := rfl
@[simp] theorem Blocks.onBoard_planner (f : Board → Board) : (b.onBoard f).planner = b.planner := rfl
@[simp] theorem Blocks.onBoard_chain (f : Board → Board) : (b.onBoard f).chain = b.chain := rfl
@[simp] theorem Blocks.onBoard_verifier (f : Board → Board) : (b.onBoard f).verifier = b.verifier := rfl
@[simp] theorem Blocks.onBoard_positioner (f : Board → Board) : (b.onBoard f).positioner = b.positioner := rfl
@[simp] theorem Blocks.onBoard_head (f : Board → Board) : (b.onBoard f).head = b.head := rfl
@[simp] theorem Blocks.onBoard_alarm (f : Board → Board) : (b.onBoard f).alarm = b.alarm := rfl
@[simp] theorem Blocks.onBoard_counters (f : Board → Board) : (b.onBoard f).counters = b.counters := rfl
@[simp] theorem Blocks.onBoard_time (f : Board → Board) : (b.onBoard f).time = b.time := rfl
@[simp] theorem Blocks.onBoard_sent (f : Board → Board) : (b.onBoard f).sent = b.sent := rfl

/-! ### `Blocks.onSource` -/

@[simp] theorem Blocks.onSource_shaft (f : Source → Source) : (b.onSource f).shaft = b.shaft := rfl
@[simp] theorem Blocks.onSource_board (f : Source → Source) : (b.onSource f).board = b.board := rfl
@[simp] theorem Blocks.onSource_source (f : Source → Source) : (b.onSource f).source = f b.source := rfl
@[simp] theorem Blocks.onSource_planner (f : Source → Source) : (b.onSource f).planner = b.planner := rfl
@[simp] theorem Blocks.onSource_chain (f : Source → Source) : (b.onSource f).chain = b.chain := rfl
@[simp] theorem Blocks.onSource_verifier (f : Source → Source) : (b.onSource f).verifier = b.verifier := rfl
@[simp] theorem Blocks.onSource_positioner (f : Source → Source) : (b.onSource f).positioner = b.positioner := rfl
@[simp] theorem Blocks.onSource_head (f : Source → Source) : (b.onSource f).head = b.head := rfl
@[simp] theorem Blocks.onSource_alarm (f : Source → Source) : (b.onSource f).alarm = b.alarm := rfl
@[simp] theorem Blocks.onSource_counters (f : Source → Source) : (b.onSource f).counters = b.counters := rfl
@[simp] theorem Blocks.onSource_time (f : Source → Source) : (b.onSource f).time = b.time := rfl
@[simp] theorem Blocks.onSource_sent (f : Source → Source) : (b.onSource f).sent = b.sent := rfl

/-! ### `Blocks.onPlanner` -/

@[simp] theorem Blocks.onPlanner_shaft (f : Planner → Planner) : (b.onPlanner f).shaft = b.shaft := rfl
@[simp] theorem Blocks.onPlanner_board (f : Planner → Planner) : (b.onPlanner f).board = b.board := rfl
@[simp] theorem Blocks.onPlanner_source (f : Planner → Planner) : (b.onPlanner f).source = b.source := rfl
@[simp] theorem Blocks.onPlanner_planner (f : Planner → Planner) : (b.onPlanner f).planner = f b.planner := rfl
@[simp] theorem Blocks.onPlanner_chain (f : Planner → Planner) : (b.onPlanner f).chain = b.chain := rfl
@[simp] theorem Blocks.onPlanner_verifier (f : Planner → Planner) : (b.onPlanner f).verifier = b.verifier := rfl
@[simp] theorem Blocks.onPlanner_positioner (f : Planner → Planner) : (b.onPlanner f).positioner = b.positioner := rfl
@[simp] theorem Blocks.onPlanner_head (f : Planner → Planner) : (b.onPlanner f).head = b.head := rfl
@[simp] theorem Blocks.onPlanner_alarm (f : Planner → Planner) : (b.onPlanner f).alarm = b.alarm := rfl
@[simp] theorem Blocks.onPlanner_counters (f : Planner → Planner) : (b.onPlanner f).counters = b.counters := rfl
@[simp] theorem Blocks.onPlanner_time (f : Planner → Planner) : (b.onPlanner f).time = b.time := rfl
@[simp] theorem Blocks.onPlanner_sent (f : Planner → Planner) : (b.onPlanner f).sent = b.sent := rfl

/-! ### `Blocks.onChain` -/

@[simp] theorem Blocks.onChain_shaft (f : Chain → Chain) : (b.onChain f).shaft = b.shaft := rfl
@[simp] theorem Blocks.onChain_board (f : Chain → Chain) : (b.onChain f).board = b.board := rfl
@[simp] theorem Blocks.onChain_source (f : Chain → Chain) : (b.onChain f).source = b.source := rfl
@[simp] theorem Blocks.onChain_planner (f : Chain → Chain) : (b.onChain f).planner = b.planner := rfl
@[simp] theorem Blocks.onChain_chain (f : Chain → Chain) : (b.onChain f).chain = f b.chain := rfl
@[simp] theorem Blocks.onChain_verifier (f : Chain → Chain) : (b.onChain f).verifier = b.verifier := rfl
@[simp] theorem Blocks.onChain_positioner (f : Chain → Chain) : (b.onChain f).positioner = b.positioner := rfl
@[simp] theorem Blocks.onChain_head (f : Chain → Chain) : (b.onChain f).head = b.head := rfl
@[simp] theorem Blocks.onChain_alarm (f : Chain → Chain) : (b.onChain f).alarm = b.alarm := rfl
@[simp] theorem Blocks.onChain_counters (f : Chain → Chain) : (b.onChain f).counters = b.counters := rfl
@[simp] theorem Blocks.onChain_time (f : Chain → Chain) : (b.onChain f).time = b.time := rfl
@[simp] theorem Blocks.onChain_sent (f : Chain → Chain) : (b.onChain f).sent = b.sent := rfl

/-! ### `Blocks.onVerifier` -/

@[simp] theorem Blocks.onVerifier_shaft (f : Verifier → Verifier) : (b.onVerifier f).shaft = b.shaft := rfl
@[simp] theorem Blocks.onVerifier_board (f : Verifier → Verifier) : (b.onVerifier f).board = b.board := rfl
@[simp] theorem Blocks.onVerifier_source (f : Verifier → Verifier) : (b.onVerifier f).source = b.source := rfl
@[simp] theorem Blocks.onVerifier_planner (f : Verifier → Verifier) : (b.onVerifier f).planner = b.planner := rfl
@[simp] theorem Blocks.onVerifier_chain (f : Verifier → Verifier) : (b.onVerifier f).chain = b.chain := rfl
@[simp] theorem Blocks.onVerifier_verifier (f : Verifier → Verifier) : (b.onVerifier f).verifier = f b.verifier := rfl
@[simp] theorem Blocks.onVerifier_positioner (f : Verifier → Verifier) : (b.onVerifier f).positioner = b.positioner := rfl
@[simp] theorem Blocks.onVerifier_head (f : Verifier → Verifier) : (b.onVerifier f).head = b.head := rfl
@[simp] theorem Blocks.onVerifier_alarm (f : Verifier → Verifier) : (b.onVerifier f).alarm = b.alarm := rfl
@[simp] theorem Blocks.onVerifier_counters (f : Verifier → Verifier) : (b.onVerifier f).counters = b.counters := rfl
@[simp] theorem Blocks.onVerifier_time (f : Verifier → Verifier) : (b.onVerifier f).time = b.time := rfl
@[simp] theorem Blocks.onVerifier_sent (f : Verifier → Verifier) : (b.onVerifier f).sent = b.sent := rfl

/-! ### `Blocks.onPositioner` -/

@[simp] theorem Blocks.onPositioner_shaft (f : Positioner → Positioner) : (b.onPositioner f).shaft = b.shaft := rfl
@[simp] theorem Blocks.onPositioner_board (f : Positioner → Positioner) : (b.onPositioner f).board = b.board := rfl
@[simp] theorem Blocks.onPositioner_source (f : Positioner → Positioner) : (b.onPositioner f).source = b.source := rfl
@[simp] theorem Blocks.onPositioner_planner (f : Positioner → Positioner) : (b.onPositioner f).planner = b.planner := rfl
@[simp] theorem Blocks.onPositioner_chain (f : Positioner → Positioner) : (b.onPositioner f).chain = b.chain := rfl
@[simp] theorem Blocks.onPositioner_verifier (f : Positioner → Positioner) : (b.onPositioner f).verifier = b.verifier := rfl
@[simp] theorem Blocks.onPositioner_positioner (f : Positioner → Positioner) : (b.onPositioner f).positioner = f b.positioner := rfl
@[simp] theorem Blocks.onPositioner_head (f : Positioner → Positioner) : (b.onPositioner f).head = b.head := rfl
@[simp] theorem Blocks.onPositioner_alarm (f : Positioner → Positioner) : (b.onPositioner f).alarm = b.alarm := rfl
@[simp] theorem Blocks.onPositioner_counters (f : Positioner → Positioner) : (b.onPositioner f).counters = b.counters := rfl
@[simp] theorem Blocks.onPositioner_time (f : Positioner → Positioner) : (b.onPositioner f).time = b.time := rfl
@[simp] theorem Blocks.onPositioner_sent (f : Positioner → Positioner) : (b.onPositioner f).sent = b.sent := rfl

/-! ### `Blocks.onHead` -/

@[simp] theorem Blocks.onHead_shaft (f : Head → Head) : (b.onHead f).shaft = b.shaft := rfl
@[simp] theorem Blocks.onHead_board (f : Head → Head) : (b.onHead f).board = b.board := rfl
@[simp] theorem Blocks.onHead_source (f : Head → Head) : (b.onHead f).source = b.source := rfl
@[simp] theorem Blocks.onHead_planner (f : Head → Head) : (b.onHead f).planner = b.planner := rfl
@[simp] theorem Blocks.onHead_chain (f : Head → Head) : (b.onHead f).chain = b.chain := rfl
@[simp] theorem Blocks.onHead_verifier (f : Head → Head) : (b.onHead f).verifier = b.verifier := rfl
@[simp] theorem Blocks.onHead_positioner (f : Head → Head) : (b.onHead f).positioner = b.positioner := rfl
@[simp] theorem Blocks.onHead_head (f : Head → Head) : (b.onHead f).head = f b.head := rfl
@[simp] theorem Blocks.onHead_alarm (f : Head → Head) : (b.onHead f).alarm = b.alarm := rfl
@[simp] theorem Blocks.onHead_counters (f : Head → Head) : (b.onHead f).counters = b.counters := rfl
@[simp] theorem Blocks.onHead_time (f : Head → Head) : (b.onHead f).time = b.time := rfl
@[simp] theorem Blocks.onHead_sent (f : Head → Head) : (b.onHead f).sent = b.sent := rfl

/-! ### `Blocks.onAlarm` -/

@[simp] theorem Blocks.onAlarm_shaft (f : Alarm → Alarm) : (b.onAlarm f).shaft = b.shaft := rfl
@[simp] theorem Blocks.onAlarm_board (f : Alarm → Alarm) : (b.onAlarm f).board = b.board := rfl
@[simp] theorem Blocks.onAlarm_source (f : Alarm → Alarm) : (b.onAlarm f).source = b.source := rfl
@[simp] theorem Blocks.onAlarm_planner (f : Alarm → Alarm) : (b.onAlarm f).planner = b.planner := rfl
@[simp] theorem Blocks.onAlarm_chain (f : Alarm → Alarm) : (b.onAlarm f).chain = b.chain := rfl
@[simp] theorem Blocks.onAlarm_verifier (f : Alarm → Alarm) : (b.onAlarm f).verifier = b.verifier := rfl
@[simp] theorem Blocks.onAlarm_positioner (f : Alarm → Alarm) : (b.onAlarm f).positioner = b.positioner := rfl
@[simp] theorem Blocks.onAlarm_head (f : Alarm → Alarm) : (b.onAlarm f).head = b.head := rfl
@[simp] theorem Blocks.onAlarm_alarm (f : Alarm → Alarm) : (b.onAlarm f).alarm = f b.alarm := rfl
@[simp] theorem Blocks.onAlarm_counters (f : Alarm → Alarm) : (b.onAlarm f).counters = b.counters := rfl
@[simp] theorem Blocks.onAlarm_time (f : Alarm → Alarm) : (b.onAlarm f).time = b.time := rfl
@[simp] theorem Blocks.onAlarm_sent (f : Alarm → Alarm) : (b.onAlarm f).sent = b.sent := rfl

/-! ### `Blocks.onCounters` -/

@[simp] theorem Blocks.onCounters_shaft (f : Counters → Counters) : (b.onCounters f).shaft = b.shaft := rfl
@[simp] theorem Blocks.onCounters_board (f : Counters → Counters) : (b.onCounters f).board = b.board := rfl
@[simp] theorem Blocks.onCounters_source (f : Counters → Counters) : (b.onCounters f).source = b.source := rfl
@[simp] theorem Blocks.onCounters_planner (f : Counters → Counters) : (b.onCounters f).planner = b.planner := rfl
@[simp] theorem Blocks.onCounters_chain (f : Counters → Counters) : (b.onCounters f).chain = b.chain := rfl
@[simp] theorem Blocks.onCounters_verifier (f : Counters → Counters) : (b.onCounters f).verifier = b.verifier := rfl
@[simp] theorem Blocks.onCounters_positioner (f : Counters → Counters) : (b.onCounters f).positioner = b.positioner := rfl
@[simp] theorem Blocks.onCounters_head (f : Counters → Counters) : (b.onCounters f).head = b.head := rfl
@[simp] theorem Blocks.onCounters_alarm (f : Counters → Counters) : (b.onCounters f).alarm = b.alarm := rfl
@[simp] theorem Blocks.onCounters_counters (f : Counters → Counters) : (b.onCounters f).counters = f b.counters := rfl
@[simp] theorem Blocks.onCounters_time (f : Counters → Counters) : (b.onCounters f).time = b.time := rfl
@[simp] theorem Blocks.onCounters_sent (f : Counters → Counters) : (b.onCounters f).sent = b.sent := rfl

/-! ### `Blocks.emit` -/

@[simp] theorem Blocks.emit_shaft (e : Emission) : (b.emit e).shaft = b.shaft := rfl
@[simp] theorem Blocks.emit_board (e : Emission) : (b.emit e).board = b.board := rfl
@[simp] theorem Blocks.emit_source (e : Emission) : (b.emit e).source = b.source := rfl
@[simp] theorem Blocks.emit_planner (e : Emission) : (b.emit e).planner = b.planner := rfl
@[simp] theorem Blocks.emit_chain (e : Emission) : (b.emit e).chain = b.chain := rfl
@[simp] theorem Blocks.emit_verifier (e : Emission) : (b.emit e).verifier = b.verifier := rfl
@[simp] theorem Blocks.emit_positioner (e : Emission) : (b.emit e).positioner = b.positioner := rfl
@[simp] theorem Blocks.emit_head (e : Emission) : (b.emit e).head = b.head := rfl
@[simp] theorem Blocks.emit_alarm (e : Emission) : (b.emit e).alarm = b.alarm := rfl
@[simp] theorem Blocks.emit_counters (e : Emission) : (b.emit e).counters = b.counters := rfl
@[simp] theorem Blocks.emit_time (e : Emission) : (b.emit e).time = b.time := rfl
@[simp] theorem Blocks.emit_sent (e : Emission) : (b.emit e).sent = e :: b.sent := rfl

/-! ### `Blocks.onStep`, `Blocks.setSlot`, `Blocks.onDispenser`, `Blocks.onRecord` -/

@[simp] theorem Blocks.onStep_shaft (n : Nat) (f : StepContext → StepContext) : (b.onStep n f).shaft = b.shaft := rfl
@[simp] theorem Blocks.onStep_source (n : Nat) (f : StepContext → StepContext) : (b.onStep n f).source = b.source := rfl
@[simp] theorem Blocks.onStep_planner (n : Nat) (f : StepContext → StepContext) : (b.onStep n f).planner = b.planner := rfl
@[simp] theorem Blocks.onStep_chain (n : Nat) (f : StepContext → StepContext) : (b.onStep n f).chain = b.chain := rfl
@[simp] theorem Blocks.onStep_verifier (n : Nat) (f : StepContext → StepContext) : (b.onStep n f).verifier = b.verifier := rfl
@[simp] theorem Blocks.onStep_positioner (n : Nat) (f : StepContext → StepContext) : (b.onStep n f).positioner = b.positioner := rfl
@[simp] theorem Blocks.onStep_head (n : Nat) (f : StepContext → StepContext) : (b.onStep n f).head = b.head := rfl
@[simp] theorem Blocks.onStep_alarm (n : Nat) (f : StepContext → StepContext) : (b.onStep n f).alarm = b.alarm := rfl
@[simp] theorem Blocks.onStep_counters (n : Nat) (f : StepContext → StepContext) : (b.onStep n f).counters = b.counters := rfl
@[simp] theorem Blocks.onStep_time (n : Nat) (f : StepContext → StepContext) : (b.onStep n f).time = b.time := rfl
@[simp] theorem Blocks.onStep_sent (n : Nat) (f : StepContext → StepContext) : (b.onStep n f).sent = b.sent := rfl
@[simp] theorem Blocks.onStep_window (n : Nat) (f : StepContext → StepContext) :
    (b.onStep n f).board.window = b.board.window.map (fun c => if c.number = n then f c else c) := rfl
@[simp] theorem Blocks.setSlot_shaft (p : Nat) (t : Slot) : (b.setSlot p t).shaft = b.shaft := rfl
@[simp] theorem Blocks.setSlot_board (p : Nat) (t : Slot) : (b.setSlot p t).board = b.board := rfl
@[simp] theorem Blocks.setSlot_source (p : Nat) (t : Slot) : (b.setSlot p t).source = b.source := rfl
@[simp] theorem Blocks.setSlot_planner (p : Nat) (t : Slot) : (b.setSlot p t).planner = b.planner := rfl
@[simp] theorem Blocks.setSlot_verifier (p : Nat) (t : Slot) : (b.setSlot p t).verifier = b.verifier := rfl
@[simp] theorem Blocks.setSlot_positioner (p : Nat) (t : Slot) : (b.setSlot p t).positioner = b.positioner := rfl
@[simp] theorem Blocks.setSlot_head (p : Nat) (t : Slot) : (b.setSlot p t).head = b.head := rfl
@[simp] theorem Blocks.setSlot_alarm (p : Nat) (t : Slot) : (b.setSlot p t).alarm = b.alarm := rfl
@[simp] theorem Blocks.setSlot_counters (p : Nat) (t : Slot) : (b.setSlot p t).counters = b.counters := rfl
@[simp] theorem Blocks.setSlot_time (p : Nat) (t : Slot) : (b.setSlot p t).time = b.time := rfl
@[simp] theorem Blocks.setSlot_sent (p : Nat) (t : Slot) : (b.setSlot p t).sent = b.sent := rfl
@[simp] theorem Blocks.setSlot_slots (p : Nat) (t : Slot) : (b.setSlot p t).chain.slots = b.chain.slots.set p t := rfl
@[simp] theorem Blocks.onDispenser_shaft (d : Nat) (f : Dispenser → Dispenser) : (b.onDispenser d f).shaft = b.shaft := rfl
@[simp] theorem Blocks.onDispenser_board (d : Nat) (f : Dispenser → Dispenser) : (b.onDispenser d f).board = b.board := rfl
@[simp] theorem Blocks.onDispenser_planner (d : Nat) (f : Dispenser → Dispenser) : (b.onDispenser d f).planner = b.planner := rfl
@[simp] theorem Blocks.onDispenser_chain (d : Nat) (f : Dispenser → Dispenser) : (b.onDispenser d f).chain = b.chain := rfl
@[simp] theorem Blocks.onDispenser_verifier (d : Nat) (f : Dispenser → Dispenser) : (b.onDispenser d f).verifier = b.verifier := rfl
@[simp] theorem Blocks.onDispenser_positioner (d : Nat) (f : Dispenser → Dispenser) : (b.onDispenser d f).positioner = b.positioner := rfl
@[simp] theorem Blocks.onDispenser_head (d : Nat) (f : Dispenser → Dispenser) : (b.onDispenser d f).head = b.head := rfl
@[simp] theorem Blocks.onDispenser_alarm (d : Nat) (f : Dispenser → Dispenser) : (b.onDispenser d f).alarm = b.alarm := rfl
@[simp] theorem Blocks.onDispenser_counters (d : Nat) (f : Dispenser → Dispenser) : (b.onDispenser d f).counters = b.counters := rfl
@[simp] theorem Blocks.onDispenser_time (d : Nat) (f : Dispenser → Dispenser) : (b.onDispenser d f).time = b.time := rfl
@[simp] theorem Blocks.onDispenser_sent (d : Nat) (f : Dispenser → Dispenser) : (b.onDispenser d f).sent = b.sent := rfl
@[simp] theorem Blocks.onDispenser_dispensers (d : Nat) (f : Dispenser → Dispenser) :
    (b.onDispenser d f).source.dispensers = adjust b.source.dispensers d f := rfl
@[simp] theorem Blocks.onRecord_shaft (f : InsertionRecord → InsertionRecord) : (b.onRecord f).shaft = b.shaft := rfl
@[simp] theorem Blocks.onRecord_board (f : InsertionRecord → InsertionRecord) : (b.onRecord f).board = b.board := rfl
@[simp] theorem Blocks.onRecord_source (f : InsertionRecord → InsertionRecord) : (b.onRecord f).source = b.source := rfl
@[simp] theorem Blocks.onRecord_planner (f : InsertionRecord → InsertionRecord) : (b.onRecord f).planner = b.planner := rfl
@[simp] theorem Blocks.onRecord_chain (f : InsertionRecord → InsertionRecord) : (b.onRecord f).chain = b.chain := rfl
@[simp] theorem Blocks.onRecord_verifier (f : InsertionRecord → InsertionRecord) : (b.onRecord f).verifier = b.verifier := rfl
@[simp] theorem Blocks.onRecord_positioner (f : InsertionRecord → InsertionRecord) : (b.onRecord f).positioner = b.positioner := rfl
@[simp] theorem Blocks.onRecord_alarm (f : InsertionRecord → InsertionRecord) : (b.onRecord f).alarm = b.alarm := rfl
@[simp] theorem Blocks.onRecord_counters (f : InsertionRecord → InsertionRecord) : (b.onRecord f).counters = b.counters := rfl
@[simp] theorem Blocks.onRecord_time (f : InsertionRecord → InsertionRecord) : (b.onRecord f).time = b.time := rfl
@[simp] theorem Blocks.onRecord_sent (f : InsertionRecord → InsertionRecord) : (b.onRecord f).sent = b.sent := rfl

/-! ### `State.onBlocks`, `State.onLink`, `State.withPending`, `place` -/

@[simp] theorem State.onBlocks_blocks (f : Blocks → Blocks) : (s.onBlocks f).blocks = f s.blocks := rfl
@[simp] theorem State.onBlocks_link (f : Blocks → Blocks) : (s.onBlocks f).link = s.link := rfl
@[simp] theorem State.onBlocks_levels (f : Blocks → Blocks) : (s.onBlocks f).levels = s.levels := rfl
@[simp] theorem State.onBlocks_pending (f : Blocks → Blocks) : (s.onBlocks f).pending = s.pending := rfl
@[simp] theorem State.onLink_blocks (f : LinkPort → LinkPort) : (s.onLink f).blocks = s.blocks := rfl
@[simp] theorem State.onLink_link (f : LinkPort → LinkPort) : (s.onLink f).link = f s.link := rfl
@[simp] theorem State.onLink_levels (f : LinkPort → LinkPort) : (s.onLink f).levels = s.levels := rfl
@[simp] theorem State.onLink_pending (f : LinkPort → LinkPort) : (s.onLink f).pending = s.pending := rfl
@[simp] theorem State.withPending_blocks (q : List Instr) : (s.withPending q).blocks = s.blocks := rfl
@[simp] theorem State.withPending_link (q : List Instr) : (s.withPending q).link = s.link := rfl
@[simp] theorem State.withPending_levels (q : List Instr) : (s.withPending q).levels = s.levels := rfl
@[simp] theorem State.withPending_pending (q : List Instr) : (s.withPending q).pending = q := rfl
@[simp] theorem place_blocks (r : Record) : (place r s).blocks = s.blocks := rfl
@[simp] theorem place_levels (r : Record) : (place r s).levels = s.levels := rfl
@[simp] theorem place_pending (r : Record) : (place r s).pending = s.pending := rfl
@[simp] theorem place_upstream (r : Record) : (place r s).link.upstream = s.link.upstream ++ [r] := rfl
@[simp] theorem place_straps (r : Record) : (place r s).link.straps = s.link.straps := rfl
@[simp] theorem place_receiver (r : Record) : (place r s).link.receiver = s.link.receiver := rfl
@[simp] theorem place_input (r : Record) : (place r s).link.input = s.link.input := rfl
@[simp] theorem place_sending (r : Record) : (place r s).link.sending = s.link.sending := rfl
@[simp] theorem place_credit (r : Record) : (place r s).link.credit = s.link.credit := rfl
@[simp] theorem place_framingErrors (r : Record) : (place r s).link.framingErrors = s.link.framingErrors := rfl
@[simp] theorem place_crcErrors (r : Record) : (place r s).link.crcErrors = s.link.crcErrors := rfl
@[simp] theorem place_overrunErrors (r : Record) : (place r s).link.overrunErrors = s.link.overrunErrors := rfl

/-! ### `takeOffer` -/

@[simp] theorem takeOffer_shaft : (takeOffer b).shaft = { b.shaft with offerTaken := true } := rfl
@[simp] theorem takeOffer_board : (takeOffer b).board = b.board := rfl
@[simp] theorem takeOffer_source : (takeOffer b).source = b.source := rfl
@[simp] theorem takeOffer_planner : (takeOffer b).planner = b.planner := rfl
@[simp] theorem takeOffer_chain : (takeOffer b).chain = b.chain := rfl
@[simp] theorem takeOffer_verifier : (takeOffer b).verifier = b.verifier := rfl
@[simp] theorem takeOffer_positioner : (takeOffer b).positioner = b.positioner := rfl
@[simp] theorem takeOffer_head : (takeOffer b).head = b.head := rfl
@[simp] theorem takeOffer_alarm : (takeOffer b).alarm = b.alarm := rfl
@[simp] theorem takeOffer_counters : (takeOffer b).counters = b.counters := rfl
@[simp] theorem takeOffer_time : (takeOffer b).time = b.time := rfl
@[simp] theorem takeOffer_sent : (takeOffer b).sent = b.sent := rfl

end Sys2Proof.Machine
end

