-- ==== Sys2Proof/Laws/Tables.lean ====
section
/-! SUPPORT. Laws/Tables.lean: reading a table after an entry is written. -/

namespace Sys2Proof

variable {α : Type} {n : Nat}

/-- The entry just written, inside the table. -/
@[simp] theorem look_put_self [Inhabited α] (t : Vector α n) {i : Nat} (x : α) (h : i < n) : look (put t i x) i = x := by
  simp [look, put, h]

/-- Every other entry is as before. -/
theorem look_put_of_ne [Inhabited α] (t : Vector α n) {i j : Nat} (x : α) (h : i ≠ j) : look (put t i x) j = look t j := by
  by_cases hj : j < n
  · simp [look, put, hj, h]
  · simp [look, put, hj]

/-- An index outside the table changes nothing. -/
theorem put_of_le (t : Vector α n) {i : Nat} (x : α) (h : n ≤ i) : put t i x = t := by
  ext j hj
  have : i ≠ j := by omega
  simp [put, this]

/-- The entry just changed, inside the table. -/
@[simp] theorem look_adjust_self [Inhabited α] (t : Vector α n) {i : Nat} (f : α → α) (h : i < n) :
    look (adjust t i f) i = f (look t i) := look_put_self t _ h

/-- Every other entry is as before. -/
theorem look_adjust_of_ne [Inhabited α] (t : Vector α n) {i j : Nat} (f : α → α) (h : i ≠ j) :
    look (adjust t i f) j = look t j := look_put_of_ne t _ h

/-- A table filled with one value reads as it everywhere. -/
@[simp] theorem look_replicate [Inhabited α] (x : α) {i : Nat} (h : i < n) : look (Vector.replicate n x) i = x := by
  simp [look, h]

/-- A table changed entry by entry. -/
theorem look_map [Inhabited α] {β : Type} [Inhabited β] (t : Vector α n) (f : α → β) {i : Nat} (h : i < n) :
    look (t.map f) i = f (look t i) := by
  simp [look, h]

/-- Two tables that read alike are equal. -/
theorem table_ext [Inhabited α] {t u : Vector α n} (h : ∀ i < n, look t i = look u i) : t = u := by
  ext i hi
  simpa [look, hi] using h i hi

end Sys2Proof
end

