-- ==== Sys2Proof/Laws/Alarms.lean ====
section
/-! SUPPORT. Laws/Alarms.lean: what an occurrence, an appearance, a clearing and an acknowledgement do to the alarm table
(R138 to R140, R146), and that a report to counters none of which is enabled does nothing (R168). -/

namespace Sys2Proof.Machine

/-! ## Quiet counters -/

/-- R168: a report to counters none of which is enabled changes none and raises no COUNTER LIMIT. -/
theorem takeEach_quiet {c : Counters} (h : c.quiet) (event : CountEvent) (carry : Carry) :
    takeEach c.events (EventCounter.takeReport event carry) = (c.events, []) := by
  have he : ∀ n, n < 4 → (look c.events n).takeReport event carry = (look c.events n, false) := by
    intro n hn
    simp [EventCounter.takeReport, h n hn]
  unfold takeEach
  refine Prod.ext ?_ ?_
  · apply table_ext
    intro n hn
    simp [look_map _ _ hn, he n hn]
  · simp only [List.map_eq_nil_iff, List.filter_eq_nil_iff, List.mem_range]
    intro n hn
    simp [he n hn]

/-- R168: with quiet counters a report changes nothing. -/
theorem countEvent_quiet {b : Blocks} (h : b.counters.quiet) (event : CountEvent) (carry : Carry) :
    countEvent event carry b = b := by
  simp [countEvent, takeEach_quiet h, raiseLimits, raiseAll, Blocks.onCounters]

/-- R138: with quiet counters an occurrence changes the alarm table alone. -/
theorem raise_quiet {b : Blocks} (h : b.counters.quiet) (code : Nat) (context : AlarmContext) :
    raise code context b = b.onAlarm fun a => a.occur code context := by
  simp [raise, raiseAll, takeEach_quiet h, Blocks.onCounters, Blocks.onAlarm]

/-! ## The alarm table -/

variable {a : Alarm} {code : Nat}

/-- R146: a notice made sets the code's notice pending flag and leaves the rest of its entry. -/
theorem Alarm.makeNotice_look (h : code < 32) :
    look (a.makeNotice code).codes code = { look a.codes code with noticePending := true } := by
  unfold Alarm.makeNotice
  split
  · rename_i hn
    rw [← hn]
  · simp [h]

/-- R146: a notice made leaves every other entry. -/
theorem Alarm.makeNotice_other {other : Nat} (h : code ≠ other) :
    look (a.makeNotice code).codes other = look a.codes other := by
  unfold Alarm.makeNotice
  split
  · rfl
  · simp [look_adjust_of_ne _ _ h]

/-- R138: the entry of a code after its occurrence. -/
theorem Alarm.occur_look (h : code < 32) (context : AlarmContext) :
    look (a.occur code context).codes code =
      if (look a.codes code).state = .idle then
        { look a.codes code with state := .latched, count := 1, context := context, noticePending := true }
      else
        { look a.codes code with count := min ((look a.codes code).count + 1) 255, context := context } := by
  unfold Alarm.occur
  split
  · simp [Alarm.makeNotice_look h, h]
  · simp [h, Config.occurrenceTop]

/-- R138: an occurrence leaves every other entry. -/
theorem Alarm.occur_other {other : Nat} (h : code ≠ other) (context : AlarmContext) :
    look (a.occur code context).codes other = look a.codes other := by
  unfold Alarm.occur
  split
  · rw [Alarm.makeNotice_other h]
    exact look_adjust_of_ne _ _ h
  · exact look_adjust_of_ne _ _ h

/-- R139: the entry of a LEVEL code whose condition appears. -/
theorem Alarm.appear_look (h : code < 32) :
    look (a.appear code).codes code = { (look a.codes code).appeared with noticePending := true } := by
  simp [Alarm.appear, Alarm.makeNotice_look h, h]

/-- R139: the entry of an ACTIVE code whose condition clears. -/
theorem Alarm.clear_look (h : code < 32) (hs : (look a.codes code).state = .active) :
    look (a.clear code).codes code = { (look a.codes code).cleared with noticePending := true } := by
  simp [Alarm.clear, hs, Alarm.makeNotice_look h, h]

/-- R140: the entry of a LATCHED code that is acknowledged. -/
theorem Alarm.acknowledge_look_latched (h : code < 32) (hs : (look a.codes code).state = .latched) :
    look (a.acknowledge code).codes code = { look a.codes code with state := .idle, noticePending := true } := by
  simp [Alarm.acknowledge, hs, Alarm.makeNotice_look h, h]

end Sys2Proof.Machine
end

