-- ==== Sys2Proof/Laws/Frames.lean ====
section
/-! SUPPORT. Laws/Frames.lean: the blocks that each shared operation of Machine/Ops.lean leaves as they are. A proof about an
invariant of one block cites these and never unfolds an operation that does not touch it. -/

namespace Sys2Proof.Machine

variable (b : Blocks)

/-- A fold of a function that leaves something alone leaves it alone. -/
theorem foldl_leaves {α β γ : Type} (g : β → γ) (f : β → α → β) (h : ∀ b x, g (f b x) = g b) (l : List α) (b : β) :
    g (l.foldl f b) = g b := by
  induction l generalizing b with
  | nil => rfl
  | cons x l ih => simp [ih, h]

/-! ### `raiseAll` -/

@[simp] theorem raiseAll_shaft (fuel : Nat) (l : List (Nat × AlarmContext)) : (raiseAll fuel l b).shaft = b.shaft := by
  induction fuel generalizing l b with
  | zero => rfl
  | succ n ih => cases l with
    | nil => rfl
    | cons p l => simp [raiseAll, ih]
@[simp] theorem raiseAll_board (fuel : Nat) (l : List (Nat × AlarmContext)) : (raiseAll fuel l b).board = b.board := by
  induction fuel generalizing l b with
  | zero => rfl
  | succ n ih => cases l with
    | nil => rfl
    | cons p l => simp [raiseAll, ih]
@[simp] theorem raiseAll_source (fuel : Nat) (l : List (Nat × AlarmContext)) : (raiseAll fuel l b).source = b.source := by
  induction fuel generalizing l b with
  | zero => rfl
  | succ n ih => cases l with
    | nil => rfl
    | cons p l => simp [raiseAll, ih]
@[simp] theorem raiseAll_planner (fuel : Nat) (l : List (Nat × AlarmContext)) : (raiseAll fuel l b).planner = b.planner := by
  induction fuel generalizing l b with
  | zero => rfl
  | succ n ih => cases l with
    | nil => rfl
    | cons p l => simp [raiseAll, ih]
@[simp] theorem raiseAll_chain (fuel : Nat) (l : List (Nat × AlarmContext)) : (raiseAll fuel l b).chain = b.chain := by
  induction fuel generalizing l b with
  | zero => rfl
  | succ n ih => cases l with
    | nil => rfl
    | cons p l => simp [raiseAll, ih]
@[simp] theorem raiseAll_verifier (fuel : Nat) (l : List (Nat × AlarmContext)) : (raiseAll fuel l b).verifier = b.verifier := by
  induction fuel generalizing l b with
  | zero => rfl
  | succ n ih => cases l with
    | nil => rfl
    | cons p l => simp [raiseAll, ih]
@[simp] theorem raiseAll_positioner (fuel : Nat) (l : List (Nat × AlarmContext)) : (raiseAll fuel l b).positioner = b.positioner := by
  induction fuel generalizing l b with
  | zero => rfl
  | succ n ih => cases l with
    | nil => rfl
    | cons p l => simp [raiseAll, ih]
@[simp] theorem raiseAll_head (fuel : Nat) (l : List (Nat × AlarmContext)) : (raiseAll fuel l b).head = b.head := by
  induction fuel generalizing l b with
  | zero => rfl
  | succ n ih => cases l with
    | nil => rfl
    | cons p l => simp [raiseAll, ih]
@[simp] theorem raiseAll_time (fuel : Nat) (l : List (Nat × AlarmContext)) : (raiseAll fuel l b).time = b.time := by
  induction fuel generalizing l b with
  | zero => rfl
  | succ n ih => cases l with
    | nil => rfl
    | cons p l => simp [raiseAll, ih]
@[simp] theorem raiseAll_sent (fuel : Nat) (l : List (Nat × AlarmContext)) : (raiseAll fuel l b).sent = b.sent := by
  induction fuel generalizing l b with
  | zero => rfl
  | succ n ih => cases l with
    | nil => rfl
    | cons p l => simp [raiseAll, ih]

/-! ### `raise` -/

@[simp] theorem raise_shaft (code : Nat) (c : AlarmContext) : (raise code c b).shaft = b.shaft := by
  simp [raise]
@[simp] theorem raise_board (code : Nat) (c : AlarmContext) : (raise code c b).board = b.board := by
  simp [raise]
@[simp] theorem raise_source (code : Nat) (c : AlarmContext) : (raise code c b).source = b.source := by
  simp [raise]
@[simp] theorem raise_planner (code : Nat) (c : AlarmContext) : (raise code c b).planner = b.planner := by
  simp [raise]
@[simp] theorem raise_chain (code : Nat) (c : AlarmContext) : (raise code c b).chain = b.chain := by
  simp [raise]
@[simp] theorem raise_verifier (code : Nat) (c : AlarmContext) : (raise code c b).verifier = b.verifier := by
  simp [raise]
@[simp] theorem raise_positioner (code : Nat) (c : AlarmContext) : (raise code c b).positioner = b.positioner := by
  simp [raise]
@[simp] theorem raise_head (code : Nat) (c : AlarmContext) : (raise code c b).head = b.head := by
  simp [raise]
@[simp] theorem raise_time (code : Nat) (c : AlarmContext) : (raise code c b).time = b.time := by
  simp [raise]
@[simp] theorem raise_sent (code : Nat) (c : AlarmContext) : (raise code c b).sent = b.sent := by
  simp [raise]

/-! ### `raiseLimits` -/

@[simp] theorem raiseLimits_shaft (l : List Nat) : (raiseLimits l b).shaft = b.shaft := by
  simp [raiseLimits]
@[simp] theorem raiseLimits_board (l : List Nat) : (raiseLimits l b).board = b.board := by
  simp [raiseLimits]
@[simp] theorem raiseLimits_source (l : List Nat) : (raiseLimits l b).source = b.source := by
  simp [raiseLimits]
@[simp] theorem raiseLimits_planner (l : List Nat) : (raiseLimits l b).planner = b.planner := by
  simp [raiseLimits]
@[simp] theorem raiseLimits_chain (l : List Nat) : (raiseLimits l b).chain = b.chain := by
  simp [raiseLimits]
@[simp] theorem raiseLimits_verifier (l : List Nat) : (raiseLimits l b).verifier = b.verifier := by
  simp [raiseLimits]
@[simp] theorem raiseLimits_positioner (l : List Nat) : (raiseLimits l b).positioner = b.positioner := by
  simp [raiseLimits]
@[simp] theorem raiseLimits_head (l : List Nat) : (raiseLimits l b).head = b.head := by
  simp [raiseLimits]
@[simp] theorem raiseLimits_time (l : List Nat) : (raiseLimits l b).time = b.time := by
  simp [raiseLimits]
@[simp] theorem raiseLimits_sent (l : List Nat) : (raiseLimits l b).sent = b.sent := by
  simp [raiseLimits]

/-! ### `countEvent` -/

@[simp] theorem countEvent_shaft (e : CountEvent) (c : Carry) : (countEvent e c b).shaft = b.shaft := by
  simp [countEvent]
@[simp] theorem countEvent_board (e : CountEvent) (c : Carry) : (countEvent e c b).board = b.board := by
  simp [countEvent]
@[simp] theorem countEvent_source (e : CountEvent) (c : Carry) : (countEvent e c b).source = b.source := by
  simp [countEvent]
@[simp] theorem countEvent_planner (e : CountEvent) (c : Carry) : (countEvent e c b).planner = b.planner := by
  simp [countEvent]
@[simp] theorem countEvent_chain (e : CountEvent) (c : Carry) : (countEvent e c b).chain = b.chain := by
  simp [countEvent]
@[simp] theorem countEvent_verifier (e : CountEvent) (c : Carry) : (countEvent e c b).verifier = b.verifier := by
  simp [countEvent]
@[simp] theorem countEvent_positioner (e : CountEvent) (c : Carry) : (countEvent e c b).positioner = b.positioner := by
  simp [countEvent]
@[simp] theorem countEvent_head (e : CountEvent) (c : Carry) : (countEvent e c b).head = b.head := by
  simp [countEvent]
@[simp] theorem countEvent_time (e : CountEvent) (c : Carry) : (countEvent e c b).time = b.time := by
  simp [countEvent]
@[simp] theorem countEvent_sent (e : CountEvent) (c : Carry) : (countEvent e c b).sent = b.sent := by
  simp [countEvent]

/-! ### `countStatistics` -/

@[simp] theorem countStatistics_shaft (f : Statistics → Statistics) (k : Nat) : (countStatistics f k b).shaft = b.shaft := by
  unfold countStatistics; split <;> simp
@[simp] theorem countStatistics_board (f : Statistics → Statistics) (k : Nat) : (countStatistics f k b).board = b.board := by
  unfold countStatistics; split <;> simp
@[simp] theorem countStatistics_source (f : Statistics → Statistics) (k : Nat) : (countStatistics f k b).source = b.source := by
  unfold countStatistics; split <;> simp
@[simp] theorem countStatistics_planner (f : Statistics → Statistics) (k : Nat) : (countStatistics f k b).planner = b.planner := by
  unfold countStatistics; split <;> simp
@[simp] theorem countStatistics_chain (f : Statistics → Statistics) (k : Nat) : (countStatistics f k b).chain = b.chain := by
  unfold countStatistics; split <;> simp
@[simp] theorem countStatistics_verifier (f : Statistics → Statistics) (k : Nat) : (countStatistics f k b).verifier = b.verifier := by
  unfold countStatistics; split <;> simp
@[simp] theorem countStatistics_positioner (f : Statistics → Statistics) (k : Nat) : (countStatistics f k b).positioner = b.positioner := by
  unfold countStatistics; split <;> simp
@[simp] theorem countStatistics_head (f : Statistics → Statistics) (k : Nat) : (countStatistics f k b).head = b.head := by
  unfold countStatistics; split <;> simp
@[simp] theorem countStatistics_time (f : Statistics → Statistics) (k : Nat) : (countStatistics f k b).time = b.time := by
  unfold countStatistics; split <;> simp
@[simp] theorem countStatistics_sent (f : Statistics → Statistics) (k : Nat) : (countStatistics f k b).sent = b.sent := by
  unfold countStatistics; split <;> simp

@[simp] theorem countStatistics_alarm (f : Statistics → Statistics) (k : Nat) : (countStatistics f k b).alarm = b.alarm := by
  unfold countStatistics; split <;> simp

/-! ### `reportFire` -/

@[simp] theorem reportFire_shaft (k : Nat) : (reportFire k b).shaft = b.shaft := by
  simp [reportFire]
@[simp] theorem reportFire_board (k : Nat) : (reportFire k b).board = b.board := by
  simp [reportFire]
@[simp] theorem reportFire_source (k : Nat) : (reportFire k b).source = b.source := by
  simp [reportFire]
@[simp] theorem reportFire_planner (k : Nat) : (reportFire k b).planner = b.planner := by
  simp [reportFire]
@[simp] theorem reportFire_chain (k : Nat) : (reportFire k b).chain = b.chain := by
  simp [reportFire]
@[simp] theorem reportFire_verifier (k : Nat) : (reportFire k b).verifier = b.verifier := by
  simp [reportFire]
@[simp] theorem reportFire_positioner (k : Nat) : (reportFire k b).positioner = b.positioner := by
  simp [reportFire]
@[simp] theorem reportFire_head (k : Nat) : (reportFire k b).head = b.head := by
  simp [reportFire]
@[simp] theorem reportFire_time (k : Nat) : (reportFire k b).time = b.time := by
  simp [reportFire]
@[simp] theorem reportFire_sent (k : Nat) : (reportFire k b).sent = b.sent := by
  simp [reportFire]

/-! ### `reportInsert` -/

@[simp] theorem reportInsert_shaft (k : Nat) : (reportInsert k b).shaft = b.shaft := by
  simp [reportInsert]
@[simp] theorem reportInsert_board (k : Nat) : (reportInsert k b).board = b.board := by
  simp [reportInsert]
@[simp] theorem reportInsert_source (k : Nat) : (reportInsert k b).source = b.source := by
  simp [reportInsert]
@[simp] theorem reportInsert_planner (k : Nat) : (reportInsert k b).planner = b.planner := by
  simp [reportInsert]
@[simp] theorem reportInsert_chain (k : Nat) : (reportInsert k b).chain = b.chain := by
  simp [reportInsert]
@[simp] theorem reportInsert_verifier (k : Nat) : (reportInsert k b).verifier = b.verifier := by
  simp [reportInsert]
@[simp] theorem reportInsert_positioner (k : Nat) : (reportInsert k b).positioner = b.positioner := by
  simp [reportInsert]
@[simp] theorem reportInsert_head (k : Nat) : (reportInsert k b).head = b.head := by
  simp [reportInsert]
@[simp] theorem reportInsert_time (k : Nat) : (reportInsert k b).time = b.time := by
  simp [reportInsert]
@[simp] theorem reportInsert_sent (k : Nat) : (reportInsert k b).sent = b.sent := by
  simp [reportInsert]

/-! ### `reportMisinsert` -/

@[simp] theorem reportMisinsert_shaft (k : Nat) : (reportMisinsert k b).shaft = b.shaft := by
  simp [reportMisinsert]
@[simp] theorem reportMisinsert_board (k : Nat) : (reportMisinsert k b).board = b.board := by
  simp [reportMisinsert]
@[simp] theorem reportMisinsert_source (k : Nat) : (reportMisinsert k b).source = b.source := by
  simp [reportMisinsert]
@[simp] theorem reportMisinsert_planner (k : Nat) : (reportMisinsert k b).planner = b.planner := by
  simp [reportMisinsert]
@[simp] theorem reportMisinsert_chain (k : Nat) : (reportMisinsert k b).chain = b.chain := by
  simp [reportMisinsert]
@[simp] theorem reportMisinsert_verifier (k : Nat) : (reportMisinsert k b).verifier = b.verifier := by
  simp [reportMisinsert]
@[simp] theorem reportMisinsert_positioner (k : Nat) : (reportMisinsert k b).positioner = b.positioner := by
  simp [reportMisinsert]
@[simp] theorem reportMisinsert_head (k : Nat) : (reportMisinsert k b).head = b.head := by
  simp [reportMisinsert]
@[simp] theorem reportMisinsert_time (k : Nat) : (reportMisinsert k b).time = b.time := by
  simp [reportMisinsert]
@[simp] theorem reportMisinsert_sent (k : Nat) : (reportMisinsert k b).sent = b.sent := by
  simp [reportMisinsert]

/-! ### `reportVerify` -/

@[simp] theorem reportVerify_shaft (p : Bool) (k : Nat) : (reportVerify p k b).shaft = b.shaft := by
  unfold reportVerify; split <;> simp
@[simp] theorem reportVerify_board (p : Bool) (k : Nat) : (reportVerify p k b).board = b.board := by
  unfold reportVerify; split <;> simp
@[simp] theorem reportVerify_source (p : Bool) (k : Nat) : (reportVerify p k b).source = b.source := by
  unfold reportVerify; split <;> simp
@[simp] theorem reportVerify_planner (p : Bool) (k : Nat) : (reportVerify p k b).planner = b.planner := by
  unfold reportVerify; split <;> simp
@[simp] theorem reportVerify_chain (p : Bool) (k : Nat) : (reportVerify p k b).chain = b.chain := by
  unfold reportVerify; split <;> simp
@[simp] theorem reportVerify_verifier (p : Bool) (k : Nat) : (reportVerify p k b).verifier = b.verifier := by
  unfold reportVerify; split <;> simp
@[simp] theorem reportVerify_positioner (p : Bool) (k : Nat) : (reportVerify p k b).positioner = b.positioner := by
  unfold reportVerify; split <;> simp
@[simp] theorem reportVerify_head (p : Bool) (k : Nat) : (reportVerify p k b).head = b.head := by
  unfold reportVerify; split <;> simp
@[simp] theorem reportVerify_time (p : Bool) (k : Nat) : (reportVerify p k b).time = b.time := by
  unfold reportVerify; split <;> simp
@[simp] theorem reportVerify_sent (p : Bool) (k : Nat) : (reportVerify p k b).sent = b.sent := by
  unfold reportVerify; split <;> simp

/-! ### `appear` -/

@[simp] theorem appear_shaft (code : Nat) : (appear code b).shaft = b.shaft := by
  unfold appear; split <;> simp
@[simp] theorem appear_board (code : Nat) : (appear code b).board = b.board := by
  unfold appear; split <;> simp
@[simp] theorem appear_source (code : Nat) : (appear code b).source = b.source := by
  unfold appear; split <;> simp
@[simp] theorem appear_planner (code : Nat) : (appear code b).planner = b.planner := by
  unfold appear; split <;> simp
@[simp] theorem appear_chain (code : Nat) : (appear code b).chain = b.chain := by
  unfold appear; split <;> simp
@[simp] theorem appear_verifier (code : Nat) : (appear code b).verifier = b.verifier := by
  unfold appear; split <;> simp
@[simp] theorem appear_positioner (code : Nat) : (appear code b).positioner = b.positioner := by
  unfold appear; split <;> simp
@[simp] theorem appear_head (code : Nat) : (appear code b).head = b.head := by
  unfold appear; split <;> simp
@[simp] theorem appear_time (code : Nat) : (appear code b).time = b.time := by
  unfold appear; split <;> simp
@[simp] theorem appear_sent (code : Nat) : (appear code b).sent = b.sent := by
  unfold appear; split <;> simp

/-! ### `resolve` -/

@[simp] theorem resolve_shaft (n : Nat) (r : StepOutcome) : (resolve n r b).shaft = b.shaft := by
  unfold resolve; (repeat' split) <;> simp
@[simp] theorem resolve_source (n : Nat) (r : StepOutcome) : (resolve n r b).source = b.source := by
  unfold resolve; (repeat' split) <;> simp
@[simp] theorem resolve_planner (n : Nat) (r : StepOutcome) : (resolve n r b).planner = b.planner := by
  unfold resolve; (repeat' split) <;> simp
@[simp] theorem resolve_chain (n : Nat) (r : StepOutcome) : (resolve n r b).chain = b.chain := by
  unfold resolve; (repeat' split) <;> simp
@[simp] theorem resolve_verifier (n : Nat) (r : StepOutcome) : (resolve n r b).verifier = b.verifier := by
  unfold resolve; (repeat' split) <;> simp
@[simp] theorem resolve_positioner (n : Nat) (r : StepOutcome) : (resolve n r b).positioner = b.positioner := by
  unfold resolve; (repeat' split) <;> simp
@[simp] theorem resolve_head (n : Nat) (r : StepOutcome) : (resolve n r b).head = b.head := by
  unfold resolve; (repeat' split) <;> simp
@[simp] theorem resolve_alarm (n : Nat) (r : StepOutcome) : (resolve n r b).alarm = b.alarm := by
  unfold resolve; (repeat' split) <;> simp
@[simp] theorem resolve_counters (n : Nat) (r : StepOutcome) : (resolve n r b).counters = b.counters := by
  unfold resolve; (repeat' split) <;> simp
@[simp] theorem resolve_time (n : Nat) (r : StepOutcome) : (resolve n r b).time = b.time := by
  unfold resolve; (repeat' split) <;> simp
@[simp] theorem resolve_sent (n : Nat) (r : StepOutcome) : (resolve n r b).sent = b.sent := by
  unfold resolve; (repeat' split) <;> simp

/-! ### `resolveBadImage` -/

@[simp] theorem resolveBadImage_shaft (n : Nat) : (resolveBadImage n b).shaft = b.shaft := by
  simp [resolveBadImage]
@[simp] theorem resolveBadImage_source (n : Nat) : (resolveBadImage n b).source = b.source := by
  simp [resolveBadImage]
@[simp] theorem resolveBadImage_planner (n : Nat) : (resolveBadImage n b).planner = b.planner := by
  simp [resolveBadImage]
@[simp] theorem resolveBadImage_chain (n : Nat) : (resolveBadImage n b).chain = b.chain := by
  simp [resolveBadImage]
@[simp] theorem resolveBadImage_verifier (n : Nat) : (resolveBadImage n b).verifier = b.verifier := by
  simp [resolveBadImage]
@[simp] theorem resolveBadImage_positioner (n : Nat) : (resolveBadImage n b).positioner = b.positioner := by
  simp [resolveBadImage]
@[simp] theorem resolveBadImage_head (n : Nat) : (resolveBadImage n b).head = b.head := by
  simp [resolveBadImage]
@[simp] theorem resolveBadImage_alarm (n : Nat) : (resolveBadImage n b).alarm = b.alarm := by
  simp [resolveBadImage]
@[simp] theorem resolveBadImage_counters (n : Nat) : (resolveBadImage n b).counters = b.counters := by
  simp [resolveBadImage]
@[simp] theorem resolveBadImage_time (n : Nat) : (resolveBadImage n b).time = b.time := by
  simp [resolveBadImage]
@[simp] theorem resolveBadImage_sent (n : Nat) : (resolveBadImage n b).sent = b.sent := by
  simp [resolveBadImage]

/-! ### `applySpan` -/

@[simp] theorem applySpan_shaft (n : Nat) : (applySpan n b).shaft = b.shaft := by
  unfold applySpan; split <;> simp
@[simp] theorem applySpan_board (n : Nat) : (applySpan n b).board = b.board := by
  unfold applySpan; split <;> simp
@[simp] theorem applySpan_source (n : Nat) : (applySpan n b).source = b.source := by
  unfold applySpan; split <;> simp
@[simp] theorem applySpan_planner (n : Nat) : (applySpan n b).planner = b.planner := by
  unfold applySpan; split <;> simp
@[simp] theorem applySpan_chain (n : Nat) : (applySpan n b).chain = b.chain := by
  unfold applySpan; split <;> simp
@[simp] theorem applySpan_verifier (n : Nat) : (applySpan n b).verifier = b.verifier := by
  unfold applySpan; split <;> simp
@[simp] theorem applySpan_head (n : Nat) : (applySpan n b).head = b.head := by
  unfold applySpan; split <;> simp
@[simp] theorem applySpan_alarm (n : Nat) : (applySpan n b).alarm = b.alarm := by
  unfold applySpan; split <;> simp
@[simp] theorem applySpan_counters (n : Nat) : (applySpan n b).counters = b.counters := by
  unfold applySpan; split <;> simp
@[simp] theorem applySpan_time (n : Nat) : (applySpan n b).time = b.time := by
  unfold applySpan; split <;> simp

/-! ### `applyTarget` -/

@[simp] theorem applyTarget_shaft (c : StepContext) : (applyTarget c b).shaft = b.shaft := by
  unfold applyTarget; (repeat' split) <;> simp
@[simp] theorem applyTarget_board (c : StepContext) : (applyTarget c b).board = b.board := by
  unfold applyTarget; (repeat' split) <;> simp
@[simp] theorem applyTarget_source (c : StepContext) : (applyTarget c b).source = b.source := by
  unfold applyTarget; (repeat' split) <;> simp
@[simp] theorem applyTarget_planner (c : StepContext) : (applyTarget c b).planner = b.planner := by
  unfold applyTarget; (repeat' split) <;> simp
@[simp] theorem applyTarget_chain (c : StepContext) : (applyTarget c b).chain = b.chain := by
  unfold applyTarget; (repeat' split) <;> simp
@[simp] theorem applyTarget_verifier (c : StepContext) : (applyTarget c b).verifier = b.verifier := by
  unfold applyTarget; (repeat' split) <;> simp
@[simp] theorem applyTarget_head (c : StepContext) : (applyTarget c b).head = b.head := by
  unfold applyTarget; (repeat' split) <;> simp
@[simp] theorem applyTarget_alarm (c : StepContext) : (applyTarget c b).alarm = b.alarm := by
  unfold applyTarget; (repeat' split) <;> simp
@[simp] theorem applyTarget_counters (c : StepContext) : (applyTarget c b).counters = b.counters := by
  unfold applyTarget; (repeat' split) <;> simp
@[simp] theorem applyTarget_time (c : StepContext) : (applyTarget c b).time = b.time := by
  unfold applyTarget; (repeat' split) <;> simp

/-! ### `applyCandidate` -/

@[simp] theorem applyCandidate_shaft (n : Nat) : (applyCandidate n b).shaft = b.shaft := by
  simp only [applyCandidate]; (repeat' split) <;> simp
@[simp] theorem applyCandidate_board (n : Nat) : (applyCandidate n b).board = b.board := by
  simp only [applyCandidate]; (repeat' split) <;> simp
@[simp] theorem applyCandidate_source (n : Nat) : (applyCandidate n b).source = b.source := by
  simp only [applyCandidate]; (repeat' split) <;> simp
@[simp] theorem applyCandidate_planner (n : Nat) : (applyCandidate n b).planner = b.planner := by
  simp only [applyCandidate]; (repeat' split) <;> simp
@[simp] theorem applyCandidate_chain (n : Nat) : (applyCandidate n b).chain = b.chain := by
  simp only [applyCandidate]; (repeat' split) <;> simp
@[simp] theorem applyCandidate_verifier (n : Nat) : (applyCandidate n b).verifier = b.verifier := by
  simp only [applyCandidate]; (repeat' split) <;> simp
@[simp] theorem applyCandidate_alarm (n : Nat) : (applyCandidate n b).alarm = b.alarm := by
  simp only [applyCandidate]; (repeat' split) <;> simp
@[simp] theorem applyCandidate_counters (n : Nat) : (applyCandidate n b).counters = b.counters := by
  simp only [applyCandidate]; (repeat' split) <;> simp
@[simp] theorem applyCandidate_time (n : Nat) : (applyCandidate n b).time = b.time := by
  simp only [applyCandidate]; (repeat' split) <;> simp

/-! ### `choose` -/

@[simp] theorem choose_shaft  : (choose b).shaft = b.shaft := by
  simp only [choose]; split <;> simp
@[simp] theorem choose_board  : (choose b).board = b.board := by
  simp only [choose]; split <;> simp
@[simp] theorem choose_source  : (choose b).source = b.source := by
  simp only [choose]; split <;> simp
@[simp] theorem choose_planner  : (choose b).planner = b.planner := by
  simp only [choose]; split <;> simp
@[simp] theorem choose_chain  : (choose b).chain = b.chain := by
  simp only [choose]; split <;> simp
@[simp] theorem choose_verifier  : (choose b).verifier = b.verifier := by
  simp only [choose]; split <;> simp
@[simp] theorem choose_alarm  : (choose b).alarm = b.alarm := by
  simp only [choose]; split <;> simp
@[simp] theorem choose_counters  : (choose b).counters = b.counters := by
  simp only [choose]; split <;> simp
@[simp] theorem choose_time  : (choose b).time = b.time := by
  simp only [choose]; split <;> simp

/-! ### `releaseLock` -/

@[simp] theorem releaseLock_shaft  : (releaseLock b).shaft = b.shaft := by
  unfold releaseLock; split <;> simp
@[simp] theorem releaseLock_board  : (releaseLock b).board = b.board := by
  unfold releaseLock; split <;> simp
@[simp] theorem releaseLock_source  : (releaseLock b).source = b.source := by
  unfold releaseLock; split <;> simp
@[simp] theorem releaseLock_planner  : (releaseLock b).planner = b.planner := by
  unfold releaseLock; split <;> simp
@[simp] theorem releaseLock_chain  : (releaseLock b).chain = b.chain := by
  unfold releaseLock; split <;> simp
@[simp] theorem releaseLock_verifier  : (releaseLock b).verifier = b.verifier := by
  unfold releaseLock; split <;> simp
@[simp] theorem releaseLock_alarm  : (releaseLock b).alarm = b.alarm := by
  unfold releaseLock; split <;> simp
@[simp] theorem releaseLock_counters  : (releaseLock b).counters = b.counters := by
  unfold releaseLock; split <;> simp
@[simp] theorem releaseLock_time  : (releaseLock b).time = b.time := by
  unfold releaseLock; split <;> simp

/-! ### `reportLow` -/

@[simp] theorem reportLow_shaft (d : Nat) : (reportLow d b).shaft = b.shaft := by
  unfold reportLow; split <;> simp
@[simp] theorem reportLow_board (d : Nat) : (reportLow d b).board = b.board := by
  unfold reportLow; split <;> simp
@[simp] theorem reportLow_planner (d : Nat) : (reportLow d b).planner = b.planner := by
  unfold reportLow; split <;> simp
@[simp] theorem reportLow_chain (d : Nat) : (reportLow d b).chain = b.chain := by
  unfold reportLow; split <;> simp
@[simp] theorem reportLow_verifier (d : Nat) : (reportLow d b).verifier = b.verifier := by
  unfold reportLow; split <;> simp
@[simp] theorem reportLow_positioner (d : Nat) : (reportLow d b).positioner = b.positioner := by
  unfold reportLow; split <;> simp
@[simp] theorem reportLow_head (d : Nat) : (reportLow d b).head = b.head := by
  unfold reportLow; split <;> simp
@[simp] theorem reportLow_time (d : Nat) : (reportLow d b).time = b.time := by
  unfold reportLow; split <;> simp
@[simp] theorem reportLow_sent (d : Nat) : (reportLow d b).sent = b.sent := by
  unfold reportLow; split <;> simp

/-! ### `reportOut` -/

@[simp] theorem reportOut_shaft (d : Nat) : (reportOut d b).shaft = b.shaft := by
  unfold reportOut; split <;> simp
@[simp] theorem reportOut_board (d : Nat) : (reportOut d b).board = b.board := by
  unfold reportOut; split <;> simp
@[simp] theorem reportOut_planner (d : Nat) : (reportOut d b).planner = b.planner := by
  unfold reportOut; split <;> simp
@[simp] theorem reportOut_chain (d : Nat) : (reportOut d b).chain = b.chain := by
  unfold reportOut; split <;> simp
@[simp] theorem reportOut_verifier (d : Nat) : (reportOut d b).verifier = b.verifier := by
  unfold reportOut; split <;> simp
@[simp] theorem reportOut_positioner (d : Nat) : (reportOut d b).positioner = b.positioner := by
  unfold reportOut; split <;> simp
@[simp] theorem reportOut_head (d : Nat) : (reportOut d b).head = b.head := by
  unfold reportOut; split <;> simp
@[simp] theorem reportOut_time (d : Nat) : (reportOut d b).time = b.time := by
  unfold reportOut; split <;> simp
@[simp] theorem reportOut_sent (d : Nat) : (reportOut d b).sent = b.sent := by
  unfold reportOut; split <;> simp

/-! ### `settleGain` -/

@[simp] theorem settleGain_shaft (before : Source) (d : Nat) : (settleGain before d b).1.shaft = b.shaft := by
  unfold settleGain; split <;> simp
@[simp] theorem settleGain_board (before : Source) (d : Nat) : (settleGain before d b).1.board = b.board := by
  unfold settleGain; split <;> simp
@[simp] theorem settleGain_planner (before : Source) (d : Nat) : (settleGain before d b).1.planner = b.planner := by
  unfold settleGain; split <;> simp
@[simp] theorem settleGain_chain (before : Source) (d : Nat) : (settleGain before d b).1.chain = b.chain := by
  unfold settleGain; split <;> simp
@[simp] theorem settleGain_verifier (before : Source) (d : Nat) : (settleGain before d b).1.verifier = b.verifier := by
  unfold settleGain; split <;> simp
@[simp] theorem settleGain_positioner (before : Source) (d : Nat) : (settleGain before d b).1.positioner = b.positioner := by
  unfold settleGain; split <;> simp
@[simp] theorem settleGain_head (before : Source) (d : Nat) : (settleGain before d b).1.head = b.head := by
  unfold settleGain; split <;> simp
@[simp] theorem settleGain_alarm (before : Source) (d : Nat) : (settleGain before d b).1.alarm = b.alarm := by
  unfold settleGain; split <;> simp
@[simp] theorem settleGain_counters (before : Source) (d : Nat) : (settleGain before d b).1.counters = b.counters := by
  unfold settleGain; split <;> simp
@[simp] theorem settleGain_time (before : Source) (d : Nat) : (settleGain before d b).1.time = b.time := by
  unfold settleGain; split <;> simp
@[simp] theorem settleGain_sent (before : Source) (d : Nat) : (settleGain before d b).1.sent = b.sent := by
  unfold settleGain; split <;> simp

/-! ### `clearProving` -/

@[simp] theorem clearProving_shaft (d : Nat) : (clearProving d b).1.shaft = b.shaft := by
  simp [clearProving]
@[simp] theorem clearProving_board (d : Nat) : (clearProving d b).1.board = b.board := by
  simp [clearProving]
@[simp] theorem clearProving_planner (d : Nat) : (clearProving d b).1.planner = b.planner := by
  simp [clearProving]
@[simp] theorem clearProving_chain (d : Nat) : (clearProving d b).1.chain = b.chain := by
  simp [clearProving]
@[simp] theorem clearProving_verifier (d : Nat) : (clearProving d b).1.verifier = b.verifier := by
  simp [clearProving]
@[simp] theorem clearProving_positioner (d : Nat) : (clearProving d b).1.positioner = b.positioner := by
  simp [clearProving]
@[simp] theorem clearProving_head (d : Nat) : (clearProving d b).1.head = b.head := by
  simp [clearProving]
@[simp] theorem clearProving_alarm (d : Nat) : (clearProving d b).1.alarm = b.alarm := by
  simp [clearProving]
@[simp] theorem clearProving_counters (d : Nat) : (clearProving d b).1.counters = b.counters := by
  simp [clearProving]
@[simp] theorem clearProving_time (d : Nat) : (clearProving d b).1.time = b.time := by
  simp [clearProving]
@[simp] theorem clearProving_sent (d : Nat) : (clearProving d b).1.sent = b.sent := by
  simp [clearProving]

/-! ### `undoReservation` -/

@[simp] theorem undoReservation_shaft (n : Nat) : (undoReservation n b).1.shaft = b.shaft := by
  unfold undoReservation; (repeat' split) <;> simp
@[simp] theorem undoReservation_planner (n : Nat) : (undoReservation n b).1.planner = b.planner := by
  unfold undoReservation; (repeat' split) <;> simp
@[simp] theorem undoReservation_verifier (n : Nat) : (undoReservation n b).1.verifier = b.verifier := by
  unfold undoReservation; (repeat' split) <;> simp
@[simp] theorem undoReservation_alarm (n : Nat) : (undoReservation n b).1.alarm = b.alarm := by
  unfold undoReservation; (repeat' split) <;> simp
@[simp] theorem undoReservation_counters (n : Nat) : (undoReservation n b).1.counters = b.counters := by
  unfold undoReservation; (repeat' split) <;> simp
@[simp] theorem undoReservation_time (n : Nat) : (undoReservation n b).1.time = b.time := by
  unfold undoReservation; (repeat' split) <;> simp

/-! ### `cancelStep` -/

@[simp] theorem cancelStep_shaft (n : Nat) : (cancelStep b n).shaft = b.shaft := by
  simp [cancelStep]
@[simp] theorem cancelStep_planner (n : Nat) : (cancelStep b n).planner = b.planner := by
  simp [cancelStep]
@[simp] theorem cancelStep_verifier (n : Nat) : (cancelStep b n).verifier = b.verifier := by
  simp [cancelStep]
@[simp] theorem cancelStep_alarm (n : Nat) : (cancelStep b n).alarm = b.alarm := by
  simp [cancelStep]
@[simp] theorem cancelStep_counters (n : Nat) : (cancelStep b n).counters = b.counters := by
  simp [cancelStep]
@[simp] theorem cancelStep_time (n : Nat) : (cancelStep b n).time = b.time := by
  simp [cancelStep]

/-! ### `cancelFrom` -/

@[simp] theorem cancelFrom_shaft (k : Nat) : (cancelFrom k b).shaft = b.shaft := by
  exact foldl_leaves Blocks.shaft cancelStep (fun b n => cancelStep_shaft b n) _ b
@[simp] theorem cancelFrom_planner (k : Nat) : (cancelFrom k b).planner = b.planner := by
  exact foldl_leaves Blocks.planner cancelStep (fun b n => cancelStep_planner b n) _ b
@[simp] theorem cancelFrom_verifier (k : Nat) : (cancelFrom k b).verifier = b.verifier := by
  exact foldl_leaves Blocks.verifier cancelStep (fun b n => cancelStep_verifier b n) _ b
@[simp] theorem cancelFrom_alarm (k : Nat) : (cancelFrom k b).alarm = b.alarm := by
  exact foldl_leaves Blocks.alarm cancelStep (fun b n => cancelStep_alarm b n) _ b
@[simp] theorem cancelFrom_counters (k : Nat) : (cancelFrom k b).counters = b.counters := by
  exact foldl_leaves Blocks.counters cancelStep (fun b n => cancelStep_counters b n) _ b
@[simp] theorem cancelFrom_time (k : Nat) : (cancelFrom k b).time = b.time := by
  exact foldl_leaves Blocks.time cancelStep (fun b n => cancelStep_time b n) _ b

/-! ### `settleDispenser` -/

@[simp] theorem settleDispenser_shaft (before : Source) (d : Nat) : (settleDispenser before d b).1.shaft = b.shaft := by
  simp only [settleDispenser]; split <;> simp
@[simp] theorem settleDispenser_planner (before : Source) (d : Nat) : (settleDispenser before d b).1.planner = b.planner := by
  simp only [settleDispenser]; split <;> simp
@[simp] theorem settleDispenser_verifier (before : Source) (d : Nat) : (settleDispenser before d b).1.verifier = b.verifier := by
  simp only [settleDispenser]; split <;> simp
@[simp] theorem settleDispenser_alarm (before : Source) (d : Nat) : (settleDispenser before d b).1.alarm = b.alarm := by
  simp only [settleDispenser]; split <;> simp
@[simp] theorem settleDispenser_counters (before : Source) (d : Nat) : (settleDispenser before d b).1.counters = b.counters := by
  simp only [settleDispenser]; split <;> simp
@[simp] theorem settleDispenser_time (before : Source) (d : Nat) : (settleDispenser before d b).1.time = b.time := by
  simp only [settleDispenser]; split <;> simp

/-! ### `fireReel` -/

@[simp] theorem fireReel_shaft (d : Nat) : (fireReel b d).shaft = b.shaft := by
  simp only [fireReel]; (repeat' split) <;> simp
@[simp] theorem fireReel_board (d : Nat) : (fireReel b d).board = b.board := by
  simp only [fireReel]; (repeat' split) <;> simp
@[simp] theorem fireReel_planner (d : Nat) : (fireReel b d).planner = b.planner := by
  simp only [fireReel]; (repeat' split) <;> simp
@[simp] theorem fireReel_chain (d : Nat) : (fireReel b d).chain = b.chain := by
  simp only [fireReel]; (repeat' split) <;> simp
@[simp] theorem fireReel_verifier (d : Nat) : (fireReel b d).verifier = b.verifier := by
  simp only [fireReel]; (repeat' split) <;> simp
@[simp] theorem fireReel_positioner (d : Nat) : (fireReel b d).positioner = b.positioner := by
  simp only [fireReel]; (repeat' split) <;> simp
@[simp] theorem fireReel_head (d : Nat) : (fireReel b d).head = b.head := by
  simp only [fireReel]; (repeat' split) <;> simp
@[simp] theorem fireReel_time (d : Nat) : (fireReel b d).time = b.time := by
  simp only [fireReel]; (repeat' split) <;> simp
@[simp] theorem fireReel_sent (d : Nat) : (fireReel b d).sent = b.sent := by
  simp only [fireReel]; (repeat' split) <;> simp

/-! ### `refill` -/

@[simp] theorem refill_shaft (d : Nat) (c : Condition) : (refill d c b).shaft = b.shaft := by
  simp only [refill]; split <;> simp
@[simp] theorem refill_board (d : Nat) (c : Condition) : (refill d c b).board = b.board := by
  simp only [refill]; split <;> simp
@[simp] theorem refill_planner (d : Nat) (c : Condition) : (refill d c b).planner = b.planner := by
  simp only [refill]; split <;> simp
@[simp] theorem refill_chain (d : Nat) (c : Condition) : (refill d c b).chain = b.chain := by
  simp only [refill]; split <;> simp
@[simp] theorem refill_verifier (d : Nat) (c : Condition) : (refill d c b).verifier = b.verifier := by
  simp only [refill]; split <;> simp
@[simp] theorem refill_positioner (d : Nat) (c : Condition) : (refill d c b).positioner = b.positioner := by
  simp only [refill]; split <;> simp
@[simp] theorem refill_head (d : Nat) (c : Condition) : (refill d c b).head = b.head := by
  simp only [refill]; split <;> simp
@[simp] theorem refill_time (d : Nat) (c : Condition) : (refill d c b).time = b.time := by
  simp only [refill]; split <;> simp
@[simp] theorem refill_sent (d : Nat) (c : Condition) : (refill d c b).sent = b.sent := by
  simp only [refill]; split <;> simp

/-! ### `returnStep` -/

@[simp] theorem returnStep_shaft (n : Nat) (w : Return) : (returnStep n w b).1.shaft = b.shaft := by
  unfold returnStep; (repeat' split) <;> simp
@[simp] theorem returnStep_planner (n : Nat) (w : Return) : (returnStep n w b).1.planner = b.planner := by
  unfold returnStep; (repeat' split) <;> simp
@[simp] theorem returnStep_verifier (n : Nat) (w : Return) : (returnStep n w b).1.verifier = b.verifier := by
  unfold returnStep; (repeat' split) <;> simp
@[simp] theorem returnStep_time (n : Nat) (w : Return) : (returnStep n w b).1.time = b.time := by
  unfold returnStep; (repeat' split) <;> simp

/-! ### `settlePurge` -/

@[simp] theorem settlePurge_shaft  : (settlePurge b).1.shaft = b.shaft := by
  unfold settlePurge; split <;> simp
@[simp] theorem settlePurge_board  : (settlePurge b).1.board = b.board := by
  unfold settlePurge; split <;> simp
@[simp] theorem settlePurge_source  : (settlePurge b).1.source = b.source := by
  unfold settlePurge; split <;> simp
@[simp] theorem settlePurge_chain  : (settlePurge b).1.chain = b.chain := by
  unfold settlePurge; split <;> simp
@[simp] theorem settlePurge_verifier  : (settlePurge b).1.verifier = b.verifier := by
  unfold settlePurge; split <;> simp
@[simp] theorem settlePurge_positioner  : (settlePurge b).1.positioner = b.positioner := by
  unfold settlePurge; split <;> simp
@[simp] theorem settlePurge_head  : (settlePurge b).1.head = b.head := by
  unfold settlePurge; split <;> simp
@[simp] theorem settlePurge_alarm  : (settlePurge b).1.alarm = b.alarm := by
  unfold settlePurge; split <;> simp
@[simp] theorem settlePurge_counters  : (settlePurge b).1.counters = b.counters := by
  unfold settlePurge; split <;> simp
@[simp] theorem settlePurge_time  : (settlePurge b).1.time = b.time := by
  unfold settlePurge; split <;> simp
@[simp] theorem settlePurge_sent  : (settlePurge b).1.sent = b.sent := by
  unfold settlePurge; split <;> simp

/-! ### `depart` -/

@[simp] theorem depart_shaft (g : Bool) (p : Nat) : (depart g p b).1.shaft = b.shaft := by
  unfold depart; (repeat' split) <;> simp
@[simp] theorem depart_verifier (g : Bool) (p : Nat) : (depart g p b).1.verifier = b.verifier := by
  unfold depart; (repeat' split) <;> simp
@[simp] theorem depart_time (g : Bool) (p : Nat) : (depart g p b).1.time = b.time := by
  unfold depart; (repeat' split) <;> simp

/-! ### `judgeSlip` -/

@[simp] theorem judgeSlip_shaft (was : Settle) : (judgeSlip was b).shaft = b.shaft := by
  unfold judgeSlip; (repeat' split) <;> simp
@[simp] theorem judgeSlip_source (was : Settle) : (judgeSlip was b).source = b.source := by
  unfold judgeSlip; (repeat' split) <;> simp
@[simp] theorem judgeSlip_planner (was : Settle) : (judgeSlip was b).planner = b.planner := by
  unfold judgeSlip; (repeat' split) <;> simp
@[simp] theorem judgeSlip_chain (was : Settle) : (judgeSlip was b).chain = b.chain := by
  unfold judgeSlip; (repeat' split) <;> simp
@[simp] theorem judgeSlip_verifier (was : Settle) : (judgeSlip was b).verifier = b.verifier := by
  unfold judgeSlip; (repeat' split) <;> simp
@[simp] theorem judgeSlip_head (was : Settle) : (judgeSlip was b).head = b.head := by
  unfold judgeSlip; (repeat' split) <;> simp
@[simp] theorem judgeSlip_time (was : Settle) : (judgeSlip was b).time = b.time := by
  unfold judgeSlip; (repeat' split) <;> simp

/-- A slip changes one thing of the positioner, its report (R116). -/
theorem judgeSlip_positioner (was : Settle) : (judgeSlip was b).positioner =
    { b.positioner with slipReported := b.positioner.slipReported
      || (decide (was = .fine) && b.positioner.lock.isSome && decide (b.positioner.settle ≠ .fine)) } := by
  have kept : ∀ r, r = b.positioner.slipReported → b.positioner = { b.positioner with slipReported := r } := by
    rintro _ rfl; rfl
  unfold judgeSlip
  split
  · next h => exact kept _ (by simp [h])
  · next n h =>
    split
    · next g => simp [h, g]
    · next g =>
      refine kept _ ?_
      clear kept
      generalize b.positioner.slipReported = r at g ⊢
      cases r
      · simp only [Bool.false_or, h, Option.isSome_some, Bool.and_true, Bool.and_eq_false_iff, decide_eq_false_iff_not]
        exact (em (was = .fine)).elim (fun e => .inr fun e' => g ⟨e, e', rfl⟩) .inl
      · rfl

/-! ### `Blocks.timesOut` -/

/-- When a wait by itself reaches the dwell limit: the step at offset 0 is offered in an open TRANSFER whose offer has not
been made, passes the tier check, is not ready, and stands one below the limit or higher (R124 to R128). -/
theorem Blocks.timesOut_eq_some (c : StepContext) : b.timesOut = some c ↔
    b.shaft.live = true ∧ b.shaft.isOpen .transfer = true ∧ b.shaft.offerTaken = false ∧ b.alarm.demand < 3
      ∧ (∃ o, b.offered = some (o, c)) ∧ b.board.lowerTierUnresolved c.tier = false
      ∧ (b.firstFailing c).isSome = true ∧ b.head.dwellLimit ≤ min (c.dwell + 1) 64 := by
  unfold Blocks.timesOut
  split
  · next h =>
    cases ho : b.offered with
    | none => simp
    | some p =>
      obtain ⟨o, d⟩ := p
      simp only [Option.bind_some]
      split
      · next g => constructor
                  · rintro ⟨⟩; exact ⟨h.1, h.2.1, h.2.2.1, h.2.2.2, ⟨o, rfl⟩, g⟩
                  · rintro ⟨-, -, -, -, ⟨o', he⟩, -⟩; cases he; rfl
      · next g => constructor
                  · rintro ⟨⟩
                  · rintro ⟨-, -, -, -, ⟨o', he⟩, hg⟩; cases he; exact absurd hg g
  · next h => constructor
              · rintro ⟨⟩
              · rintro ⟨h1, h2, h3, h4, -⟩; exact absurd ⟨h1, h2, h3, h4⟩ h

end Sys2Proof.Machine
end

