-- ==== Sys2Proof/Laws/Link.lean ====
section
/-! SUPPORT. Laws/Link.lean: what the dispatcher does with the oldest record of the input buffer (R180, R181). A proof about a
dispatched row cites these and never unfolds the choice of a record. -/

namespace Sys2Proof.Machine

variable {s : State} {r : Record} {rest : List Record} {row : Row}

/-- R180: the oldest record, when it is takeable and a place is free, is the one the dispatcher takes next. -/
theorem nextRecord_of_offers (h : s.offers r rest) (ht : takeable s.blocks.board.windowFull false r = true) :
    nextRecord s = some ⟨[], r, rest⟩ := by
  obtain ⟨hi, hp⟩ := h
  have hp' : s.link.hasPlace = true := by simpa [LinkPort.hasPlace] using hp
  simp [nextRecord, hp', hi, pickFrom, ht]

/-- R180: everything a dispatched row can do: nothing, or its function on the record that is its own. -/
theorem takeRow_cases (row : Row) (f : Record → State → State) (s : State) :
    takeRow row f s = s
      ∨ ∃ p, nextRecord s = some p ∧ p.record.row = row ∧ takeRow row f s = f p.record (s.without p) := by
  unfold takeRow
  split
  · exact .inl rfl
  · rename_i p hp
    split
    · exact .inr ⟨p, hp, ‹_›, rfl⟩
    · exact .inl rfl

/-- R180: a row whose record is the oldest, takeable, with a place free, acts on it. -/
theorem takeRow_of_offers (f : Record → State → State) (h : s.offers r rest)
    (ht : takeable s.blocks.board.windowFull false r = true) (hr : r.row = row) :
    takeRow row f s = f r { s with link := { s.link with input := rest } } := by
  simp [takeRow, nextRecord_of_offers h ht, hr, State.without, State.onLink]

/-- R181: a record accepted by its owner leaves the buffer, and its blocks stand. -/
theorem answerRow_accept {f : List Byte → Blocks → Answer} {b : Blocks} (h : s.offers r rest)
    (ht : takeable s.blocks.board.windowFull false r = true) (hr : r.row = row)
    (hf : f r.payload s.blocks = .accept b) :
    answerRow row r.payload.length f s = .next (s.taken rest b) := by
  simp [answerRow, takeRow_of_offers _ h ht hr, hf, Answer.give, State.taken]

/-- R181: a record refused by its owner is answered by a REFUSAL. -/
theorem answerRow_refuse {f : List Byte → Blocks → Answer} {reason : RefusalReason} {detail : Detail} (h : s.offers r rest)
    (ht : takeable s.blocks.board.windowFull false r = true) (hr : r.row = row)
    (hf : f r.payload s.blocks = .refuse reason detail s.blocks) :
    answerRow row r.payload.length f s = .next (s.answered rest (refusal r.type reason detail)) := by
  simp [answerRow, takeRow_of_offers _ h ht hr, hf, Answer.give, place, State.onLink, State.answered]

/-- R181: a record replied to by its owner. -/
theorem answerRow_reply {f : List Byte → Blocks → Answer} {reply : Record} (h : s.offers r rest)
    (ht : takeable s.blocks.board.windowFull false r = true) (hr : r.row = row)
    (hf : f r.payload s.blocks = .reply reply s.blocks) :
    answerRow row r.payload.length f s = .next (s.answered rest reply) := by
  simp [answerRow, takeRow_of_offers _ h ht hr, hf, Answer.give, place, State.onLink, State.answered]

/-- R181: a record of a length other than its layout's is refused RANGE with its length. -/
theorem answerRow_length {f : List Byte → Blocks → Answer} {length : Nat} (h : s.offers r rest)
    (ht : takeable s.blocks.board.windowFull false r = true) (hr : r.row = row) (hl : r.payload.length ≠ length) :
    answerRow row length f s = .next (s.answered rest (refusal r.type .range (.number r.payload.length))) := by
  simp [answerRow, takeRow_of_offers _ h ht hr, hl, Answer.give, place, State.onLink, State.answered]

end Sys2Proof.Machine
end

