-- ==== Sys2Proof/Laws/Reports.lean ====
section
/-! SUPPORT. Laws/Reports.lean: the report order at the end of an event (R28): what `orderReports` leaves alone, and what it
does to the resolutions of the event. -/

namespace Sys2Proof.Machine

/-! ## Ascending order -/

theorem insertAscending_perm (n : Nat) (l : List Nat) : (insertAscending n l).Perm (n :: l) := by
  induction l with
  | nil => exact .refl _
  | cons m rest ih =>
    unfold insertAscending
    split
    · exact .refl _
    · exact (ih.cons m).trans (.swap n m rest)

/-- The list put in order has the same entries, each as often. -/
theorem ascending_perm (l : List Nat) : (ascending l).Perm l := by
  induction l with
  | nil => exact .refl _
  | cons n rest ih => exact (insertAscending_perm n _).trans (ih.cons n)

theorem insertAscending_sorted (n : Nat) {l : List Nat} (h : l.Pairwise (· ≤ ·)) :
    (insertAscending n l).Pairwise (· ≤ ·) := by
  induction l with
  | nil => simp [insertAscending]
  | cons m rest ih =>
    obtain ⟨hm, hr⟩ := List.pairwise_cons.mp h
    unfold insertAscending
    split
    · rename_i hn
      refine List.pairwise_cons.mpr ⟨fun x hx => ?_, h⟩
      rcases List.mem_cons.mp hx with rfl | hx
      · exact hn
      · exact hn.trans (hm x hx)
    · rename_i hn
      refine List.pairwise_cons.mpr ⟨fun x hx => ?_, ih hr⟩
      rcases List.mem_cons.mp ((insertAscending_perm n rest).mem_iff.mp hx) with rfl | hx
      · omega
      · exact hm x hx

/-- The list put in order is in order. -/
theorem ascending_sorted (l : List Nat) : (ascending l).Pairwise (· ≤ ·) := by
  induction l with
  | nil => exact .nil
  | cons n rest ih => exact insertAscending_sorted n ih

/-- A list in order stays as it is. -/
theorem ascending_of_sorted {l : List Nat} (h : l.Pairwise (· ≤ ·)) : ascending l = l := by
  induction l with
  | nil => rfl
  | cons n rest ih =>
    obtain ⟨hn, hr⟩ := List.pairwise_cons.mp h
    have e : ascending (n :: rest) = insertAscending n (ascending rest) := rfl
    rw [e, ih hr]
    cases rest with
    | nil => rfl
    | cons m rest => simp [insertAscending, hn m (by simp)]

/-! ## `orderReports` -/

variable (a b : Blocks)

@[simp] theorem orderReports_shaft : (orderReports a b).shaft = b.shaft := rfl
@[simp] theorem orderReports_source : (orderReports a b).source = b.source := rfl
@[simp] theorem orderReports_planner : (orderReports a b).planner = b.planner := rfl
@[simp] theorem orderReports_chain : (orderReports a b).chain = b.chain := rfl
@[simp] theorem orderReports_verifier : (orderReports a b).verifier = b.verifier := rfl
@[simp] theorem orderReports_positioner : (orderReports a b).positioner = b.positioner := rfl
@[simp] theorem orderReports_head : (orderReports a b).head = b.head := rfl
@[simp] theorem orderReports_alarm : (orderReports a b).alarm = b.alarm := rfl
@[simp] theorem orderReports_counters : (orderReports a b).counters = b.counters := rfl
@[simp] theorem orderReports_time : (orderReports a b).time = b.time := rfl
@[simp] theorem orderReports_sent : (orderReports a b).sent = b.sent := rfl
@[simp] theorem orderReports_window : (orderReports a b).board.window = b.board.window := rfl
@[simp] theorem orderReports_phase : (orderReports a b).board.phase = b.board.phase := rfl
@[simp] theorem orderReports_tallies : (orderReports a b).board.tallies = b.board.tallies := rfl
@[simp] theorem orderReports_expectedStep : (orderReports a b).board.expectedStep = b.board.expectedStep := rfl
@[simp] theorem orderReports_goodMask : (orderReports a b).board.goodMask = b.board.goodMask := rfl
@[simp] theorem orderReports_context? (n : Nat) : (orderReports a b).board.context? n = b.board.context? n := rfl

/-- R28: the resolutions `l` of an event join the report order in ascending step number. -/
theorem orderReports_reportOrder {a b : Blocks} {l : List Nat} (h : b.board.reportOrder = a.board.reportOrder ++ l) :
    (orderReports a b).board.reportOrder = a.board.reportOrder ++ ascending l := by
  simp [orderReports, Board.orderReports, Blocks.onBoard, h]

/-- R28: an event whose resolutions came in ascending step number leaves the report order as it stands. -/
theorem orderReports_of_sorted {a b : Blocks} {l : List Nat} (h : b.board.reportOrder = a.board.reportOrder ++ l)
    (hl : l.Pairwise (· ≤ ·)) : orderReports a b = b := by
  have e : b.board.reportOrder.take a.board.reportOrder.length
      ++ ascending (b.board.reportOrder.drop a.board.reportOrder.length) = b.board.reportOrder := by
    rw [h]
    simp [ascending_of_sorted hl]
  simp only [orderReports, Blocks.onBoard, Board.orderReports, e]

/-- An event that resolves no step leaves the report order alone. -/
theorem orderReports_of_same {a b : Blocks} (h : b.board.reportOrder = a.board.reportOrder) : orderReports a b = b :=
  orderReports_of_sorted (l := []) (by simp [h]) .nil

/-- An event that resolves one step leaves it at the tail. -/
theorem orderReports_of_one {a b : Blocks} {n : Nat} (h : b.board.reportOrder = a.board.reportOrder ++ [n]) :
    orderReports a b = b :=
  orderReports_of_sorted h (by simp)

end Sys2Proof.Machine
end

