-- ==== Sys2Proof/Tests/Slice0.lean ====
section
/-! SUPPORT. Tests/Slice0.lean: the checks of WellFormed on ill-formed commands, small tests whose expected results are read
off the rules of spec/, and one witness for the hypotheses of each statement of the certificates, a witness for each clause
at a boundary of its range. -/

namespace Sys2Proof.Tests

open Sys2Proof.Machine

set_option Elab.async false

/-! ## WellFormed refuses an ill-formed command, one for each check -/

theorem test_wellFormed_bank : (Instr.bankReply 12 0 0 0 0).wellFormed = false ∧ (Instr.bankReply 11 15 0 0 0).wellFormed = true := by
  decide

theorem test_wellFormed_frame : (Instr.bankReply 0 16 0 0 0).wellFormed = false := by decide

theorem test_wellFormed_count : (Instr.measureSenseTrip 65536).wellFormed = false
    ∧ (Instr.measureSenseTrip 65535).wellFormed = true := by decide

theorem test_wellFormed_verifyCount :
    (Instr.encoderSample true false { verifyCount := 65536 }).wellFormed = false := by decide

theorem test_wellFormed_order :
    (Instr.encoderSample true false { order := [.fire, .fire] }).wellFormed = false
      ∧ (Instr.encoderSample true false { order := [.fire, .gate] }).wellFormed = true := by decide

theorem test_wellFormed_number : (Instr.positionSample true 256 0 0 .turning).wellFormed = false := by decide

theorem test_wellFormed_motorX : (Instr.positionSample true 0 2147483648 0 .turning).wellFormed = false := by decide

theorem test_wellFormed_motorY : (Instr.positionSample true 0 0 (-2147483649) .turning).wellFormed = false
    ∧ (Instr.positionSample true 0 0 (-2147483648) .turning).wellFormed = true := by decide

theorem test_wellFormed_stage : (Instr.positionSample true 0 0 0 (.quarter 4)).wellFormed = false
    ∧ (Instr.positionSample true 0 0 0 (.quarter 3)).wellFormed = true := by decide

/-! ## A configured machine to test on -/

/-- The cam table of the tests: the ten windows in table order, and park at 1400. -/
def cam : Vector CamEntry 11 :=
  #v[⟨true, 0, 200⟩, ⟨true, 240, 400⟩, ⟨true, 240, 560⟩, ⟨true, 240, 400⟩, ⟨true, 440, 560⟩, ⟨true, 600, 760⟩,
    ⟨true, 760, 920⟩, ⟨true, 900, 1000⟩, ⟨true, 1020, 1180⟩, ⟨true, 1300, 1380⟩, ⟨true, 1400, 0⟩]

def resistor : Kind := ⟨.resistive, 0, 0, 4, 1, 2, some (3, 3), 75, 2, .stop, [21], .fill, none, 5⟩

def diode : Kind := { resistor with mode := .diode }

/-- Dispenser 21, bank 2 position 5, stands at station offset 10. -/
def reel : Dispenser := ⟨true, true, 10, 100, 20, true, 100, .loaded, .operational, false, 0, 0, false, false, false⟩

/-- Every table loaded, the shaft REGISTERED and at rest at angle 0, a board OPEN, the chain empty. -/
def base : Blocks :=
  { Blocks.reset with
    shaft := { Shaft.reset with cam := cam, registered := true }
    board := { Board.reset with phase := .opened, id := 7001, goodMask := 1#16 }
    source := { Source.reset with
      kinds := put Source.reset.kinds 3 ⟨some resistor, 0, false⟩
      dispensers := put Source.reset.dispensers 21 reel }
    chain := { Chain.reset with
      loaded := true, length := 64, verifyOffset := 6, gateOffset := 3, slots := List.replicate 64 .empty }
    verifier := { Verifier.reset with
      bands := put (put (put (put Verifier.reset.bands 0 (some 100)) 1 (some 200)) 2 (some 300)) 3 (some 400) }
    positioner := { Positioner.reset with
      images := put Positioner.reset.images 0 ⟨true, 0, 0⟩
      config := ⟨true, 4096, 4096, 30000, 25000, 15000, 10000, 0, 100000, 0, 100000, 4, 20⟩ }
    head := { Head.reset with profiles := put Head.reset.profiles 2 (some ⟨.inward, 1⟩) } }

/-- A live revolution in CYCLING at an angle. -/
def cyclingAt (angle : Nat) (b : Blocks) : Blocks :=
  { b with shaft := { b.shaft with
      angle := angle, distance := angle, drive := .driving, machine := .cycling, live := true } }

def inState (m : MachineState) (b : Blocks) : Blocks :=
  { b with shaft := { b.shaft with machine := m, drive := if m.turning then .driving else .held } }

/-- A code made LATCHED. -/
def latched (code : Nat) (b : Blocks) : Blocks :=
  { b with alarm := { b.alarm with codes := adjust b.alarm.codes code fun e => { e with state := .latched, count := 1 } } }

/-- A slot filled. -/
def slotted (pitch : Nat) (x : Slot) (b : Blocks) : Blocks :=
  { b with chain := { b.chain with slots := b.chain.slots.set pitch x } }

def noBoard (b : Blocks) : Blocks := { b with board := { b.board with phase := .none } }

def closing (b : Blocks) : Blocks := { b with board := { b.board with phase := .closing } }

def withKind (id : Nat) (k : Kind) (b : Blocks) : Blocks :=
  { b with source := { b.source with kinds := put b.source.kinds id ⟨some k, 0, false⟩ } }

def withReel (d : Nat) (e : Dispenser) (b : Blocks) : Blocks :=
  { b with source := { b.source with dispensers := put b.source.dispensers d e } }

/-- A code given a class. -/
def classed (code : Nat) (cls : AlarmClass) (b : Blocks) : Blocks :=
  { b with alarm := { b.alarm with codes := adjust b.alarm.codes code fun e => { e with cls := cls } } }

/-- Step 0 alone in the window, in a state. -/
def stepIn (st : StepState) : StepContext :=
  ⟨0, 3, 0, 12345, 4000, 0, 0, none, some (32655, 31000), st, some 21, none, 0, 0, none, false, false, false, false, none⟩

def windowOf (c : StepContext) (b : Blocks) : Blocks :=
  { b with board := { b.board with window := [c], expectedStep := 1 } }

def stateOf (b : Blocks) : State := { State.reset with blocks := b }

/-- The record waits in the input buffer. -/
def given (r : Record) (b : Blocks) : State := { stateOf b with link := { State.reset.link with input := [r] } }

/-- The state a command leaves. -/
def after (i : Instr) (s : State) : State :=
  match exec i s with
  | .next t => t
  | .fault _ => s
  | .refused _ => s

/-- The refusal at the tail of the upstream queue, as its payload. -/
def answer (s : State) : List Byte := (s.link.upstream.getLast?.map Record.payload).getD []

/-! ## Small tests: what the rules say, one step at a time -/

/-- The CRC of R176 is the CRC-16 with the polynomial 1021h and the initial value FFFFh, whose published check value over the
ASCII digits 1 to 9 is 29B1h. -/
theorem test_crc_check_value : crcOf [0x31, 0x32, 0x33, 0x34, 0x35, 0x36, 0x37, 0x38, 0x39] = 0x29B1#16 := by decide +kernel

/-- R1: 1439 is followed by 0, and the mark at count 1440 registers the shaft. -/
theorem test_encoderSample_crossing :
    (after (.encoderSample true true {}) (stateOf { base with
      shaft := { base.shaft with angle := 1439, distance := 1439, registered := false } })).blocks.shaft
      = { base.shaft with angle := 0, distance := 0, registered := true } := by decide +kernel

/-- R7, R9: at park the shaft brakes; with a park request and no work the machine waits. -/
theorem test_encoderSample_park :
    let t := after (.encoderSample true false {}) (stateOf { cyclingAt 1399 base with
      shaft := { (cyclingAt 1399 base).shaft with parkRequested := true } })
    t.blocks.shaft.machine = .waiting ∧ t.blocks.shaft.drive = .held := by decide +kernel

/-- R91, R93, R94, R96: 150 ticks lie in band 1, expected, so the step is VERIFIED. -/
theorem test_measureSenseTrip_pass :
    let t := after (.measureSenseTrip 150) (stateOf { windowOf (stepIn .fired)
      (slotted 6 (.occupied ⟨some 0, some 21, some 3, .unmeasured, .insert, none, false⟩) base) with
      verifier := { base.verifier with running := some ⟨6, 3, resistor, .single⟩ } })
    t.blocks.chain.slotOf 6 = .occupied ⟨some 0, some 21, some 3, .passed, .insert, none, false⟩
      ∧ t.blocks.board.window.map (fun c => (c.state, c.verify)) = [(.verified, some ⟨.pass, some 1, some 150⟩)] := by
  decide +kernel

/-- R94, R96: 100 ticks lie in band 0, outside both ranges: VALUE, and the slot turns to DIVERT. -/
theorem test_measureSenseTrip_value :
    let t := after (.measureSenseTrip 100) (stateOf { windowOf (stepIn .fired)
      (slotted 6 (.occupied ⟨some 0, some 21, some 3, .unmeasured, .insert, none, false⟩) base) with
      verifier := { base.verifier with running := some ⟨6, 3, resistor, .single⟩ } })
    t.blocks.chain.slotOf 6 = .occupied ⟨some 0, some 21, some 3, .failed, .divert, some .verify, false⟩
      ∧ (look t.blocks.source.dispensers 21).condition = .suspect := by decide +kernel

/-- R91: RANGE 0–1 is set by the measurement's kind, and held after it. -/
theorem test_range_lines :
    let s := stateOf (slotted 6 (.occupied ⟨some 0, some 21, some 3, .unmeasured, .insert, none, false⟩)
      (windowOf (stepIn .fired)
        (cyclingAt 239 (withKind 3 { resistor with range := 2 } { base with shaft := { base.shaft with advance := true } }))))
    let t := after (.encoderSample true false { presenceA := true, presenceB := true }) s
    t.blocks.verifier.running.isSome = true ∧ t.blocks.rangeLines = 2
      ∧ (after (.measureSenseTrip 150) t).blocks.measureDriveLine = none
      ∧ (after (.measureSenseTrip 150) t).blocks.rangeLines = 2 := by decide +kernel

/-- R92: the last band's max count is 400, which 401 exceeds. -/
theorem test_verifyPhaseLimit :
    (after .verifyPhaseLimit (stateOf { base with
      verifier := { base.verifier with running := some ⟨6, 3, diode, .forward⟩ } })).blocks.verifier.running
      = some ⟨6, 3, diode, .reverse .opened 401⟩ := by decide +kernel

/-- R99: the gate leaves home. -/
theorem test_gateHomeNegated :
    (after .gateHomeNegated (stateOf { base with chain := { base.chain with gatePending := some 3, gateFire := true } })
      ).blocks.gateFireLine = false := by decide +kernel

/-- R99, R83, R74: a DIVERT component leaves by the gate; its deselected step is resolved, the image being bad. -/
theorem test_gateHomeAsserted :
    let t := after .gateHomeAsserted (stateOf (windowOf (stepIn .diverting)
      (slotted 3 (.occupied ⟨some 0, some 21, some 3, .passed, .divert, some .deselected, false⟩) { base with
        board := { base.board with goodMask := 0#16 }
        shaft := { base.shaft with opened := put base.shaft.opened 3 true }
        chain := { base.chain with gatePending := some 3 } })))
    t.blocks.chain.slotOf 3 = .empty
      ∧ t.blocks.board.window.map StepContext.outcome = [some .skippedBadImage] := by decide +kernel

/-- R127, Table 7-3: the sixteenth wait of a step whose table is not settled, so code 14; once TRANSFER's offer has been made
the row does nothing. -/
theorem test_dwellTimeout :
    let s := stateOf (windowOf { stepIn .verified with dwell := 15 }
      (slotted 0 (.occupied ⟨some 0, some 21, some 3, .passed, .insert, none, false⟩) { cyclingAt 450 base with
        shaft := { (cyclingAt 450 base).shaft with opened := put base.shaft.opened 4 true } }))
    let t := after .dwellTimeout s
    (look t.blocks.alarm.codes 14).state = .latched ∧ t.blocks.board.window.map StepContext.dwell = [0]
      ∧ after .dwellTimeout t = t := by
  decide +kernel

/-- R128: a limit of 2 loaded while a step has waited five times is judged at its next wait, at the sample that opens
TRANSFER, and not before. -/
theorem test_dwell_limit_lowered :
    let s := windowOf { stepIn .verified with dwell := 5 }
      (slotted 0 (.occupied ⟨some 0, some 21, some 3, .passed, .insert, none, false⟩) { cyclingAt 439 base with
        shaft := { (cyclingAt 439 base).shaft with offerTaken := true } })
    let t := after .loadLimits (given ⟨0x10#8, [10, 0, 3, 2, 2, 0]⟩ s)
    after .dwellTimeout t = t ∧ t.blocks.alarm = s.alarm
      ∧ (look (after (.encoderSample true false {}) t).blocks.alarm.codes 14).state = .latched := by decide +kernel

/-- R86, R16: an unbidden index is a STOP-NOW alarm, which brakes and halts. -/
theorem test_chainIndexPulse :
    let t := after .chainIndexPulse (stateOf (cyclingAt 600 base))
    t.blocks.shaft.machine = .halted ∧ t.blocks.alarm.presented = some 7 ∧ t.blocks.shaft.angle = 600 := by decide +kernel

/-- R88, R74, R75: a GATE FAIL strip counts as a make-up, and the step is planned again at once. -/
theorem test_stripSensorPulse :
    let t := after .stripSensorPulse (stateOf (windowOf (stepIn .stripping)
      (slotted 0 (.occupied ⟨some 0, some 21, some 3, .passed, .strip, some .gateFail, false⟩) { base with
        chain := { base.chain with stripPending := some 0 } })))
    t.blocks.chain.slotOf 0 = .empty ∧ t.blocks.chain.slotOf 11 = .reserved 0 21
      ∧ t.blocks.board.window.map (fun c => (c.state, c.makeUps)) = [(.planned, 1)] := by decide +kernel

/-- R47, R85: a proving component that left the verify station with no result, and leaves the chain FAILED, was never
measured: its dispenser is no longer proving in flight. One that was measured leaves the flag to its successor. -/
theorem test_proving_cleared :
    let b := { base with
      source := { base.source with
        dispensers := put base.source.dispensers 21 { reel with condition := .proving, proving := true } }
      chain := { base.chain with stripPending := some 0 } }
    let s := fun unjudged =>
      stateOf (slotted 0 (.occupied ⟨none, some 21, some 3, .failed, .strip, some .orphan, unjudged⟩) b)
    (look (after .stripSensorPulse (s true)).blocks.source.dispensers 21).proving = false
      ∧ (look (after .stripSensorPulse (s false)).blocks.source.dispensers 21).proving = true := by decide +kernel

/-- R116: the slip of a locked step whose context has left the window still has its kind as context. -/
theorem test_slip_kind :
    let t := after (.positionSample true 9 150 200 (.quarter 1)) (stateOf { base with positioner := { base.positioner with
      targetNumber := 9, target := some ⟨100, 200, 1, 0⟩, coarseRun := 8, fineRun := 16, lock := some 0
      lockKind := some 3 } })
    (look t.blocks.alarm.codes 13).context = ⟨some 0, none, some 3⟩ := by decide +kernel

def inserting (angle : Nat) (window : Nat) (b : Blocks) : State :=
  stateOf (windowOf (stepIn .inserting) { cyclingAt angle b with
    shaft := { (cyclingAt angle b).shaft with opened := put b.shaft.opened window true }
    head := { b.head with inhibit := false, record := some ⟨0, 3, some 21, false, false, false, false, false, false⟩ }
    positioner := { b.positioner with lock := some 0 } })

/-- R129, R130, R132: each line is seen in its window. -/
theorem test_lines_seen :
    ((after .jawsClosedAsserted (inserting 500 4 base)).blocks.head.record.map InsertionRecord.jaws = some true)
      ∧ ((after .headDownAsserted (inserting 700 5 base)).blocks.head.record.map InsertionRecord.down = some true)
      ∧ ((after .clinchReturnRise (inserting 800 6 base)).blocks.head.record.map InsertionRecord.returned = some true)
      ∧ ((after (.leadContactClose .b) (inserting 950 7 base)).blocks.head.record.map
          (fun r => (r.leadA, r.leadB)) = some (false, true)) := by decide +kernel

/-- R28, R100, R133: at SENSE close step 5 is resolved MISINSERTED, and MISINSERT, loaded as STOP-NOW, brakes; the gate action cut
off at that event resolves step 2 of a bad image. They join the report order by number. -/
theorem test_report_order :
    let c := { stepIn .inserting with number := 5, override := some .stop }
    let s := inserting 999 7 (slotted 3 (.occupied ⟨some 2, some 21, some 3, .passed, .divert, some .deselected, false⟩) { base with
      chain := { base.chain with gatePending := some 3, gateFire := true }
      alarm := { base.alarm with codes := adjust base.alarm.codes 19 fun e => { e with cls := .stopNow } } })
    let t := after (.encoderSample true false {}) { s with blocks := { s.blocks with
      board := { s.blocks.board with window := [{ stepIn .diverting with number := 2, image := 1 }, c], expectedStep := 6 }
      head := { s.blocks.head with record := some ⟨5, 3, some 21, true, true, true, true, false, false⟩ } } }
    t.blocks.shaft.machine = .halted ∧ t.blocks.board.reportOrder = [2, 5]
      ∧ t.blocks.board.window.map StepContext.outcome = [some .skippedBadImage, some .misinserted] := by decide +kernel

/-- R131: HEAD UP in RETRACT releases the lock. -/
theorem test_headUpAsserted :
    (after .headUpAsserted (inserting 1050 8 base)).blocks.positioner.lock = none := by decide +kernel

/-- R108, R109: the sixteenth sample within the fine window settles the table FINE. -/
theorem test_positionSample_fine :
    (after (.positionSample true 9 104 196 (.quarter 1)) (stateOf { base with positioner := { base.positioner with
      targetNumber := 9, target := some ⟨100, 200, 1, 0⟩, coarseRun := 8, fineRun := 15 } })).blocks.positioner.settle
      = .fine := by decide +kernel

/-- R109: a sample outside the coarse window sets both runs to 0. -/
theorem test_positionSample_moving :
    (after (.positionSample true 9 121 200 (.quarter 1)) (stateOf { base with positioner := { base.positioner with
      targetNumber := 9, target := some ⟨100, 200, 1, 0⟩, coarseRun := 8, fineRun := 15 } })).blocks.positioner.settle
      = .moving := by decide +kernel

/-- R110. -/
theorem test_tableDriveSilent :
    let t := after .tableDriveSilent (stateOf { base with positioner := { base.positioner with
      targetNumber := 9, target := some ⟨100, 200, 1, 7⟩, coarseRun := 8, fineRun := 16 } })
    (look t.blocks.alarm.codes 12).context = ⟨some 7, none, none⟩ ∧ t.blocks.positioner.settle = .moving := by decide +kernel

/-- R107. -/
theorem test_targetCommandResend :
    (after .targetCommandResend (stateOf { base with positioner := { base.positioner with
      targetNumber := 9, target := some ⟨100, -200, 1, 7⟩ } })).blocks.sent = [.targetCommand 9 100 (-200) 1] := by
  decide +kernel

/-- R115. -/
theorem test_span_lines :
    (after (.spanAtTargetRise false) (stateOf { base with positioner := { base.positioner with
      spanTarget := some 75, spanSent := true } })).blocks.positioner.spanReady = true
      ∧ (after .spanAtTargetFall (stateOf { base with positioner := { base.positioner with
        spanTarget := some 75, spanReady := true } })).blocks.positioner.spanReady = false := by decide +kernel

/-- R122. -/
theorem test_profile_lines :
    (after (.profileAckRise false) (stateOf { base with head := { base.head with
      output := some ⟨2, ⟨.inward, 1⟩⟩, driven := true } })).blocks.head.ready = true
      ∧ (after .profileAckFall (stateOf { base with head := { base.head with
        output := some ⟨2, ⟨.inward, 1⟩⟩, ready := true } })).blocks.head.ready = false := by decide +kernel

/-- R53: the frame number goes from 15 to 0. -/
theorem test_pollFrame :
    (after .pollFrame (stateOf { base with source := { base.source with frame := 15 } })).blocks.sent = [.pollFrame 0] := by
  decide +kernel

/-- R54, R44: a LOADED press of bank 2 position 5 refills dispenser 21 and puts it on proof. -/
theorem test_bankReply_loaded :
    let e := look (after (.bankReply 2 0 255#8 (1#8 <<< 5) 0#8) (stateOf { base with source := { base.source with
      dispensers := put base.source.dispensers 21 { reel with count := 3, reel := .low, condition := .suspect } } })
      ).blocks.source.dispensers 21
    e.count = 100 ∧ e.reel = .loaded ∧ e.condition = .proving := by decide +kernel

/-- R45: an EMPTY SENSE report raises REEL OUT, code 24. -/
theorem test_bankReply_empty :
    let t := after (.bankReply 2 0 255#8 0#8 (1#8 <<< 5)) (stateOf base)
    (look t.blocks.source.dispensers 21).reel = .empty ∧ t.blocks.alarm.notices = [24] := by decide +kernel

/-- R139, R16: GUARD OPEN is a STOP-NOW condition; cleared without an acknowledgement it stays LATCHED. -/
theorem test_level_lines :
    let t := after (.levelInputAsserted .guardOpen) (stateOf (cyclingAt 600 base))
    t.blocks.shaft.machine = .halted ∧ (look t.blocks.alarm.codes 20).state = .active
      ∧ (look (after (.levelInputNegated .guardOpen) t).blocks.alarm.codes 20).state = .latched := by decide +kernel

/-- R166: E-STOP releases every output; acknowledged while ACTIVE, the code goes IDLE when the line does. -/
theorem test_emergency_stop :
    let t := after .eStopAsserted (stateOf (cyclingAt 600 base))
    t.blocks.shaftRunLine = false ∧ t.blocks.headInhibitLine = true
      ∧ (look (after .eStopNegated (after .panelAck t)).blocks.alarm.codes 0).state = .idle := by decide +kernel

/-- R173. -/
theorem test_haltedMillisecond :
    (after .haltedMillisecond (stateOf (inState .halted base))).blocks.counters.residency.halted = 1
      ∧ (after .haltedMillisecond (stateOf base)).blocks.counters.residency.halted = 0 := by decide +kernel

/-- R177: a length byte above 60 discards the record, R178: as a framing error. -/
theorem test_linkByteReceived_length :
    let t := after (.linkByteReceived 61#8 true) { State.reset with link := { State.reset.link with
      receiver := { State.reset.link.receiver with phase := .length, type := 0x14#8 } } }
    t.link.receiver.phase = .hunt ∧ t.link.framingErrors = 1 ∧ t.blocks.alarm.notices = [27] := by decide +kernel

/-- R178: the second CRC byte disagrees. -/
theorem test_linkByteReceived_crc :
    (after (.linkByteReceived 0#8 true) { State.reset with link := { State.reset.link with
      receiver := ⟨.check, 0x14#8, 0, [], some 0#8, false, 0⟩ } }).link.crcErrors = 1 := by decide +kernel

/-- R178. -/
theorem test_linkGapTimeout :
    (after .linkGapTimeout { State.reset with link := { State.reset.link with
      receiver := ⟨.payload, 0x14#8, 3, [1#8], none, false, 2⟩ } }).link.framingErrors = 1 := by decide +kernel

/-- R182: the credit count rises no higher than 255. -/
theorem test_returnCredit :
    (after (.returnCredit 200#8) { State.reset with link := { State.reset.link with credit := 100 } }).link.credit = 255 := by
  decide +kernel

/-- R182. -/
theorem test_sendStart_recordSent :
    let t := after .sendStart { State.reset with link := { State.reset.link with credit := 1, upstream := [⟨0x86#8, []⟩] } }
    t.link.credit = 0 ∧ t.link.sending = true ∧ t.link.upstream.length = 1
      ∧ (after .recordSent t).link.upstream = [] := by decide +kernel

/-- R34, Table 11-10: step 0 INSERTED from dispenser 21, one make-up, PASS in band 1 with count 150. -/
theorem test_stepResultPlacement :
    let c := { stepIn .resolved with
      makeUps := 1, verify := some ⟨.pass, some 1, some 150⟩, outcome := some .inserted }
    answer (after .stepResultPlacement (stateOf { windowOf c base with
      board := { (windowOf c base).board with reportOrder := [0] } })) = [0, 0, 0, 21, 9, 0, 1, 0, 150] := by decide +kernel

/-- R36, Table 11-17: board 7001 (1B59h), COMPLETE, with no step. -/
theorem test_boardResultPlacement :
    let t := after .boardResultPlacement (stateOf (closing (inState .waiting base)))
    answer t = [0, 0, 0x1B, 0x59, 0] ++ List.replicate 21 0 ∧ t.blocks.board.phase = .none
      ∧ t.blocks.shaft.machine = .stopped := by decide +kernel

/-- R147, Table 11-11: code 24, NOTE, LATCHED, with a dispenser as context, once. -/
theorem test_alarmNoticePlacement :
    answer (after .alarmNoticePlacement (after (.bankReply 2 0 255#8 0#8 (1#8 <<< 5)) (stateOf base)))
      = [24, 0x22, 1, 0, 0, 21, 0] := by decide +kernel

def startRecord : Record := ⟨0x01#8, [0, 0, 0, 9, 0, 1, 0, 5, 0xFF, 0xFB, 1, 0, 0, 3]⟩

/-- R20, Table 11-12: id 9, image 0, correction 5 and −5, three steps expected. -/
theorem test_boardStart :
    let d := (after .boardStart (given startRecord (noBoard base))).blocks.board
    d.phase = .opened ∧ d.id = 9 ∧ d.goodMask = 1#16 ∧ d.dx = 5 ∧ d.dy = -5 ∧ d.expectedCount = some 3 := by decide +kernel

/-- R20, Table 11-18: a second BOARD START is refused BOARD OPEN with the id of the board that stands. -/
theorem test_boardStart_open : answer (after .boardStart (given startRecord base)) = [1, 3, 3, 0, 0, 0x1B, 0x59] := by
  decide +kernel

/-- Step 0, kind 3, image 0, x 12345, y 4000, tier 0, theta 0 (Table 11-9). -/
def stepRecord : Record := ⟨0x02#8, [0, 0, 3, 0, 0x30, 0x39, 0x0F, 0xA0, 0]⟩

/-- R104: 30000 − (12345 − 15000) = 32655 and 25000 − (4000 − 10000) = 31000 at a scale of 1; R62, R66: dispenser 21 stands
at offset 10, so its first slot is at 11. -/
theorem test_step :
    let t := after .step (given stepRecord base)
    t.blocks.chain.slotOf 11 = .reserved 0 21
      ∧ t.blocks.board.window.map (fun c => (c.state, c.target)) = [(.planned, some (32655, 31000))] := by decide +kernel

/-- R25: a position whose target lies outside the travel limits. -/
theorem test_step_out_of_field :
    let t := after .step (given stepRecord { base with positioner := { base.positioner with
      config := { base.positioner.config with xMax := 32654 } } })
    t.blocks.board.window.map StepContext.outcome = [some .skippedOutOfField] ∧ t.blocks.board.tallies.skipped = 1 := by
  decide +kernel

/-- R33. -/
theorem test_boardEnd :
    (after .boardEnd (given ⟨0x03#8, [0, 0, 1]⟩ (windowOf (stepIn .queued) base))).blocks.board.phase = .closing
      ∧ answer (after .boardEnd (given ⟨0x03#8, [0, 0, 2]⟩ (windowOf (stepIn .queued) base))) = [3, 6, 3, 0, 0, 0, 1] := by
  decide +kernel

/-- R30: a PLANNED step of a bad image is resolved and its reservation undone. -/
theorem test_badImage :
    let t := after .badImage (given ⟨0x04#8, [0]⟩ (after .step (given stepRecord base)).blocks)
    t.blocks.chain.slotOf 11 = .empty ∧ t.blocks.board.window.map StepContext.outcome = [some .skippedBadImage]
      ∧ t.blocks.board.goodMask = 0#16 := by decide +kernel

/-- R4: a start that is not below its end is refused RANGE with the entry. -/
theorem test_loadCamTable :
    (look (after .loadCamTable (given ⟨0x10#8, [0, 4, 1, 0, 2, 0]⟩ (noBoard base))).blocks.shaft.cam 4) = ⟨true, 256, 512⟩
      ∧ answer (after .loadCamTable (given ⟨0x10#8, [0, 4, 2, 0, 2, 0]⟩ (noBoard base))) = [0x10, 1, 1, 0, 0, 4, 0] := by
  decide +kernel

/-- R79. -/
theorem test_loadChainGeometry :
    let c := (after .loadChainGeometry (given ⟨0x10#8, [1, 0, 120, 6, 3]⟩ (noBoard base))).blocks.chain
    c.length = 120 ∧ c.slots.length = 120 ∧ c.verifyOffset = 6 ∧ c.gateOffset = 3
      ∧ answer (after .loadChainGeometry (given ⟨0x10#8, [1, 0, 120, 6, 6]⟩ (noBoard base))) = [0x10, 1, 2, 4, 0, 0, 0] := by
  decide +kernel

/-- R37, Table 11-15: kind 200, diode, span 100, MARK, sources 21 and 32 in SPREAD, statistics block 63. -/
theorem test_loadKind :
    look (after .loadKind (given ⟨0x10#8, [2, 200, 2, 1, 0, 4, 1, 2, 0, 0, 0, 0, 100, 2, 1, 2, 21, 32, 0, 0, 1, 255, 63]⟩
      (noBoard base))).blocks.source.kinds 200
      = ⟨some ⟨.diode, 1, 0, 4, 1, 2, none, 100, 2, .mark, [21, 32], .spread, none, 63⟩, 1, false⟩ := by decide +kernel

/-- R40: a threshold above the capacity is taken as the capacity, and the full reel is LOW. -/
theorem test_loadDispenser :
    let e := look (after .loadDispenser (given ⟨0x10#8, [3, 32, 1, 8, 0, 50, 0, 60, 1]⟩ (noBoard base))
      ).blocks.source.dispensers 32
    e.installed = true ∧ e.offset = 8 ∧ e.threshold = 50 ∧ e.count = 50 ∧ e.reel = .low := by decide +kernel

/-- R183. -/
theorem test_loadBand :
    look (after .loadBand (given ⟨0x10#8, [4, 127, 0, 2, 1]⟩ (noBoard base))).blocks.verifier.bands 127 = some 513
      ∧ answer (after .loadBand (given ⟨0x10#8, [4, 127, 0, 2, 1]⟩ base)) = [0x10, 0, 0, 0, 0, 0, 0] := by decide +kernel

/-- R102. -/
theorem test_loadImage :
    look (after .loadImage (given ⟨0x10#8, [5, 15, 1, 0xEA, 0x60, 0, 1]⟩ (noBoard base))).blocks.positioner.images 15
      = ⟨true, 60000, 1⟩ := by decide +kernel

/-- R103: limits are signed; a coarse window below the fine window is taken as equal to it. -/
theorem test_loadTableConfiguration :
    (after .loadTableConfiguration (given ⟨0x10#8, [6, 0, 16, 0, 16, 0, 0, 1, 0, 2, 0, 3, 0, 4,
      255, 255, 255, 255, 0, 0, 1, 0, 255, 255, 255, 254, 0, 0, 0, 9, 7, 3]⟩ (noBoard base))).blocks.positioner.config
      = ⟨true, 4096, 4096, 1, 2, 3, 4, -1, 256, -2, 9, 7, 7⟩ := by decide +kernel

/-- R120. -/
theorem test_loadClinchProfile :
    look (after .loadClinchProfile (given ⟨0x10#8, [7, 15, 0, 1, 3]⟩ base)).blocks.head.profiles 15 = some ⟨.outward, 3⟩ := by
  decide +kernel

/-- R137, R144: a standing code given the class STOP-NOW stops a turning machine. -/
theorem test_loadAlarmClass :
    (after .loadAlarmClass (given ⟨0x10#8, [8, 26, 3]⟩ (latched 26 (cyclingAt 600 base)))).blocks.shaft.machine = .halted
      ∧ answer (after .loadAlarmClass (given ⟨0x10#8, [8, 1, 0]⟩ base)) = [0x10, 10, 0, 0, 0, 0, 0] := by decide +kernel

/-- R167, Table 11-15: event FIRE, edge counting, limit 256, enabled. -/
theorem test_loadCounterConfiguration :
    look (after .loadCounterConfiguration (given ⟨0x10#8, [9, 3, 3, 7, 255, 5, 3, 0, 0, 1, 0]⟩ base)).blocks.counters.events 3
      = ⟨.fire, 7, 255, 5, false, true, 256, true, 0, false, false, false⟩ := by decide +kernel

/-- R183, R128: a dwell limit of 0 is taken as 1. -/
theorem test_loadLimits :
    let b := (after .loadLimits (given ⟨0x10#8, [10, 0, 9, 0, 5, 2]⟩ (noBoard base))).blocks
    b.planner.makeUpLimit = 7 ∧ b.head.dwellLimit = 1 ∧ b.verifier.shortLimit = 5 ∧ b.shaft.resumeChoice = .mark := by
  decide +kernel

/-- Table 11-16, id 13: offset 11 of a chain whose slot at pitch 11 is RESERVED for step 0 on dispenser 21. -/
theorem test_read_slot :
    answer (after .read (given ⟨0x11#8, [13, 11]⟩ (after .step (given stepRecord base)).blocks))
      = [13, 11, 1, 11, 1, 3, 0, 0, 21, 0, 0, 0, 0] := by decide +kernel

/-- Table 11-15, id 2: the kind of the tests, alternate range 3 to 3, span 75. -/
theorem test_read_kind :
    answer (after .read (given ⟨0x11#8, [2, 3]⟩ base))
      = [2, 3, 1, 0, 0, 0, 4, 1, 2, 1, 3, 3, 0, 75, 2, 0, 1, 21, 0, 0, 0, 0, 255, 5] := by decide +kernel

/-- R11, R13: RUN with no work waits; with work the machine cycles and the first index is granted. -/
theorem test_run :
    (after .run (given ⟨0x12#8, [0, 0]⟩ base)).blocks.shaft.machine = .waiting
      ∧ (after (.panelStart false) (after .step (given stepRecord base))).blocks.chain.grant = true := by decide +kernel

/-- R15. -/
theorem test_stop :
    (after .stop (given ⟨0x12#8, [1, 0]⟩ (cyclingAt 600 base))).blocks.shaft.stopPending = true
      ∧ (after .panelStop (stateOf (inState .waiting base))).blocks.shaft.machine = .stopped := by decide +kernel

/-- R155: a RESUME with MARK resolves the UNCERTAIN step MISINSERTED with the OPERATOR flag. -/
theorem test_resume_mark :
    let t := after (.resume true) (given ⟨0x12#8, [2, 2]⟩ (windowOf (stepIn .uncertain) (inState .halted base)))
    t.blocks.board.window.map (fun c => (c.operator, c.outcome)) = [(true, some .misinserted)]
      ∧ t.blocks.shaft.machine = .recovering := by decide +kernel

/-- R154: a choice of 3 is refused RANGE in any state. -/
theorem test_resume_range : answer (after (.resume false) (given ⟨0x12#8, [2, 3]⟩ base)) = [0x12, 1, 0, 0, 0, 0, 0] := by
  decide +kernel

/-- R160: at G = 3 and above a mark is DIVERT, below it STRIP. -/
theorem test_purge :
    let o : Component := ⟨none, none, some 3, .passed, .insert, none, false⟩
    let c := (after (.panelPurge false) (stateOf (slotted 2 (.occupied o) (slotted 3 (.occupied o) base)))).blocks.chain
    c.slotOf 3 = .occupied { o with disposition := .divert, reason := some .purge }
      ∧ c.slotOf 2 = .occupied { o with disposition := .strip, reason := some .purge } := by decide +kernel

/-- R163, R164: the aborted step's component goes on as an orphan to be stripped below the gate. -/
theorem test_abortBoard :
    let t := after .abortBoard (given ⟨0x12#8, [4, 0]⟩ (windowOf (stepIn .verified)
      (slotted 2 (.occupied ⟨some 0, some 21, some 3, .passed, .insert, none, false⟩) base)))
    t.blocks.chain.slotOf 2 = .occupied ⟨none, some 21, some 3, .passed, .strip, some .orphan, false⟩
      ∧ t.blocks.board.endStatus = .aborted := by decide +kernel

/-- R165. -/
theorem test_linkReset :
    let t := after .linkReset (given ⟨0x12#8, [7, 0]⟩ (windowOf (stepIn .verified) (cyclingAt 600 base)))
    t.blocks.board.phase = .none ∧ t.blocks.shaft.angle = 600 ∧ t.blocks.shaft.machine = .stopped := by decide +kernel

/-- R165: a line found asserted at a CONTROL RESET makes its code ACTIVE, and no alarm occurrence is counted. -/
theorem test_linkReset_level :
    let s := given ⟨0x12#8, [7, 0]⟩ { base with counters := { base.counters with
      events := put base.counters.events 0 ⟨.alarmOccurrence, 255, 255, 0, false, false, 9, true, 4, false, false, false⟩ } }
    let t := after .linkReset { s with levels := { s.levels with guardOpen := true } }
    (look t.blocks.alarm.codes 20).state = .active ∧ (look t.blocks.counters.events 0).value = 4 := by decide +kernel

/-- R140: PRESENTED, FFh, acknowledges the presented alarm. -/
theorem test_acknowledgeAlarm :
    (look (after .acknowledgeAlarm (given ⟨0x13#8, [255]⟩ (latched 13 (latched 25 base)))).blocks.alarm.codes 13).state
      = .idle := by decide +kernel

/-- R181, Table 11-19: 60 bytes, the machine state in byte 2 with bit 7 for REGISTERED. -/
theorem test_query :
    let p := answer (after .query (given ⟨0x14#8, []⟩ (inState .halted base)))
    p.length = 60 ∧ byteAt p 2 = 0x84 ∧ byteAt p 3 = 1 := by decide +kernel

/-- R181. -/
theorem test_unknownTypeRecord :
    answer (after .unknownTypeRecord (given ⟨0x20#8, [1, 2]⟩ base)) = [0x20, 12, 3, 0, 0, 0, 0x20] := by decide +kernel

/-- R172, R175. -/
theorem test_clears :
    let s := given ⟨0x12#8, [6, 0]⟩ { base with counters := { base.counters with
      events := put base.counters.events 2 ⟨.fire, 7, 255, 5, false, true, 256, true, 9, true, true, true⟩
      statistics := put base.counters.statistics 63 ⟨1, 2, 3, 4⟩ } }
    look (after .clearCounters s).blocks.counters.events 2 = ⟨.fire, 7, 255, 5, false, true, 256, true, 0, false, false, false⟩
      ∧ look (after .clearStatistics { s with link := { s.link with input := [⟨0x12#8, [5, 0]⟩] } }
        ).blocks.counters.statistics 63 = ⟨0, 0, 0, 0⟩ := by decide +kernel

/-- R150: GUARD OPEN found asserted at power-on. -/
theorem test_powerOnReset :
    let t := after (.powerOnReset { rate1 := true } { guardOpen := true }) (stateOf (cyclingAt 600 base))
    t.blocks.shaft = Shaft.reset ∧ t.blocks.alarm.notices = [20] ∧ Straps.rate t.link.straps = 230400 := by decide +kernel

/-! ## Witnesses: for each statement with hypotheses, states and operands that meet them all -/

/-- Hypothesis of `StepRunsFrontCommand`. -/
theorem witness_StepRunsFrontCommand :
    ({ stateOf base with pending := [.panelAck, .panelStop] } : State).pending = .panelAck :: [.panelStop] := rfl

/-- A live revolution at angle 600 with step 0 at the verify station, a LATCHED code and its notice, and a key waiting. -/
def busy : State :=
  { stateOf (windowOf (stepIn .fired) (slotted 6 (.occupied ⟨some 0, some 21, some 3, .unmeasured, .insert, none, false⟩)
      { cyclingAt 500 base with
        shaft := { (cyclingAt 500 base).shaft with opened := put base.shaft.opened 4 true }
        alarm := base.alarm.occur 26 ⟨none, some 21, none⟩ })) with
    pending := [.panelAck] }

/-- The states of the invariants: `busy` meets each of them and steps on. -/
theorem witness_LinkStaysSound : busy.link.sound ∧ ∃ t, step busy = .next t :=
  ⟨by unfold LinkPort.sound; decide +kernel, _, rfl⟩

theorem witness_WindowStaysSound : busy.blocks.board.sound ∧ ∃ t, step busy = .next t :=
  ⟨by unfold Board.sound; decide +kernel, _, rfl⟩

theorem witness_AlarmTableStaysSound : busy.blocks.alarm.sound ∧ ∃ t, step busy = .next t :=
  ⟨by unfold Alarm.sound; refine ⟨?_, ?_, ?_, ?_, ?_, ?_, ?_⟩ <;> decide +kernel, _, rfl⟩

theorem witness_ShaftStaysSound : busy.blocks.shaft.sound ∧ ∃ t, step busy = .next t :=
  ⟨by
    unfold Shaft.sound
    refine ⟨by decide +kernel, by decide +kernel, by decide +kernel, by decide +kernel, by decide +kernel, fun h => ?_⟩
    exact absurd h (by decide +kernel), _, rfl⟩

theorem witness_DemandStaysHeeded : busy.blocks.demandHeeded ∧ ∃ t, step busy = .next t :=
  ⟨by unfold Blocks.demandHeeded; decide +kernel, _, rfl⟩

theorem witness_ChainStaysSound : busy.blocks.chain.sound ∧ ∃ t, step busy = .next t :=
  ⟨by unfold Chain.sound; decide +kernel, _, rfl⟩

/-- Hypotheses of `OnlySamplesMoveTheAngle` and `OnlyLoadsChangeTables`: the LOAD of a band. -/
theorem witness_WhoChangesWhat : (∃ t, exec .loadBand (given ⟨0x10#8, [4, 127, 0, 2, 1]⟩ (noBoard base)) = .next t)
    ∧ (∀ straps levels, Instr.loadBand ≠ .powerOnReset straps levels)
    ∧ ∀ forward mark station, Instr.loadBand ≠ .encoderSample forward mark station :=
  ⟨⟨_, rfl⟩, nofun, nofun⟩

/-- Hypotheses of `HandJogCounts`: at angle 1439 and index distances 1441, 1439 and 1440, the last two about the clauses'
edges; WAITING as well as STOPPED. -/
theorem witness_HandJogCounts :
    let s := fun (d : Int) => stateOf { base with shaft := { base.shaft with angle := 1439, distance := d } }
    let w := stateOf { inState .waiting base with
      shaft := { (inState .waiting base).shaft with angle := 1439, distance := 1440 } }
    (∀ d ∈ [1441, 1440, 1439], (s d).blocks.shaftRunLine = false ∧ (s d).blocks.shaft.angle ≤ 1439
        ∧ (s d).blocks.shaft.registered = true ∧ (s d).blocks.shaft.distance = d ∧ (s d).blocks.shaft.machine = .stopped)
      ∧ w.blocks.shaftRunLine = false ∧ w.blocks.shaft.machine = .waiting ∧ w.blocks.alarm.demand < 4
      ∧ (look w.blocks.alarm.codes 1).cls = .stopNow := by decide +kernel

def driving (distance : Int) : State :=
  stateOf { cyclingAt 700 base with shaft := { (cyclingAt 700 base).shaft with distance := distance } }

/-- The drive is DRIVING in a sound live revolution, and no demand stands. -/
def driveSound (s : State) : Prop :=
  s.blocks.shaft.sound ∧ s.blocks.driven ∧ (look s.blocks.alarm.codes 1).cls = .stopNow ∧ s.blocks.alarm.demand < 4

/-- Hypotheses of `RegistrationFaultHalts`: a reverse sample, a missing index, and a crossing whose count is 701. -/
theorem witness_RegistrationFaultHalts : driveSound (driving 700) ∧ driveSound (driving 1440)
    ∧ (driving 1440).blocks.shaft.distance = 1440 ∧ (driving 700).blocks.shaft.registered = true
    ∧ (driving 700).blocks.shaft.distance ≠ 1439 := by
  unfold driveSound Shaft.sound Blocks.driven
  refine ⟨⟨⟨by decide +kernel, by decide +kernel, by decide +kernel, by decide +kernel, by decide +kernel, fun h => ?_⟩,
    by decide +kernel⟩, ⟨⟨by decide +kernel, by decide +kernel, by decide +kernel, by decide +kernel, by decide +kernel,
    fun h => ?_⟩, by decide +kernel⟩, by decide +kernel⟩
  · exact absurd h (by decide +kernel)
  · exact absurd h (by decide +kernel)

/-- The tests' machine with INDEX opening at 1 in place of 0. -/
def lateIndex : Blocks := { base with shaft := { base.shaft with cam := put cam 0 ⟨true, 1, 200⟩ } }

/-- At the last count of a revolution in CYCLING, the index granted or not. -/
def beforeCrossing (grant : Bool) (b : Blocks) : State :=
  stateOf { cyclingAt 1439 b with chain := { b.chain with grant := grant } }

/-- The tests' machine with no two window events at one angle. -/
def apart : Blocks :=
  { base with shaft := { base.shaft with
      cam := put (put (put (put cam 0 ⟨true, 1, 200⟩) 2 ⟨true, 241, 559⟩) 3 ⟨true, 242, 399⟩) 6 ⟨true, 761, 920⟩ } }

/-- The live revolution at an angle, an advance or not, with one window open. -/
def nearing (angle : Nat) (advance : Bool) (window : Nat) (b : Blocks) : Blocks :=
  { cyclingAt angle b with
    shaft := { (cyclingAt angle b).shaft with advance := advance, opened := put base.shaft.opened window true } }

/-- `Blocks.meets` as a test. -/
def meetsTest (b : Blocks) (w : Window) (opens : Bool) : Bool :=
  decide (b.shaft.drive = .driving) && decide ((look b.alarm.codes 0).state ≠ .active) && b.shaft.live
    && decide (b.shaft.angle + 1 ≤ 1439) && decide (b.shaft.distance < 1440) && (b.shaft.arc w).loaded
    && (if opens then decide ((b.shaft.arc w).start = b.shaft.angle + 1)
      else decide ((b.shaft.arc w).stop = b.shaft.angle + 1) && decide ((b.shaft.arc w).start ≠ b.shaft.angle + 1)
        && b.shaft.isOpen w)
    && allWindows.all (fun v => decide (v = w)
      || (decide ((b.shaft.arc v).start ≠ b.shaft.angle + 1) && decide ((b.shaft.arc v).stop ≠ b.shaft.angle + 1)))
    && decide (b.shaft.angle + 1 ≠ b.shaft.parkAngle)

theorem meets_of_test {b : Blocks} {w : Window} {opens : Bool} (h : meetsTest b w opens = true) : b.meets w opens := by
  simp only [meetsTest, Bool.and_eq_true, decide_eq_true_eq, List.all_eq_true, Bool.or_eq_true] at h
  obtain ⟨⟨⟨⟨⟨⟨⟨⟨h0, h1⟩, h2⟩, h3⟩, h4⟩, h5⟩, h6⟩, h7⟩, h8⟩ := h
  refine ⟨⟨h0, h1⟩, h2, h3, h4, h5, ?_, fun v hv _ => ?_, h8⟩
  · cases opens
    · simpa [and_assoc] using h6
    · simpa using h6
  · have hm : v ∈ allWindows := by cases v <;> decide
    simpa [hv] using h7 v hm

theorem meets_all {α : Type} {l : List α} (f : α → Blocks) (w : α → Window) {opens : Bool}
    (h : l.all (fun x => meetsTest (f x) (w x) opens) = true) : ∀ x ∈ l, (f x).meets (w x) opens :=
  fun x hx => meets_of_test (List.all_eq_true.mp h x hx)

/-- Hypotheses of the clauses of `CrossingBeginsLiveRevolution`: no window at angle 0; INDEX alone there; INDEX opening at
angle 1, in an advance and in a dwell revolution; and each open and close of FIRE, VERIFY and GATE in a dwell revolution. -/
theorem witness_CrossingBeginsLiveRevolution :
    (∀ b ∈ [lateIndex, base], let s := beforeCrossing true b
      s.blocks.driven ∧ s.blocks.shaft.machine = .cycling ∧ s.blocks.shaft.registered = true
        ∧ s.blocks.shaft.distance = 1439 ∧ s.blocks.counters.quiet)
      ∧ (beforeCrossing true lateIndex).blocks.shaft.noWindowAt 0
      ∧ (base.shaft.arc .index).loaded = true ∧ (base.shaft.arc .index).start = 0
      ∧ (∀ w : Window, w ≠ .index → (base.shaft.arc w).loaded = true →
        (base.shaft.arc w).start ≠ 0 ∧ (base.shaft.arc w).stop ≠ 0)
      ∧ base.chain.sound ∧ base.chain.loaded = true
      ∧ (∀ advance, (nearing 0 advance 9 apart).meets .index true) ∧ apart.chain.sound
      ∧ (∀ p ∈ [(Window.fire, 239), (.verify, 240), (.gate, 241)], (nearing p.2 false 9 apart).meets p.1 true)
      ∧ (∀ p ∈ [(Window.fire, 399), (.verify, 558), (.gate, 398)],
        (nearing p.2 false (windowIndex p.1) apart).meets p.1 false)
      ∧ ∀ angle w, (nearing angle false w apart).shaft.advance = false := by
  refine ⟨by unfold Blocks.driven Counters.quiet; decide +kernel, fun w => ?_, by decide +kernel, by decide +kernel,
    fun w => ?_, by unfold Chain.sound; decide +kernel, rfl, fun a => meets_of_test ?_,
    by unfold Chain.sound; decide +kernel, meets_all (fun p => nearing p.2 false 9 apart) Prod.fst (by decide +kernel),
    meets_all (fun p => nearing p.2 false (windowIndex p.1) apart) Prod.fst (by decide +kernel), fun _ _ => rfl⟩
  · cases w <;> decide +kernel
  · cases w <;> decide +kernel
  · cases a <;> decide +kernel

/-- DECISION about to open, in CYCLING or PURGING, with a reason to continue or none. -/
def deciding (m : MachineState) (slot : Slot) : Blocks :=
  let b := slotted 5 slot (cyclingAt 1299 base)
  { b with shaft := { b.shaft with machine := m } }

/-- Hypotheses of `DecisionChooses`: DECISION open in CYCLING and PURGING, with no slot in use and with one marked PURGE; and
DECISION close with each kind of slot at offset 0, the monitor having chosen to continue. -/
theorem witness_DecisionChooses :
    (∀ p ∈ [(MachineState.cycling, Slot.empty), (.cycling, .reserved 0 21), (.purging, .empty),
        (.purging, .occupied ⟨none, none, none, .unmeasured, .strip, some .purge, false⟩)],
      (deciding p.1 p.2).meets .decision true)
      ∧ (∀ m ∈ [MachineState.cycling, .purging], (deciding m .empty).shaft.machine = m)
      ∧ (∀ x ∈ [Slot.empty, .reserved 0 21, .occupied ⟨none, none, none, .unmeasured, .strip, some .purge, false⟩,
          .occupied ⟨some 0, some 21, some 3, .passed, .insert, none, false⟩],
        (slotted 0 x (nearing 1379 true 9 base)).meets .decision false) := by
  refine ⟨meets_all (fun p => deciding p.1 p.2) (fun _ => .decision) (by decide +kernel), by decide +kernel,
    meets_all (fun x => slotted 0 x (nearing 1379 true 9 base)) (fun _ => .decision) (by decide +kernel)⟩

/-- One count before the park angle with a park requested, in a turning state. -/
def parking (m : MachineState) (stop purge : Bool) (b : Blocks) : Blocks :=
  { cyclingAt 1399 b with
    shaft := { (cyclingAt 1399 b).shaft with machine := m, parkRequested := true, stopPending := stop, purgeRequested := purge } }

/-- Hypotheses of `ParkEnds` of every state: with a board and without, with work and without, under a demand. -/
def endsPark (m : MachineState) (b : Blocks) : Prop :=
  b.driven ∧ b.shaft.parkRequested = true ∧ b.shaft.angle = 1399 ∧ 1399 + 1 = b.shaft.parkAngle ∧ b.shaft.distance < 1440
    ∧ b.shaft.machine = m ∧ b.board.nothingToPlan

/-- Hypotheses of `ParkEnds`: the four states, with STOP pending and without, a purge asked for and not, on an empty chain, on
one with an OCCUPIED slot, with the board NONE, and under a demand of STOP-AT-PARK and of HOLD-FEED. -/
theorem witness_ParkEnds :
    (∀ m ∈ [MachineState.homing, .cycling, .purging, .recovering], ∀ stop ∈ [false, true],
      ∀ purge ∈ [false, true],
      ∀ b ∈ [base, slotted 5 (.occupied ⟨none, none, some 3, .passed, .divert, some .orphan, false⟩) base, noBoard base,
        latched 9 base, latched 22 base], endsPark m (parking m stop purge b))
      ∧ (∀ m stop purge, (parking m stop purge base).shaft.noWindowAt (1399 + 1))
      ∧ (slotted 5 (.occupied ⟨none, none, some 3, .passed, .divert, some .orphan, false⟩) base).chain.occupiedCount ≠ 0
      ∧ (latched 9 base).alarm.demand = 3
      ∧ (latched 22 base).alarm.demand = 2 ∧ base.alarm.demand < 3 := by
  refine ⟨by unfold endsPark Blocks.driven Board.nothingToPlan; decide +kernel, fun _ _ _ => (?_ : base.shaft.noWindowAt 1400),
    by decide +kernel, by decide +kernel, by decide +kernel, by decide +kernel⟩
  intro w
  cases w <;> decide +kernel

/-- A measurement of a kind under way at pitch 6, on a component, in a phase. -/
def measuring (phase : Phase) (k : Kind) (o : Component) (b : Blocks) : Blocks :=
  { windowOf (stepIn .fired) (slotted 6 (.occupied o) b) with
    verifier := { b.verifier with running := some ⟨6, 3, k, phase⟩ } }

/-- The component of step 0 at the verify station. -/
def unmeasured : Component := ⟨some 0, some 21, some 3, .unmeasured, .insert, none, false⟩

/-- Step 0 with its source and without, and an orphan with its source and without. -/
def components : List Component :=
  [unmeasured, { unmeasured with source := none }, { unmeasured with step := none, disposition := .strip },
    { unmeasured with step := none, source := none, disposition := .divert }]

/-- Hypotheses of `TripsEndPhases` about measurements: a diode's forward phase at the limit one above its last band, and none
running; each phase that a trip or a limit ends, on each component; and each reading of R93, at the edges of a band. -/
theorem witness_TripsEndPhases :
    (∀ o ∈ components, ∀ p ∈ [(Phase.forward, diode), (.single, resistor), (.reverse .opened 401, diode),
        (.reverse (.band 1) 150, diode)], let b := measuring p.1 p.2 o base
      b.verifier.running = some ⟨6, 3, p.2, p.1⟩ ∧ 401 = b.verifier.lastMax p.2 + 1 ∧ b.verifier.lastMax p.2 < 65535
        ∧ b.chain.slotOf 6 = .occupied o ∧ b.counters.quiet ∧ b.board.nothingToPlan
        ∧ ∀ code ∈ [17, 23, 24], b.unmovedBy code)
      ∧ base.verifier.running = none
      ∧ base.verifier.reads diode 0 .short ∧ base.verifier.reads diode 2 .short ∧ base.verifier.reads diode 3 (.band 0)
      ∧ base.verifier.reads diode 100 (.band 0) ∧ base.verifier.reads diode 101 (.band 1)
      ∧ base.verifier.reads diode 400 (.band 3) ∧ base.verifier.reads diode 401 .opened
      ∧ base.verifier.reads diode 65535 .opened := by
  unfold Counters.quiet Board.nothingToPlan Blocks.unmovedBy
  simp only [Verifier.reads]
  refine ⟨?_, ?_, ?_, ?_, ?_, ?_, ?_, ?_, ?_, ?_⟩ <;> decide +kernel

/-- The results that reach a source and raise a code: the third OPEN in a row and the second MISSING of dispenser 21, a VALUE,
and the fault run, filled by another dispenser, by dispenser 21 alone, and short of four entries. -/
theorem witness_TripsEndPhases_raised :
    ({ reel with badPart := 2 }).raises .opened 23 = true ∧ ({ reel with badPart := 1 }).raises .short 23 = false
      ∧ ({ reel with missing := 1 }).raises .missing 24 = true
      ∧ ({ reel with missing := 1, outReported := true }).raises .missing 24 = false
      ∧ reel.raises .value 23 = true ∧ reel.raises .pass 23 = false
      ∧ ({ base.verifier with faultRun := [32, 32, 32] }).faultsAt 21 = true
      ∧ ({ base.verifier with faultRun := [21, 21, 21] }).faultsAt 21 = false
      ∧ ({ base.verifier with faultRun := [32, 32] }).faultsAt 21 = false := by decide +kernel

/-- Hypotheses of `TripsEndPhases` about VERIFY open and close: each kind of slot at V, a kind present, of mode N and absent,
and the close with a measurement under way and without. -/
theorem witness_TripsEndPhases_windows :
    (∀ k ∈ [resistor, diode, { resistor with mode := .none }], ∀ slot ∈ [Slot.empty, .reserved 0 21,
        .occupied ⟨none, none, some 4, .passed, .divert, some .orphan, false⟩] ++ components.map Slot.occupied,
      let b := slotted 6 slot (nearing 240 true 1 (windowOf (stepIn .fired) (withKind 3 k apart)))
      b.chain.slotOf (b.chain.pitchAt b.chain.verifyOffset) = slot ∧ b.shaft.advance = true
        ∧ b.source.kind? 3 = some k ∧ b.source.kind? 4 = none ∧ b.verifier.bandsPass k
        ∧ b.counters.quiet ∧ b.board.nothingToPlan ∧ ∀ code ∈ [17, 23, 24], (b.counted .verify true).unmovedBy code)
      ∧ (nearing 240 true 1 apart).meets .verify true ∧ (nearing 558 true 2 apart).meets .verify false := by
  refine ⟨?_, meets_of_test (by decide +kernel), meets_of_test (by decide +kernel)⟩
  unfold Counters.quiet Board.nothingToPlan Verifier.bandsPass Blocks.unmovedBy
  decide +kernel

/-- Hypotheses of `TripsEndPhases` about each component, in each phase, VERIFY about to close. -/
theorem witness_TripsEndPhases_closes :
    let closes := fun (p : Component × Kind × Phase) => measuring p.2.2 p.2.1 p.1 (nearing 558 true 2 apart)
    let cases : List (Component × Kind × Phase) := components.flatMap fun x =>
      [(x, resistor, .single), (x, diode, .forward), (x, diode, .reverse (.band 1) 150)]
    (∀ p ∈ cases, (closes p).meets .verify false)
      ∧ ∀ p ∈ cases, (closes p).verifier.running = some ⟨6, 3, p.2.1, p.2.2⟩ ∧ (closes p).chain.slotOf 6 = .occupied p.1
        ∧ (closes p).counters.quiet ∧ (closes p).board.nothingToPlan ∧ (closes p).shaft.advance = true
        ∧ ∀ code ∈ [17, 23, 24], ((closes p).counted .verify false).unmovedBy code := by
  refine ⟨meets_all _ (fun _ => .verify) (by decide +kernel), ?_⟩
  unfold Counters.quiet Board.nothingToPlan Blocks.unmovedBy
  decide +kernel

/-- Hypotheses of the clauses of `DiodeResultFollowsTable`: readings in and out of the ranges 1 to 2 and 3 to 3. -/
theorem witness_DiodeResultFollowsTable : diode.expectedLo ≤ 1 ∧ 1 ≤ diode.expectedHi ∧ diode.alternate = some (3, 3)
    ∧ ¬ (diode.expectedLo ≤ 3 ∧ 3 ≤ diode.expectedHi) ∧ ¬ (diode.expectedLo ≤ 0 ∧ 0 ≤ diode.expectedHi) := by decide +kernel

def offered : Component := ⟨some 0, some 21, some 3, .passed, .insert, none, false⟩

def orphan : Component := ⟨none, none, some 3, .passed, .divert, some .orphan, false⟩

/-- Hypotheses of the clauses of `GateAndStripActionsEnd`: an orphan, a component of step 0 whose image is bad, with its source
and without, and a component that names a source alone, each at a pending gate and a pending strip; and neither pending. -/
theorem witness_GateAndStripActionsEnd :
    let named : Component := ⟨some 0, some 21, some 3, .passed, .divert, some .deselected, false⟩
    let proving : Component := ⟨none, some 95, some 3, .failed, .divert, some .orphan, true⟩
    let bad := windowOf (stepIn .diverting) { base with board := { base.board with goodMask := 0#16 } }
    (∀ p ∈ [(orphan, base), (named, bad), ({ named with source := none }, bad), (proving, base)],
      let s := stateOf (slotted 3 (.occupied p.1) { p.2 with
        shaft := { base.shaft with opened := put base.shaft.opened 3 true }
        chain := { base.chain with gatePending := some 3, stripPending := some 3 } })
      s.blocks.chain.slotOf 3 = .occupied p.1 ∧ s.blocks.counters.quiet
        ∧ s.blocks.planner.freeze = false ∧ s.blocks.chain.gatePending = some 3 ∧ s.blocks.chain.gateFire = false
        ∧ s.blocks.shaft.isOpen .gate = true ∧ s.blocks.chain.stripPending = some 3 ∧ s.blocks.board.sound
        ∧ s.blocks.board.nothingToPlan ∧ s.blocks.board.nothingElseToPlan 0)
      ∧ bad.board.context? 0 = some (stepIn .diverting)
      ∧ orphan.nameless ∧ named.step = some 0 ∧ (stepIn .diverting).state ≠ .resolved ∧ (0#16).getLsbD 0 = false
      ∧ base.chain.gatePending = none ∧ base.chain.stripPending = none := by
  refine ⟨by unfold Counters.quiet Board.sound Board.nothingToPlan Board.nothingElseToPlan; decide +kernel,
    by decide +kernel, by unfold Component.nameless; decide +kernel, by decide +kernel, by decide +kernel,
    by decide +kernel, by decide +kernel, by decide +kernel⟩

/-- Hypotheses of `GateAndStripActionsEnd` about the window: GATE about to open on a component to divert and on none, and about
to close with none pending and with the component of a DIVERTING step, no strip pending beside it. -/
theorem witness_GateAndStripActionsEnd_windows :
    let named : Component := ⟨some 0, some 21, some 3, .passed, .divert, some .deselected, false⟩
    let jammed := slotted 3 (.occupied named) (windowOf (stepIn .diverting)
      { nearing 398 true 3 apart with chain := { apart.chain with gatePending := some 3 } })
    (nearing 241 true 1 apart).meets .gate true ∧ (nearing 398 true 3 apart).meets .gate false ∧ jammed.meets .gate false
      ∧ (nearing 241 true 1 apart).chain.slotOf (base.chain.pitchAt 3) = .empty
      ∧ (slotted 3 (.occupied named) base).chain.slotOf (base.chain.pitchAt 3) = .occupied named
      ∧ jammed.shaft.advance = true ∧ jammed.chain.gatePending = some 3 ∧ jammed.chain.stripPending = none
      ∧ jammed.chain.slotOf 3 = .occupied named ∧ jammed.board.context? 0 = some (stepIn .diverting)
      ∧ jammed.board.sound := by
  unfold Board.sound
  exact ⟨meets_of_test (by decide +kernel), meets_of_test (by decide +kernel), meets_of_test (by decide +kernel),
    by decide +kernel⟩

/-- A component of step 0 of a good image and dispenser 21 at a pending gate and a pending strip, `n` make-ups behind it. -/
def departing (reason : Reason) (n : Nat) (x : Blocks) : Blocks :=
  slotted 3 (.occupied { offered with disposition := .divert, reason := some reason })
    { windowOf { stepIn .diverting with makeUps := n } x with
      shaft := { x.shaft with opened := put x.shaft.opened 3 true }
      chain := { x.chain with gatePending := some 3, stripPending := some 3 } }

/-- Hypotheses of `GateAndStripActionsEnd` about such a component: at the make-up limit of 3 and one below it, for a counted
reason and an uncounted one, under a hold and not, the machine STOPPED. -/
theorem witness_GateAndStripActionsEnd_returns :
    (∀ reason ∈ [Reason.gateFail, .tier], ∀ n ∈ [2, 3], ∀ x ∈ [base, latched 22 base],
      let c := { stepIn .diverting with makeUps := n }
      let b := departing reason n x
      (b.chain.slotOf 3 = .occupied { offered with disposition := .divert, reason := some reason }
          ∧ b.counters.quiet ∧ b.planner.freeze = false ∧ b.chain.gatePending = some 3
          ∧ b.chain.gateFire = false ∧ b.shaft.isOpen .gate = true ∧ b.chain.stripPending = some 3)
        ∧ (b.board.context? 0 = some c ∧ c.state ≠ .resolved ∧ b.board.goodMask.getLsbD c.image = true
          ∧ b.board.sound ∧ b.board.nothingElseToPlan 0)
        ∧ b.planner.makeUpLimit = 3 ∧ b.chain.sound ∧ (look b.alarm.codes 25).cls = .note)
      ∧ (departing .gateFail 3 base).unmovedBy 18 ∧ (departing .tier 3 (latched 22 base)).plansNothing := by
  unfold Counters.quiet Board.sound Board.nothingElseToPlan Chain.sound Blocks.unmovedBy Blocks.plansNothing
  decide +kernel

/-- The component of step 0, `n` make-ups behind it, still pending at the stripper when INDEX closes in an advance. -/
def runout (n : Nat) (reason : Reason) (seen : Bool) (x : Blocks) : Blocks :=
  slotted 63 (.occupied { offered with disposition := .strip, reason := some reason })
    { windowOf { stepIn .stripping with makeUps := n } (nearing 199 true 0 x) with
      chain := { x.chain with stripPending := some 63, indexSeen := seen } }

/-- The clauses of `ChainIndexPulse`: an index expected, the shaft at rest, and INDEX close in an advance, the pulse seen and
not, with an orphan pending at the stripper and with none, and in a dwell revolution. -/
theorem witness_ChainIndexPulse :
    let s := nearing 100 true 0 base
    let pending := slotted 63 (.occupied orphan)
      { nearing 199 true 0 base with chain := { base.chain with stripPending := some 63 } }
    (s.shaft.live && s.shaft.advance && s.shaft.isOpen .index && !s.chain.indexSeen) = true
      ∧ (base.shaft.live && base.shaft.advance && base.shaft.isOpen .index && !base.chain.indexSeen) = false
      ∧ (∀ advance, (nearing 199 advance 0 base).meets .index false) ∧ pending.meets .index false
      ∧ pending.chain.stripPending = some 63 ∧ pending.chain.slotOf 63 = .occupied orphan ∧ orphan.step = none
      ∧ base.counters.quiet ∧ base.board.nothingToPlan ∧ base.chain.stripPending = none := by
  refine ⟨by decide +kernel, by decide +kernel, fun a => meets_of_test ?_, meets_of_test (by decide +kernel),
    by decide +kernel, by decide +kernel, by decide +kernel, by unfold Counters.quiet; decide +kernel,
    by unfold Board.nothingToPlan; decide +kernel, by decide +kernel⟩
  cases a <;> decide +kernel

/-- Hypotheses of `ChainIndexPulse` about the return of a step: at the make-up limit of 3 and one below it, for a counted
reason and an uncounted one, planning blocked and not, and in a bad image; RUNOUT JAM of class NOTE, and of class STOP-NOW with
nothing else under way, DECISION still to come. -/
theorem witness_ChainIndexPulse_returns :
    (∀ reason ∈ [Reason.gateFail, .tier], ∀ n ∈ [2, 3], ∀ x ∈ [base, latched 22 base, classed 8 .note base],
      let b := runout n reason true x
      meetsTest b .index false = true ∧ b.shaft.advance = true ∧ b.chain.stripPending = some 63
        ∧ b.chain.slotOf 63 = .occupied { offered with disposition := .strip, reason := some reason } ∧ b.counters.quiet
        ∧ b.chain.sound ∧ (look b.alarm.codes 25).cls = .note ∧ (b.counted .index false).unmovedBy 18)
      ∧ (∀ reason ∈ [Reason.gateFail, .tier], ∀ n ∈ [2, 3], ∀ x ∈ [base, latched 22 base, classed 8 .note base],
        let c := { stepIn .stripping with makeUps := n }
        let b := runout n reason true x
        b.board.context? 0 = some c ∧ c.state ≠ .resolved ∧ b.board.sound ∧ b.board.nothingElseToPlan 0
          ∧ b.planner.freeze = false ∧ b.chain.indexSeen = true ∧ b.board.goodMask.getLsbD c.image = true
          ∧ b.planner.makeUpLimit = 3)
      ∧ (let b := runout 3 .tier true base
        (look b.alarm.codes 8).cls = .stopNow ∧ b.alarm.demand < 4 ∧ b.shaft.machine = .cycling ∧ b.chain.gatePending = none
          ∧ b.verifier.running = none ∧ b.head.record = none)
      ∧ ((runout 3 .tier true (classed 8 .note base)).counted .index false).unmovedBy 8
      ∧ (runout 3 .tier true (latched 22 base)).plansNothing ∧ (0#16).getLsbD (stepIn .stripping).image = false := by
  unfold Counters.quiet Board.sound Board.nothingElseToPlan Chain.sound Blocks.unmovedBy Blocks.plansNothing
  refine ⟨?_, ?_, ?_, ?_, ?_, ?_⟩ <;> decide +kernel

/-- Step 0 at offset 0, with the table, the span and the clinch ready for it. -/
def readyAt (angle : Nat) : State :=
  stateOf { slotted 0 (.occupied offered) (windowOf (stepIn .verified) (cyclingAt angle base)) with
    positioner := { base.positioner with
      target := some ⟨32655, 31000, 0, 0⟩, coarseRun := 8, fineRun := 16, spanTarget := some 75, spanReady := true }
    head := { base.head with output := some ⟨2, ⟨.inward, 1⟩⟩, ready := true } }

/-- Hypotheses of `TransferGrants`: step 0 ready; and step 0 of tier 1 with an unresolved step of tier 0 beside it, the
demand being STOP-AT-PARK and nothing ready. -/
theorem witness_TransferGrants :
    let b := (readyAt 439).blocks
    let c := stepIn .verified
    let late := { c with tier := 1 }
    let early := { stepIn .inserting with number := 1 }
    let d := slotted 0 (.occupied offered) { cyclingAt 439 (latched 13 base) with
      board := { base.board with window := [late, early], expectedStep := 2 } }
    b.meets .transfer true ∧ d.meets .transfer true ∧ offered.disposition = .insert ∧ offered.step = some c.number
      ∧ (b.shaft.machine = .cycling ∧ b.chain.slotAt 0 = .occupied offered ∧ b.board.context? c.number = some c
        ∧ c.state = .verified ∧ (∀ e ∈ b.board.window, e.state ≠ .resolved → c.tier ≤ e.tier)
        ∧ b.positioner.lock = none ∧ b.positioner.settle = .fine
        ∧ b.positioner.target = some ⟨(c.target.getD (0, 0)).1, (c.target.getD (0, 0)).2, c.theta, 0⟩
        ∧ c.target.isSome = true ∧ b.source.kind? c.kind = some resistor ∧ b.positioner.spanReady = true
        ∧ b.positioner.spanTarget = some resistor.span ∧ b.head.profileHolds resistor.profile = true
        ∧ b.alarm.demand < 3)
      ∧ d.shaft.machine = .cycling ∧ d.chain.slotAt 0 = .occupied offered ∧ d.board.context? late.number = some late
      ∧ late.state = .verified ∧ early ∈ d.board.window ∧ early.state ≠ .resolved ∧ early.tier < late.tier
      ∧ d.board.sound := by
  refine ⟨meets_of_test (by decide +kernel), meets_of_test (by decide +kernel), by decide +kernel, by decide +kernel,
    by decide +kernel, ?_⟩
  unfold Board.sound
  decide +kernel

def inserted : InsertionRecord := ⟨0, 3, some 21, true, true, true, true, true, false⟩

/-- SENSE about to close on the record `r` of step 0, `n` make-ups behind it. -/
def sensing (n : Nat) (r : InsertionRecord) (b : Blocks) : Blocks :=
  let live := nearing 999 true 7 b
  { windowOf { stepIn .inserting with makeUps := n } live with head := { b.head with record := some r } }

/-- Hypotheses of the clauses of `BothLeadsInsert`: both leads, one and none, at the make-up limit of 3 and one below it; in a
bad image; codes 18 and 19 of class STOP-AT-PARK before DECISION; under a hold; and the policies. -/
theorem witness_BothLeadsInsert :
    let leads : List InsertionRecord := [inserted, { inserted with leadA := false },
      { inserted with leadA := false, leadB := false }]
    let c := fun n => { stepIn .inserting with makeUps := n }
    (∀ p ∈ leads, (sensing 3 p base).meets .sense false)
      ∧ (∀ r ∈ leads, ∀ n ∈ [2, 3], ∀ x ∈ [base, latched 22 base],
        let b := sensing n r x
        (b.head.record = some r ∧ (c n).number = r.step ∧ b.board.context? r.step = some (c n)
            ∧ (c n).state = .inserting ∧ b.counters.quiet ∧ b.board.sound ∧ b.source.kind? r.kind = some resistor)
          ∧ (b.board.nothingToPlan ∧ b.board.nothingElseToPlan 0 ∧ b.planner.makeUpLimit = 3
            ∧ b.board.goodMask.getLsbD (c n).image = true ∧ b.chain.sound ∧ (look b.alarm.codes 25).cls = .note))
      ∧ (∀ code ∈ [18, 19], ((sensing 3 inserted base).counted .sense false).unmovedBy code)
      ∧ (sensing 3 inserted (latched 22 base)).plansNothing ∧ (0#16).getLsbD (c 3).image = false
      ∧ (c 3).override.getD resistor.policy = .stop ∧ (some Policy.mark).getD resistor.policy = .mark
      ∧ resistor.statistics < 64 := by
  refine ⟨meets_all (sensing 3 · base) (fun _ => .sense) (by decide +kernel), ?_, ?_, ?_, by decide +kernel⟩
  · unfold Counters.quiet Board.sound Board.nothingToPlan Board.nothingElseToPlan Chain.sound
    decide +kernel
  · unfold Blocks.unmovedBy
    decide +kernel
  · unfold Blocks.plansNothing
    decide +kernel

/-- The close of a window on the record `r` of step 0, INSERTING and named by no slot, the table locked for it. -/
def closingWindow (w : Window) (r : Option InsertionRecord) : Blocks :=
  let live := nearing ((apart.shaft.arc w).stop - 1) true (windowIndex w) apart
  { windowOf (stepIn .inserting) live with
    head := { base.head with inhibit := false, record := r }
    positioner := { base.positioner with lock := some 0 } }

/-- A record with every line seen, or none. -/
def lines (seen : Bool) : InsertionRecord :=
  { inserted with jaws := seen, down := seen, returned := seen, up := seen }

/-- Hypotheses of the closes of `LinesSeenInTheirWindows`: every line seen, none seen, and no record, SENSE among them. -/
theorem witness_LinesSeenInTheirWindows :
    (∀ r ∈ [none, some (lines true), some (lines false)],
      ∀ w ∈ [Window.transfer, .descend, .clinch, .sense, .retract], (closingWindow w r).meets w false)
      ∧ ∀ r ∈ [none, some (lines true), some (lines false)], ∀ w ∈ [Window.transfer, .descend, .clinch, .retract],
        let b := closingWindow w r
        b.head.record = r ∧ (∀ code ∈ [2, 3, 4, 5], (look b.alarm.codes code).cls = .stopNow) ∧ b.alarm.demand < 4
          ∧ b.shaft.machine = .cycling ∧ b.board.context? (lines true).step = some (stepIn .inserting)
          ∧ b.board.sound ∧ ∀ x ∈ b.chain.slots, x.step? ≠ some (lines true).step := by
  refine ⟨fun r _ => meets_all (closingWindow · r) id ?_, ?_⟩
  · have : ∀ r ∈ [none, some (lines true), some (lines false)], [Window.transfer, .descend, .clinch, .sense, .retract].all
        (fun w => meetsTest (closingWindow w r) (id w) false) = true := by decide +kernel
    exact this r ‹_›
  · unfold Board.sound
    decide +kernel

/-- The open of a window on the record `r` of step 0, the table locked for it. -/
def openingWindow (w : Window) (r : Option InsertionRecord) : Blocks :=
  let live := nearing ((apart.shaft.arc w).start - 1) true (windowIndex .index) apart
  { windowOf (stepIn .inserting) live with
    head := { base.head with inhibit := false, record := r }
    positioner := { base.positioner with lock := some 0 } }

/-- Hypotheses of the opens of `LinesSeenInTheirWindows`: UP seen already and not, HEAD UP not awaited, and no record. -/
theorem witness_LinesSeenInTheirWindows_opens :
    ∀ r ∈ [none, some (lines true), some (lines false)], (∀ w ∈ [Window.descend, .clinch, .sense, .retract],
        (openingWindow w r).meets w true)
      ∧ (openingWindow .retract r).head.record = r ∧ (openingWindow .retract r).head.upAwaited = false
      ∧ (lines true).up = true ∧ (lines false).up = false := by
  intro r hr
  refine ⟨meets_all (openingWindow · r) id ?_, by rfl, by rfl, rfl, rfl⟩
  have : ∀ r ∈ [none, some (lines true), some (lines false)], [Window.descend, .clinch, .sense, .retract].all
      (fun w => meetsTest (openingWindow w r) (id w) true) = true := by decide +kernel
  exact this r hr

/-- HEAD UP awaited in RETRACT, the table locked for step 0, and step 1 beyond it on the chain at an offset. -/
def rising (offset : Nat) : Blocks :=
  slotted offset (.occupied { offered with step := some 1 }) { nearing 1050 true 8 base with
    board := { base.board with window := [stepIn .inserting, { stepIn .verified with number := 1 }], expectedStep := 2 }
    head := { base.head with record := some inserted, upAwaited := true }
    positioner := { base.positioner with lock := some 0 } }

/-- Hypotheses of the clauses of `HeadUpFreesTheLock`: a candidate at offset 0 and at the last one, an empty chain, the target
held and not, the span and the outputs held and not, and the profile loaded and unloaded. -/
theorem witness_HeadUpFreesTheLock :
    let c := { stepIn .verified with number := 1 }
    (∀ j ∈ [0, 63], (rising j).shaft.isOpen .retract = true ∧ (rising j).head.record = some inserted
        ∧ (rising j).head.upAwaited = true ∧ (rising j).positioner.lock ≠ none ∧ (rising j).chain.length = 64
        ∧ (rising j).chain.slotAt j = .occupied { offered with step := some 1 }
        ∧ (∀ i, i < j → (rising j).chain.slotAt i = .empty)
        ∧ (rising j).board.context? 1 = some c ∧ (rising j).source.kind? c.kind = some resistor)
      ∧ (∀ j, j < 64 → base.chain.slotAt j = .empty) ∧ c.target = some (32655, 31000) ∧ base.positioner.target = none
      ∧ (readyAt 0).blocks.positioner.target = some ⟨32655, 31000, 0, 0⟩
      ∧ base.positioner.spanTarget ≠ some resistor.span
      ∧ (readyAt 0).blocks.positioner.spanTarget = some resistor.span
      ∧ look base.head.profiles resistor.profile = some ⟨.inward, 1⟩ ∧ base.head.output = none
      ∧ (readyAt 0).blocks.head.output = some ⟨2, ⟨.inward, 1⟩⟩ ∧ look Head.reset.profiles resistor.profile = none := by
  decide +kernel

/-- The state of `DwellTimesOut`: step 0 at offset 0 with dwell count `n`, the table not settled, TRANSFER about to open or
open, its offer made or not. -/
def waitingStep (n angle : Nat) (offerTaken : Bool) (b : Blocks) : State :=
  let live := nearing angle true 4 b
  stateOf (slotted 0 (.occupied offered) (windowOf { stepIn .verified with dwell := n } { live with
    shaft := { live.shaft with offerTaken := offerTaken } }))

/-- Hypotheses of `DwellTimesOut`: a count that the wait brings to the limit of 16 and one that it leaves below, at the sample
that opens TRANSFER and in the open window, the offer made or not, and a demand of STOP-AT-PARK. -/
theorem witness_DwellTimesOut :
    (∀ n ∈ [14, 15, 64], ∀ b ∈ [base, latched 13 base], ∀ taken,
      let s := waitingStep n 439 taken b
      let c := { stepIn .verified with dwell := n }
      s.blocks.shaft.live = true ∧ s.blocks.shaft.isOpen .transfer = true ∧ s.blocks.shaft.offerTaken = taken
        ∧ s.blocks.shaft.machine = .cycling
        ∧ s.blocks.chain.slotAt 0 = .occupied offered ∧ s.blocks.board.context? 0 = some c ∧ c.state = .verified
        ∧ s.blocks.source.kind? c.kind = some resistor
        ∧ (∀ e ∈ s.blocks.board.window, e.state ≠ .resolved → c.tier ≤ e.tier)
        ∧ s.blocks.positioner.settledFor c = false)
      ∧ (waitingStep 15 439 false base).blocks.meets .transfer true
      ∧ base.head.dwellLimit = min (15 + 1) 64 ∧ min (14 + 1) 64 < base.head.dwellLimit
      ∧ (waitingStep 15 439 false base).blocks.alarm.demand < 3
      ∧ 3 ≤ (waitingStep 15 439 false (latched 13 base)).blocks.alarm.demand := by
  refine ⟨?_, meets_of_test (by decide +kernel), by decide +kernel, by decide +kernel, by decide +kernel, by decide +kernel⟩
  intro n hn b hb taken
  simp only [List.mem_cons, List.not_mem_nil, or_false] at hn hb
  rcases hn with rfl | rfl | rfl <;> rcases hb with rfl | rfl <;> cases taken <;> decide +kernel

def aiming : State :=
  stateOf { base with positioner := { base.positioner with
    targetNumber := 9, target := some ⟨100, 200, 1, 0⟩, coarseRun := 8, fineRun := 15 } }

/-- Hypotheses of the clauses of `PositionSampleMovesRuns`: no target; and samples 4, 5, 20 and 21 counts off, the fine
window being 4 and the coarse window 20; and the table FINE under the lock. -/
theorem witness_PositionSampleMovesRuns : (stateOf base).blocks.positioner.target = none
    ∧ aiming.blocks.positioner.target = some ⟨100, 200, 1, 0⟩ ∧ aiming.blocks.positioner.lock = none
    ∧ ((104 : Int) - 100).natAbs ≤ aiming.blocks.positioner.config.fine
    ∧ ¬ ((105 : Int) - 100).natAbs ≤ aiming.blocks.positioner.config.fine
    ∧ ((120 : Int) - 100).natAbs ≤ aiming.blocks.positioner.config.coarse
    ∧ ¬ ((121 : Int) - 100).natAbs ≤ aiming.blocks.positioner.config.coarse
    ∧ (let p := { aiming.blocks.positioner with fineRun := 16, lock := some 0, lockKind := some 3 }
       p.target = some ⟨100, 200, 1, 0⟩ ∧ p.lock = some 0 ∧ p.settle = .fine ∧ p.slipReported = false) := by decide +kernel

/-- Hypotheses of the clauses of `SilenceIsReportedOnce`. -/
theorem witness_SilenceIsReportedOnce : (stateOf base).blocks.positioner.target = none
    ∧ aiming.blocks.positioner.target = some ⟨100, 200, 1, 0⟩ ∧ aiming.blocks.positioner.lock = none
    ∧ aiming.blocks.positioner.silenceReported = false
    ∧ ({ aiming.blocks.positioner with silenceReported := true } : Positioner).silenceReported = true := by decide +kernel

/-- A live advance with slot 11, whose source stands at offset 10, come down to that offset, FIRE about to open. -/
def firing (b : Blocks) : Blocks :=
  slotted 10 (.reserved 0 21) (nearing 239 true 9 (windowOf (stepIn .planned) { apart with source := b.source }))

/-- Hypotheses of the clauses of `NotHomeIsAJam`: a reply of bank 11 with its fired position home and not, of another frame, and
of bank 0 a second time; FIRE opening with no slot to fire and with one, whose reel holds 100, 21 (one above its threshold) and 1;
and FIRE closing with no frame, with every bank having replied, with bank 2 silent, its dispenser 21 fired or not, and with
banks 2 and 11 silent, of which 11 is judged last, its fired dispenser 95 the one of the context. -/
theorem witness_NotHomeIsAJam :
    let f : FireFrame := ⟨15, [⟨21, 0, 3⟩, ⟨95, 1, 3⟩], [0]⟩
    let s := stateOf { base with source := { base.source with outstanding := some f } }
    (s.blocks.source.outstanding = some f ∧ f.number = 15 ∧ 11 ∉ f.replied ∧ (⟨95, 1, 3⟩ : Fire) ∈ f.fires
      ∧ 95 / 8 = 11 ∧ (∀ g ∈ f.fires, g.dispenser / 8 = 11 → g = ⟨95, 1, 3⟩)
      ∧ (0x7F#8).getLsbD (95 % 8) = false ∧ (0x80#8).getLsbD (95 % 8) = true ∧ 0 ∈ f.replied
      ∧ (∀ g ∈ f.fires, g.dispenser / 8 ≠ 1) ∧ f.number ≠ 14)
      ∧ (nearing 239 true 9 apart).meets .fire true ∧ (nearing 399 true 1 apart).meets .fire false
      ∧ (∀ j n d, apart.chain.slotAt j ≠ .reserved n d)
      ∧ (∀ count ∈ [100, 21, 1],
        let b := firing { base with source := { base.source with
          dispensers := put base.source.dispensers 21 { reel with count := count } } }
        10 < b.chain.length ∧ b.chain.slotAt 10 = .reserved 0 21 ∧ (look b.source.dispensers 21).offset = 10
          ∧ (∀ j ∈ List.range 64, j = 10 ∨ b.chain.slotAt j = .empty) ∧ b.chain.length = 64
          ∧ b.board.context? 0 = some (stepIn .planned) ∧ (∀ e ∈ b.board.window, e.state = .planned → e.number = 0)
          ∧ (look b.source.dispensers 21).count = count ∧ (look b.source.dispensers 21).threshold = 20)
      ∧ base.counters.quiet
      ∧ (∀ d ∈ List.range 96, (look base.source.dispensers d).installed = decide (d = 21)) ∧ 21 / 8 = 2
      ∧ 2 ∈ [2] ∧ (2 : Nat) ∉ [0] ∧ (∀ e ∈ [(⟨95, 1, 3⟩ : Fire)], e.dispenser / 8 ≠ 2)
      ∧ ((List.range 12).filter fun bank => (List.range 96).any fun d =>
        (look (withReel 95 reel base).source.dispensers d).installed && decide (d / 8 = bank)
          && !f.replied.contains bank) = [2, 11] := by
  refine ⟨by decide +kernel, meets_of_test (by decide +kernel), meets_of_test (by decide +kernel), fun j n d h => ?_,
    by decide +kernel, by unfold Counters.quiet; decide +kernel, by decide +kernel, by decide +kernel, by decide,
    by decide, by decide, by decide +kernel⟩
  have empty : ∀ p, apart.chain.slotOf p = .empty := fun p => by
    show ((List.replicate 64 Slot.empty)[p]?).getD .empty = .empty
    rw [List.getElem?_replicate]
    split <;> rfl
  exact absurd ((empty _).symm.trans h) nofun

/-- Hypotheses of the clauses of `LoadedPressRefills`: bank 11 position 7 is not installed, bank 2 position 5 is; its threshold
below its capacity and at it, its absence reported already and not. -/
theorem witness_LoadedPressRefills : (stateOf base).blocks.source.outstanding = none
    ∧ (look (stateOf base).blocks.source.dispensers (11 * 8 + 7)).installed = false
    ∧ (∀ e ∈ [reel, { reel with threshold := 100 }, { reel with outReported := true }], let b := withReel 21 e base
      (look b.source.dispensers (2 * 8 + 5)) = e ∧ e.installed = true ∧ b.board.nothingToPlan ∧ b.counters.quiet
        ∧ b.source.outstanding = none ∧ b.unmovedBy 26 ∧ b.unmovedBy 24)
    ∧ reel.threshold ≠ reel.capacity ∧ reel.capacity ≠ 0 := by
  unfold Board.nothingToPlan Counters.quiet Blocks.unmovedBy
  decide +kernel

/-- Steps 0 to 2 PLANNED at pitches 12 to 14, their slots RESERVED from dispensers 22, 21 and 22, under a hold. -/
def threePlanned : Blocks :=
  let c := fun (n d : Nat) => { stepIn .planned with number := n, source := some d, slot := some (12 + n) }
  slotted 12 (.reserved 0 22) (slotted 13 (.reserved 1 21) (slotted 14 (.reserved 2 22) (withReel 22 reel
    { latched 22 base with board := { base.board with window := [c 0 22, c 1 21, c 2 22], expectedStep := 3 } })))

/-- Hypotheses of `LoadedPressRefills` about a replan: step 1 is the lowest whose slot is RESERVED from dispenser 21, and step 0
stands below it. -/
theorem witness_LoadedPressRefills_replans :
    let b := threePlanned
    let c := { stepIn .planned with number := 1, source := some 21, slot := some 13 }
    (c ∈ b.board.window ∧ b.chain.slotOf 13 = .reserved 1 21 ∧ b.board.sound ∧ b.plansNothing ∧ b.counters.quiet
        ∧ (look b.alarm.codes 24).cls = .note ∧ (look b.source.dispensers 21).installed = true)
      ∧ (∀ p ∈ [(12, 0), (13, 1), (14, 2)], (b.chain.slotOf p.1).step? = some p.2
        ∧ ∀ q, q < b.chain.slots.length → (b.chain.slotOf q).step? = some p.2 → q = p.1)
      ∧ b.chain.slotOf 12 = .reserved 0 22 ∧ b.source.outstanding = none := by
  unfold Board.sound Blocks.plansNothing Counters.quiet
  decide +kernel

/-- Hypotheses of the clauses of `LevelLinesFollow`, for each line. -/
theorem witness_LevelLinesFollow :
    let t := after (.levelInputAsserted .binFull) (after (.levelInputAsserted .airLow)
      (after (.levelInputAsserted .guardOpen) (stateOf base)))
    (∀ code ∈ [20, 21, 22], (look (stateOf base).blocks.alarm.codes code).state ≠ .active
      ∧ (look (stateOf base).blocks.alarm.codes code).noticePending = false)
      ∧ (stateOf base).levels = ⟨false, false, false, false⟩ ∧ t.levels = ⟨false, true, true, true⟩
      ∧ ∀ code ∈ [20, 21, 22], (look t.blocks.alarm.codes code).state = .active := by decide +kernel

/-- Hypotheses of the clauses of `EmergencyStopActs`: a cycling machine and a stopped one; and the line asserted, HALTED. -/
theorem witness_EmergencyStopActs :
    let s := stateOf (cyclingAt 600 base)
    let t := after .eStopAsserted s
    (s.levels.eStop = false ∧ (look s.blocks.alarm.codes 0).state ≠ .active ∧ (look s.blocks.alarm.codes 0).cls = .stopNow
        ∧ s.blocks.alarm.demand < 4 ∧ s.blocks.shaft.sound)
      ∧ t.levels.eStop = true ∧ t.blocks.shaft.machine = .halted ∧ (look t.blocks.alarm.codes 0).state = .active := by
  refine ⟨⟨rfl, by decide +kernel, by decide +kernel, by decide +kernel, ?_⟩, by decide +kernel, by decide +kernel,
    by decide +kernel⟩
  unfold Shaft.sound
  refine ⟨by decide +kernel, by decide +kernel, by decide +kernel, by decide +kernel, by decide +kernel, fun h => ?_⟩
  exact absurd h (by decide +kernel)

def ackRecord (n : Nat) : Record := ⟨0x13#8, [byteOf n]⟩

/-- Hypotheses of the clauses of `AcknowledgementsAct`: code 31 LATCHED and named or presented, code 0 ACTIVE, an IDLE code
named, none presented, and the codes 32 and 254; and for the key, the same states with nothing in the buffer. -/
theorem witness_AcknowledgementsAct :
    (∀ n ∈ [31, 255, 0, 32, 254], (given (ackRecord n) (latched 31 base)).offers (ackRecord n) []
        ∧ (given (ackRecord n) base).offers (ackRecord n) [])
      ∧ base.board.nothingToPlan ∧ (latched 31 base).alarm.presented = some 31
      ∧ (look (latched 31 base).alarm.codes 31).state = .latched ∧ (look base.alarm.codes 0).state = .idle
      ∧ base.alarm.presented = none ∧ (look (after .eStopAsserted (stateOf base)).blocks.alarm.codes 0).state = .active
      ∧ (after .eStopAsserted (stateOf base)).blocks.alarm.presented = some 0
      ∧ (stateOf (latched 31 base)).blocks = latched 31 base ∧ (stateOf (latched 31 base)).link.input = [] := by
  unfold State.offers Board.nothingToPlan
  decide +kernel

/-- Hypotheses of `FrameBecomesRecord`: the longest record, and a buffer with one free place. -/
theorem witness_FrameBecomesRecord :
    let r : Record := ⟨0x10#8, List.replicate 60 0xA5#8⟩
    let s : State := { stateOf base with link := { State.reset.link with input := List.replicate 7 r } }
    r.payload.length ≤ 60 ∧ r.type ≠ 0x1F#8 ∧ s.link.receiver.phase = .hunt ∧ s.link.input.length < 8 := by decide +kernel

/-- A receiver in a phase, with a type, a payload, the first CRC byte noted, and the buffer full at the sync byte or not. -/
def receiving (phase : RxPhase) (type : Byte) (payload : List Byte) (full : Bool) : Receiver :=
  ⟨phase, type, payload.length, payload,
    some ((crcOf (type :: byteOf payload.length :: payload)).extractLsb' 8 8), full, 0⟩

/-- Hypotheses of the clauses of `BytesAndGaps`: in HUNT and out of it; the length byte 61; and a second CRC byte that disagrees,
that agrees with a full buffer, and that agrees for a RETURN CREDIT of no byte. -/
theorem witness_BytesAndGaps : State.reset.link.receiver.phase = .hunt ∧ (0xA4#8 : Byte) ≠ 0xA5#8
    ∧ (after (.linkByteReceived 0xA5#8 true) State.reset).link.receiver.phase ≠ .hunt
    ∧ (receiving .length 0x14#8 [] false).phase = .length ∧ 60 < (61#8 : Byte).toNat
    ∧ (∀ r ∈ [receiving .check 0x14#8 [] true, receiving .check 0x1F#8 [] false], ∃ high ∈ r.crcHigh, r.phase = .check
      ∧ ∃ n ∈ List.range 256, high ++ BitVec.ofNat 8 n = crcOf (r.type :: byteOf r.payload.length :: r.payload)
        ∧ ¬ high ++ BitVec.ofNat 8 (n + 1) = crcOf (r.type :: byteOf r.payload.length :: r.payload))
    ∧ (receiving .check 0x14#8 [] true).type ≠ 0x1F#8 ∧ (receiving .check 0x14#8 [] true).full = true
    ∧ (receiving .check 0x1F#8 [] false).type = 0x1F#8 ∧ (receiving .check 0x1F#8 [] false).payload.length ≠ 1 := by
  decide +kernel

/-- Hypothesis of `CreditAndSending`: a receiver in HUNT with a full buffer. -/
theorem witness_CreditAndSending :
    ({ stateOf base with link := { State.reset.link with input := List.replicate 8 ⟨0x14#8, []⟩ } } : State
      ).link.receiver.phase = .hunt := rfl

/-- Hypotheses of the clauses of `PlacementsJoinTheQueue`: a full queue, one with a single free place, a resolved step with its
outcome, a notice, a board that can close and one that cannot. -/
theorem witness_PlacementsJoinTheQueue :
    64 ≤ (List.replicate 64 (⟨0x86#8, []⟩ : Record)).length ∧ (List.replicate 63 (⟨0x86#8, []⟩ : Record)).length < 64
      ∧ (let d := (after .step (given stepRecord { base with board := { base.board with goodMask := 0#16 } })).blocks.board
         d.reportOrder = 0 :: [] ∧ (d.context? 0).map StepContext.outcome = some (some .skippedBadImage))
      ∧ busy.blocks.alarm.notices = 26 :: [] ∧ (closing base).board.phase = .closing ∧ (closing base).board.window = []
      ∧ base.board.phase ≠ .closing := by decide +kernel

/-- Hypotheses of `PassingRecordsOvertake`: a STEP held by a full window, and behind it a LOAD, a RESET, a record of unknown
type and a STEP; and a QUERY offered. -/
theorem witness_PassingRecordsOvertake :
    (∀ q ∈ [loadRecord 3 21 [], controlRecord 7 0#8, ⟨0xFF#8, []⟩, stepRecord],
      let s : State := { stateOf { base with board := { base.board with
          window := List.replicate 256 (stepIn .resolved) } } with
        link := { State.reset.link with input := [stepRecord, q] } }
      s.link.input = stepRecord :: q :: [] ∧ stepRecord.type = 0x02#8 ∧ 256 ≤ s.blocks.board.window.length
        ∧ s.link.upstream.length < 64)
      ∧ (∀ q ∈ [loadRecord 3 21 [], controlRecord 7 0#8, ⟨0xFF#8, []⟩], q.type ∉ [0x01#8, 0x02#8, 0x03#8, 0x04#8])
      ∧ (given ⟨0x14#8, []⟩ base).offers ⟨0x14#8, []⟩ [] := by
  unfold State.offers
  decide +kernel

/-- Hypotheses of the clauses of `UnknownRecordsRefused`: type 15h, CONTROL subcommand 8, LOAD table 11. -/
theorem witness_UnknownRecordsRefused :
    (given ⟨0x15#8, []⟩ base).offers ⟨0x15#8, []⟩ [] ∧ (given ⟨0x12#8, [8, 0]⟩ base).offers ⟨0x12#8, [8, 0]⟩ []
      ∧ (given ⟨0x10#8, [11]⟩ base).offers ⟨0x10#8, [11]⟩ []
      ∧ (0x15#8 : Byte) ∉ [0x01#8, 0x02#8, 0x03#8, 0x04#8, 0x10#8, 0x11#8, 0x12#8, 0x13#8, 0x14#8]
      ∧ 7 < byteAt [8, 0] 0 ∧ 10 < byteAt [11] 0 := by
  unfold State.offers
  decide +kernel

/-- A BOARD START of board FFFFFFFFh for image 0, with a correction and an expected count. -/
def startOf (dx dy : Int) (count : Nat) : Record :=
  ⟨0x01#8, be32 4294967295 ++ be16 1 ++ be16 (dx % 65536).toNat ++ be16 (dy % 65536).toNat ++ [1#8] ++ be24 count⟩

/-- Hypotheses of the clauses of `BoardsOpenAndClose`: a board stands; none does; corrections and counts at their limits, and
one beyond each; and BOARD END records against the expected numbers. -/
theorem witness_BoardsOpenAndClose :
    (∀ p ∈ [(-2000, 2000, 65536), (-2001, 2001, 65537), (32767, -32768, 16777215), (2000, 2001, 65536),
        (2000, -2000, 65537)], ∀ b ∈ [base, noBoard base, Blocks.reset],
        (given (startOf p.1 p.2.1 p.2.2) b).offers (startOf p.1 p.2.1 p.2.2) [])
      ∧ base.board.phase ≠ .none ∧ (noBoard base).board.phase = .none ∧ crossFault (noBoard base) 1#16 = none
      ∧ Blocks.reset.board.phase = .none ∧ crossFault Blocks.reset 1#16 = some (0, 0)
      ∧ (∀ n ∈ [0, 16777215], (given ⟨0x03#8, be24 n⟩ base).offers ⟨0x03#8, be24 n⟩ [])
      ∧ base.board.phase = .opened ∧ (closing base).board.phase = .closing ∧ 0 = base.board.expectedStep
      ∧ base.board.expectedCount = none
      ∧ ({ base.board with expectedCount := some 1 } : Board).expectedCount = some 1 := by
  unfold State.offers
  decide +kernel

/-- Hypotheses of `StepAccepted`, with the largest fields and STOP as the override: in a good image within the limits under
a hold, outside the limits, and in a bad image. -/
theorem witness_StepAccepted :
    let r : Record := ⟨0x02#8, be16 65535 ++ [byteOf 3, byteOf 0] ++ be16 60000 ++ be16 60000 ++ [byteOf (15 * 16 + 1 * 4 + 3)]⟩
    let b : Blocks := { latched 22 base with board := { base.board with expectedStep := 65535, expectedCount := some 65536 } }
    let target := transform b.positioner.config (look b.positioner.images 0) b.board.dx b.board.dy 60000 60000 3
    (given r b).offers r [] ∧ b.board.window.length < 256 ∧ b.board.phase = .opened
      ∧ (∀ n, b.board.expectedCount = some n → 65535 < n) ∧ b.board.lastTier ≤ 15 ∧ (b.source.kind? 3).isSome = true
      ∧ (look b.positioner.images 0).installed = true ∧ b.board.sound ∧ b.board.goodMask.getLsbD 0 = true
      ∧ b.positioner.config.inField target = false
      ∧ ({ b.positioner.config with xMin := -100000, yMin := -100000 } : TableConfig).inField target = true
      ∧ 2 ≤ b.alarm.demand ∧ (0#16).getLsbD 0 = false := by
  refine ⟨by unfold State.offers; decide +kernel, by decide +kernel, by decide +kernel, ?_, by decide +kernel,
    by decide +kernel, by decide +kernel, by unfold Board.sound; decide +kernel, by decide +kernel, by decide +kernel,
    by decide +kernel, by decide +kernel, by decide +kernel⟩
  intro n h
  cases h
  decide

/-- A STEP with tier 0, the inherited policy or another, and theta 0. -/
def stepOf (number kind image x y policy : Nat) : Record :=
  ⟨0x02#8, be16 number ++ [byteOf kind, byteOf image] ++ be16 x ++ be16 y ++ [byteOf (0 * 16 + policy * 4 + 0)]⟩

/-- Hypotheses of the refusals of `StepAccepted`: no board, a CLOSING one, another number, a count that the number reaches, each
field one beyond its range, a lower tier, a kind not loaded and an image not installed; FEED ERROR of class NOTE. -/
theorem witness_StepAccepted_refusals :
    (∀ r ∈ [stepOf 0 3 0 60001 60001 3, stepOf 0 3 16 60000 60001 3, stepOf 0 3 16 60000 60000 3, stepOf 0 3 15 0 0 3,
        stepOf 0 4 0 0 0 0, stepOf 0 3 15 0 0 2, stepOf 65535 255 255 65535 65535 3],
      ∀ b ∈ [base, noBoard base, closing base], (given r b).offers r [])
      ∧ (noBoard base).board.phase = .none ∧ (closing base).board.phase = .closing ∧ base.board.phase = .opened
      ∧ 65535 ≠ base.board.expectedStep ∧ 0 = base.board.expectedStep ∧ base.board.expectedCount = none
      ∧ ({ base.board with expectedCount := some 0 } : Board).expectedCount = some 0
      ∧ 0 < ({ base.board with lastTier := 1 } : Board).lastTier ∧ base.board.lastTier ≤ 0
      ∧ base.source.kind? 4 = none ∧ base.source.kind? 3 ≠ none ∧ (look base.positioner.images 15).installed = false
      ∧ (look base.alarm.codes 27).cls = .note ∧ base.counters.quiet := by
  unfold State.offers Counters.quiet
  refine ⟨?_, by decide +kernel⟩
  decide +kernel

/-- Hypotheses of the first clause of `StepReservedOnEmptyChain`. -/
theorem witness_StepReservedOnEmptyChain :
    let r : Record := ⟨0x02#8, be16 0 ++ [byteOf 3, byteOf 0] ++ be16 12345 ++ be16 4000 ++ [byteOf (0 * 16 + 0)]⟩
    let target := transform base.positioner.config (look base.positioner.images 0) base.board.dx base.board.dy 12345 4000 0
    (given r base).offers r [] ∧ base.board.window = [] ∧ base.board.phase = .opened ∧ 0 = base.board.expectedStep
      ∧ base.board.expectedCount = none ∧ base.board.lastTier ≤ 0 ∧ base.source.kind? 3 = some resistor
      ∧ resistor.sources = [21] ∧ resistor.pin = none ∧ base.source.available 21 resistor = true
      ∧ (look base.source.dispensers 21).condition = .operational ∧ (look base.positioner.images 0).installed = true
      ∧ base.board.goodMask.getLsbD 0 = true ∧ base.positioner.config.inField target = true
      ∧ base.shaft.machine = .stopped ∧ base.alarm.demand < 2 ∧ base.planner.freeze = false
      ∧ base.chain.loaded = true ∧ base.chain.work = false
      ∧ (look base.source.dispensers 21).offset + 1 < base.chain.length := by
  unfold State.offers
  decide +kernel

/-- A kind of the sources 21 and 22 of bank 2, both at a station offset, 21 PROVING, with a slot RESERVED for 23 of that bank. -/
def twoReels (offset : Nat) (pin : Option Nat) (selection : Selection) (reserved : Nat) : Blocks :=
  slotted reserved (.reserved 9 23) (withReel 23 { reel with offset := 9 } (withReel 22 { reel with offset := offset }
    (withReel 21 { reel with offset := offset, condition := .proving }
      (withKind 3 { resistor with sources := [21, 22], pin := pin, selection := selection } base))))

/-- Hypotheses of the second clause of `StepReservedOnEmptyChain` on the record and the state. -/
def takesStep (b : Blocks) : Prop :=
  let r : Record := ⟨0x02#8, be16 0 ++ [byteOf 3, byteOf 0] ++ be16 12345 ++ be16 4000 ++ [byteOf (0 * 16 + 0)]⟩
  (given r b).offers r [] ∧ b.board.window.length < 256 ∧ b.board.sound ∧ b.board.phase = .opened ∧ 0 = b.board.expectedStep
    ∧ b.board.expectedCount = none ∧ b.board.lastTier ≤ 0 ∧ b.source.kind? 3 ≠ none
    ∧ (look b.positioner.images 0).installed = true ∧ b.board.goodMask.getLsbD 0 = true
    ∧ b.positioner.config.inField (transform b.positioner.config (look b.positioner.images 0) b.board.dx b.board.dy
      12345 4000 0) = true
    ∧ b.shaft.machine = .stopped ∧ b.alarm.demand < 2 ∧ b.planner.freeze = false
    ∧ (∀ c ∈ b.board.window, c.state ≠ .queued) ∧ b.counters.quiet ∧ (look b.alarm.codes 25).cls = .note

/-- Hypotheses of the second clause of `StepReservedOnEmptyChain`: two sources at one offset, whose slot at 11 is free of a clash
and fits both, a tie; the same with the slot at 10 RESERVED for their bank at the same fire wait as theirs at 11, so that 12
fits; no slot left above the station, HORIZON; and a pin beyond the list, so no candidate. -/
theorem witness_StepReservedOnEmptyChain_sources :
    (∀ b ∈ [twoReels 10 none .fill 0, twoReels 10 none .spread 0, twoReels 10 none .fill 10, twoReels 63 none .fill 0,
        twoReels 10 (some 3) .fill 0], takesStep b)
      ∧ (∀ d ∈ [21, 22], (twoReels 10 none .fill 10).source.available d { resistor with sources := [21, 22] } = true)
      ∧ 10 + 10 = 11 + 9 ∧ 23 / 8 = 21 / 8 ∧ (look (twoReels 63 none .fill 0).source.dispensers 21).offset + 1 = base.chain.length
      ∧ (look (after .step (given stepRecord (twoReels 10 none .fill 0))).blocks.source.kinds 3).lastUsed = 0
      ∧ (look (after .step (given stepRecord (twoReels 10 none .spread 0))).blocks.source.kinds 3).lastUsed = 1 := by
  refine ⟨by unfold takesStep State.offers Board.sound Counters.quiet; decide +kernel, by decide +kernel, by decide,
    by decide, by decide +kernel, by decide +kernel, by decide +kernel⟩

/-- The component of step 0 on the chain. -/
def offeredAtGate : Component := ⟨some 0, some 21, some 3, .passed, .insert, none, false⟩

/-- Hypotheses of the clauses of `BadImageMarks`. -/
theorem witness_BadImageMarks :
    let b := windowOf (stepIn .inserting) base
    (∀ n ∈ [0, 15, 16, 255], (given ⟨0x04#8, [byteOf n]⟩ b).offers ⟨0x04#8, [byteOf n]⟩ [])
      ∧ b.planner.freeze = false ∧ (noBoard base).board.phase = .none ∧ b.board.phase ≠ .none ∧ b.board.sound
      ∧ ∀ c ∈ b.board.window, c.image = 0 →
        c.state = .inserting ∨ c.state = .uncertain ∨ c.state = .stripping ∨ c.state = .resolved := by
  unfold State.offers Board.sound
  decide +kernel

/-- Step 0 of image 0, PLANNED or FIRED, with its slot at a pitch, and step 1 of image 1 PLANNED above it at pitch 20, under a
demand that blocks planning. -/
def twoImages (st : StepState) (pitch : Nat) (slot : Slot) : Blocks :=
  let b := latched 22 (slotted 20 (.reserved 1 21) (slotted pitch slot base))
  { b with board := { b.board with expectedStep := 2, goodMask := 3#16, window :=
      [{ stepIn st with slot := some pitch },
        { stepIn .planned with number := 1, image := 1, slot := some 20, dwell := 15 }] } }

/-- Hypotheses of the general clause of `BadImageMarks`: step 0 QUEUED, PLANNED with its slot, and FIRED below the gate, at it
with gate done clear, and above it; and step 1 of the other image, PLANNED above a PLANNED one. -/
theorem witness_BadImageMarks_general :
    (∀ p ∈ [(StepState.queued, 4, Slot.empty), (.planned, 11, .reserved 0 21), (.fired, 2, .occupied offeredAtGate),
        (.fired, 3, .occupied offeredAtGate), (.verified, 4, .occupied offeredAtGate), (.diverting, 4, .occupied offeredAtGate)],
      let b := twoImages p.1 p.2.1 p.2.2
      (given ⟨0x04#8, [byteOf 0]⟩ b).offers ⟨0x04#8, [byteOf 0]⟩ [] ∧ b.planner.freeze = false ∧ b.board.phase ≠ .none
        ∧ b.board.sound ∧ b.counters.quiet ∧ (look b.alarm.codes 25).cls = .note
        ∧ b.chain.gateDone = false ∧ b.chain.offsetOf p.2.1 = p.2.1 ∧ 2 ≤ b.alarm.demand
        ∧ (p.2.2 = .empty ∨ (b.chain.slotOf p.2.1).step? = some 0
          ∧ ∀ q, q < b.chain.slots.length → (b.chain.slotOf q).step? = some 0 → q = p.2.1)
        ∧ b.chain.slotOf 20 = .reserved 1 21
        ∧ ∀ q, q < b.chain.slots.length → (b.chain.slotOf q).step? = some 1 → q = 20)
      ∧ (∃ f ∈ (twoImages .planned 11 (.reserved 0 21)).board.window, f.image = 0 ∧ f.state = .planned ∧ f.number < 1) := by
  unfold State.offers Board.sound Counters.quiet
  decide +kernel

/-- Hypothesis of the second clause of `TierQuestion`. -/
theorem witness_TierQuestion :
    (([{ stepIn .queued with tier := 1 }, { stepIn .queued with number := 1, tier := 1 },
      { stepIn .queued with number := 2, tier := 15 }]).map StepContext.tier).Pairwise (· ≤ ·) := by decide

/-- A LOAD waiting with no board. -/
def loading (table index : Nat) (contents : List Byte) (b : Blocks) : Prop :=
  (given (loadRecord table index contents) b).offers (loadRecord table index contents) []

/-- Hypotheses of the clauses of `LoadsReplaceEntries`, at the ends of the ranges. -/
theorem witness_LoadsReplaceEntries : (noBoard base).board.phase = .none ∧ (noBoard base).shaft.machine.turning = false
    ∧ (noBoard base).chain.work = false ∧ loading 0 9 (be16 1438 ++ be16 1439) (noBoard base)
    ∧ loading 0 10 (be16 1439 ++ be16 65535) (noBoard base)
    ∧ loading 1 0 [byteOf 240, byteOf 15, byteOf 14] (noBoard base)
    ∧ loading 5 15 (1#8 :: (be16 60000 ++ be16 60000)) (noBoard base)
    ∧ loading 6 0 (be16 1 ++ be16 65535 ++ be16 65535 ++ be16 0 ++ be16 0 ++ be16 65535 ++ beSigned32 (-2147483648)
        ++ beSigned32 2147483647 ++ beSigned32 (-1) ++ beSigned32 (-1) ++ [byteOf 255, byteOf 1]) (noBoard base)
    ∧ loading 7 15 [0#8, byteOf (Direction.index .cutOnly), byteOf 3] base ∧ loading 7 15 [1#8, 9#8, 9#8] base
    ∧ ({ base.positioner with lock := some 4 } : Positioner).lock ≠ none
    ∧ loading 9 3 ([byteOf (CountEvent.code .frontier), byteOf 255, byteOf 255, byteOf 255, 1#8] ++ be32 4294967295) base := by
  unfold loading State.offers
  decide +kernel

/-- Hypotheses of the clauses of `BandsAndLimitsLoad`: the last band with the largest count, taken and refused; an unload;
a count of 0; limits of 64 and 65 with a choice of 2, with and without a board. -/
theorem witness_BandsAndLimitsLoad : loading 4 127 (0#8 :: be16 65535) (noBoard base)
    ∧ loading 4 127 (0#8 :: be16 65535) base ∧ (noBoard base).board.phase = .none ∧ base.board.phase ≠ .none
    ∧ loading 4 127 (1#8 :: be16 65535) (noBoard base) ∧ loading 4 0 [0#8, 0#8, 0#8] base
    ∧ loading 10 0 [byteOf 255, byteOf 64, byteOf 255, byteOf 2] base
    ∧ loading 10 0 [byteOf 255, byteOf 64, byteOf 255, byteOf 2] (noBoard base)
    ∧ loading 10 0 [byteOf 0, byteOf 65, byteOf 0, byteOf 0] base
    ∧ loading 10 0 [byteOf 0, byteOf 64, byteOf 0, byteOf 3] base := by
  unfold loading State.offers
  decide +kernel

/-- A kind with every field at an end of its range. -/
def widestKind : Kind := ⟨.none, 3, 127, 32, 31, 31, some (0, 31), 300, 15, .mark, [95, 0, 94, 1], .spread, some 3, 63⟩

/-- Hypotheses of the clauses of `KindLoads`. -/
theorem witness_KindLoads : widestKind.fits ∧ (noBoard base).board.phase = .none
    ∧ loading 2 255 ([byteOf widestKind.mode.code, byteOf widestKind.range, byteOf widestKind.bandStart,
          byteOf widestKind.bandCount, byteOf widestKind.expectedLo, byteOf widestKind.expectedHi]
        ++ (match widestKind.alternate with | some a => [1#8, byteOf a.1, byteOf a.2] | none => [0#8, 0#8, 0#8])
        ++ be16 widestKind.span
        ++ [byteOf widestKind.profile, byteOf widestKind.policy.code, byteOf widestKind.sources.length]
        ++ (List.range 4).map (fun i => byteOf (widestKind.sources[i]?.getD 0))
        ++ [if widestKind.selection = .fill then 0#8 else 1#8, byteOf (widestKind.pin.getD 255),
          byteOf widestKind.statistics]) (noBoard base)
    ∧ (List.replicate 20 255#8).length = 20 ∧ loading 2 255 (0x80#8 :: List.replicate 20 255#8) (noBoard base) := by
  refine ⟨?_, by decide +kernel, by unfold loading State.offers; decide +kernel, by decide,
    by unfold loading State.offers; decide +kernel⟩
  unfold Kind.fits
  refine ⟨by decide, by decide, by decide, by decide, by decide, by decide, ?_, by decide, by decide, by decide, by decide,
    by decide, by decide, by decide, ?_, by decide⟩
  · intro a h; cases h; decide
  · intro i h; cases h; decide

def dispenserContents (installed : Bool) (offset capacity threshold : Nat) (enabled : Bool) : List Byte :=
  [if installed then 1#8 else 0#8, byteOf offset] ++ be16 capacity ++ be16 threshold ++ [if enabled then 1#8 else 0#8]

/-- Hypotheses of the clauses of `DispenserLoads`: a change refused while a board stands; a threshold one below the
capacity, and one equal to it. -/
theorem witness_DispenserLoads : loading 3 21 (dispenserContents false 10 100 20 true) base ∧ base.board.phase ≠ .none
    ∧ (look base.source.dispensers 21).installed ≠ false
    ∧ loading 3 95 (dispenserContents true 238 65535 65534 false) (noBoard base)
    ∧ loading 3 95 (dispenserContents true 3 1 1 false) (noBoard base)
    ∧ (noBoard base).board.phase = .none ∧ (noBoard base).board.nothingToPlan := by
  unfold loading State.offers Board.nothingToPlan
  decide +kernel

/-- Hypotheses of the clauses of `ClassLoads`: codes 1, 32, 2, 17, 27, and 18 and 31 with the machine STOPPED. -/
theorem witness_ClassLoads : loading 8 1 [byteOf 3] base ∧ loading 8 32 [byteOf 3] base ∧ loading 8 2 [byteOf 4] base
    ∧ loading 8 31 [byteOf (AlarmClass.code .stopNow)] base ∧ (look base.alarm.codes 31).state = .idle
    ∧ loading 8 2 [byteOf (AlarmClass.code .note)] (latched 2 base)
    ∧ loading 8 17 [byteOf (AlarmClass.code .stopNow)] (latched 17 (cyclingAt 600 base))
    ∧ loading 8 27 [byteOf (AlarmClass.code .stopNow)] (latched 27 (cyclingAt 600 base))
    ∧ (∀ code ∈ [18, 31], loading 8 code [byteOf (AlarmClass.code .holdFeed)] (latched code base))
    ∧ base.shaft.machine = .stopped ∧ base.board.nothingToPlan ∧ base.counters.quiet := by
  unfold loading State.offers Board.nothingToPlan Counters.quiet
  decide +kernel

/-- Hypotheses of the clauses of `ReadsReply`, at the first and last indexes and one beyond. -/
theorem witness_ReadsReply : ∀ p ∈ [(0, 10), (10, 0), (15, 0), (17, 0), (18, 0), (255, 255), (0, 11), (1, 0), (1, 1), (2, 0),
      (2, 255), (3, 95), (3, 96), (4, 127), (4, 128), (5, 15), (5, 16), (6, 0), (6, 1), (7, 15), (7, 16), (8, 31), (8, 32),
      (9, 3), (9, 4), (10, 1), (11, 95), (11, 96), (12, 0), (12, 255), (13, 63), (13, 64), (14, 0), (14, 1), (15, 1), (16, 64),
      (17, 255)],
    (given ⟨0x11#8, [byteOf p.1, byteOf p.2]⟩ base).offers ⟨0x11#8, [byteOf p.1, byteOf p.2]⟩ [] := by
  unfold State.offers
  decide +kernel

/-- No board, and every check of Table 2-2 passed for the images of the mask 1. -/
def ready : Blocks := noBoard base

def withCam (i : Nat) (e : CamEntry) (b : Blocks) : Blocks :=
  { b with shaft := { b.shaft with cam := put b.shaft.cam i e } }

/-- The park angle unloaded, and DECISION ending at park. -/
def parkUnloaded : Blocks := withCam 10 ⟨false, 1400, 0⟩ ready

def decisionAtPark : Blocks := withCam 9 ⟨true, 1300, 1400⟩ ready

/-- A CONTROL record waiting. -/
def asked (subcommand : Nat) (argument : Byte) (b : Blocks) : Prop :=
  (given (controlRecord subcommand argument) b).offers (controlRecord subcommand argument) []

/-- Hypotheses of the clauses of `CountersClear`: both records, and READs of blocks 63 and 64. -/
theorem witness_CountersClear : asked 6 0#8 base ∧ asked 5 255#8 base
    ∧ (∀ n ∈ [63, 64], (given ⟨0x11#8, [16#8, byteOf n]⟩ base).offers ⟨0x11#8, [16#8, byteOf n]⟩ [])
    ∧ (∃ t, exec (.powerOnReset {} {}) (stateOf base) = .next t) ∧ ∃ t, exec .linkReset (stateOf base) = .next t := by
  refine ⟨?_, ?_, ?_, ⟨_, rfl⟩, ⟨_, rfl⟩⟩
  · unfold asked State.offers; decide +kernel
  · unfold asked State.offers; decide +kernel
  · unfold State.offers; decide +kernel

def unregistered : Blocks := { base with shaft := { base.shaft with registered := false } }

/-- Hypotheses of the clauses of `RunStarts`: STOPPED and REGISTERED or not, with work and without; under a demand of
STOP-AT-PARK; CYCLING; and with no board; for the key, with nothing in the buffer. -/
theorem witness_RunStarts :
    (∀ b ∈ [base, unregistered, slotted 0 (.reserved 0 21) base, latched 13 base, cyclingAt 600 base, noBoard base],
        (given (controlRecord 0 0#8) b).offers (controlRecord 0 0#8) [] ∧ (stateOf b).blocks = b)
      ∧ base.shaft.machine = .stopped ∧ base.board.phase ≠ .none ∧ base.alarm.demand < 3 ∧ base.chain.work = false
      ∧ (slotted 0 (.reserved 0 21) base).chain.work = true ∧ 3 ≤ (latched 13 base).alarm.demand
      ∧ (cyclingAt 600 base).shaft.machine ≠ .stopped ∧ (cyclingAt 600 base).shaft.machine ≠ .halted
      ∧ (noBoard base).board.phase = .none := by
  unfold State.offers
  decide +kernel

/-- Hypotheses of `StopStops`: HOMING with no live revolution, and CYCLING; for the key, with nothing in the buffer. -/
theorem witness_StopStops : asked 1 0#8 (inState .homing unregistered)
    ∧ (stateOf (inState .homing unregistered)).blocks.shaft.live = false
    ∧ asked 1 0#8 (cyclingAt 600 base) ∧ (stateOf (cyclingAt 600 base)).blocks.shaft.machine ≠ .homing := by
  unfold asked State.offers
  decide +kernel

def haltedAt (angle : Nat) : Blocks :=
  { inState .halted base with shaft := { (inState .halted base).shaft with angle := angle } }

/-- Hypotheses of the clauses of `ResumeRecovers`: HALTED just beyond the park band and at its end, the choices 2 and 3 with the
purge flag; STOPPED; HALTED under a demand of STOP-AT-PARK; and HALTED with no board and the park angle unloaded. -/
theorem witness_ResumeRecovers :
    (∀ choice ∈ [2, 3], asked 2 (byteOf (choice + if true then 128 else 0)) (haltedAt 1421)
        ∧ asked 2 (byteOf (choice + if false then 128 else 0)) (haltedAt 1420))
      ∧ (∀ c ∈ (haltedAt 1420).board.window, c.state ≠ .uncertain) ∧ (haltedAt 1420).positioner.lock = none
      ∧ (haltedAt 1420).shaft.machine = .halted ∧ (haltedAt 1420).alarm.demand < 3 ∧ (haltedAt 1420).board.phase ≠ .none
      ∧ (haltedAt 1421).shaft.atPark = false ∧ (haltedAt 1420).shaft.atPark = true
      ∧ (haltedAt 1420).board.nothingToPlan ∧ (haltedAt 1420).chain.work = false
      ∧ asked 2 (byteOf 0) base ∧ base.shaft.machine ≠ .halted
      ∧ asked 2 (byteOf 0) (latched 13 (haltedAt 700)) ∧ 3 ≤ (latched 13 (haltedAt 700)).alarm.demand
      ∧ (let b := noBoard (withCam 10 ⟨false, 1400, 0⟩ (haltedAt 700))
        asked 2 (byteOf 0) b ∧ b.board.phase = .none ∧ b.alarm.demand < 3 ∧ b.shaft.machine = .halted
          ∧ b.shaft.atPark = false ∧ b.positioner.lock = none ∧ b.board.window = []) := by
  unfold asked State.offers Board.nothingToPlan
  decide +kernel

/-- Hypotheses of the clauses of `PurgeMarksTheChain`: STOPPED with a component on the chain, WAITING with none, with a board and
without; CYCLING; under a demand of STOP-AT-PARK; and with no board and the park angle unloaded. -/
theorem witness_PurgeMarksTheChain :
    let b := slotted 3 (.occupied orphan) base
    (∀ x ∈ [b, noBoard b, inState .waiting base, cyclingAt 600 base, latched 13 b, parkUnloaded], asked 3 0#8 x)
      ∧ b.board.phase ≠ .none ∧ (noBoard b).shaft.camPasses ∧ b.board.nothingToPlan ∧ b.shaft.machine = .stopped
      ∧ b.alarm.demand < 3 ∧ b.chain.occupiedCount ≠ 0
      ∧ (inState .waiting base).shaft.machine = .waiting ∧ (inState .waiting base).chain.occupiedCount = 0
      ∧ (cyclingAt 600 base).shaft.machine ≠ .stopped ∧ (cyclingAt 600 base).shaft.machine ≠ .waiting
      ∧ 3 ≤ (latched 13 b).alarm.demand ∧ parkUnloaded.board.phase = .none ∧ parkUnloaded.alarm.demand < 3
      ∧ parkUnloaded.shaft.machine = .stopped := by
  unfold asked State.offers Board.nothingToPlan Shaft.camPasses Shaft.camHolds
  decide +kernel

/-- Hypotheses of the clauses of `AbortResolvesSteps`. -/
theorem witness_AbortResolvesSteps :
    let b := windowOf (stepIn .uncertain) (inState .halted base)
    asked 4 0#8 (noBoard base) ∧ (noBoard base).board.phase = .none ∧ asked 4 0#8 b ∧ b.board.phase ≠ .none ∧ b.board.sound
      ∧ ∀ c ∈ b.board.window, c.state = .queued ∨ c.state = .inserting ∨ c.state = .uncertain ∨ c.state = .resolved := by
  unfold asked State.offers Board.sound
  decide +kernel

/-- HALTED beyond the park band with step 0 UNCERTAIN, `n` make-ups behind it, and the table locked. -/
def doubtful (n : Nat) (b : Blocks) : Blocks :=
  windowOf { stepIn .uncertain with makeUps := n } { b with
    shaft := (haltedAt 700).shaft
    head := { b.head with upAwaited := true }
    positioner := { b.positioner with lock := some 0 } }

/-- Hypotheses of `ResumeRecovers` about a lock and an UNCERTAIN step: each choice, by record and by key; the step's image good
and bad; at the make-up limit of 3 and one below it; code 18 of class STOP-AT-PARK and of class NOTE. -/
theorem witness_ResumeRecovers_uncertain :
    (∀ n ∈ [2, 3], ∀ choice ∈ [0, 1, 2, 128, 129, 130], asked 2 (byteOf choice) (doubtful n base))
      ∧ (∀ n ∈ [2, 3], let b := doubtful n base
        (b.shaft.machine = .halted ∧ b.alarm.demand < 3 ∧ b.board.phase ≠ .none ∧ b.shaft.atPark = false
            ∧ b.positioner.lock = some 0 ∧ b.board.context? 0 = some { stepIn .uncertain with makeUps := n })
          ∧ (∀ e ∈ b.board.window, e.state = .uncertain → e = { stepIn .uncertain with makeUps := n })
          ∧ b.board.sound ∧ b.board.nothingToPlan ∧ b.counters.quiet ∧ b.planner.makeUpLimit = 3
          ∧ b.board.goodMask.getLsbD 0 = true)
      ∧ (0#16).getLsbD 0 = false ∧ (∀ e ∈ (haltedAt 700).board.window, e.state ≠ .uncertain)
      ∧ (look base.alarm.codes 18).cls = .stopAtPark ∧ base.shaft.resumeChoice = .reinsert
      ∧ base.source.kind? 3 = some resistor ∧ resistor.statistics < 64 := by
  unfold asked State.offers Board.nothingToPlan Board.sound Counters.quiet
  decide +kernel

/-- Five steps in the five states that a slot names, at pitches 11, 12, 6, 3 and 2. -/
def onTheChain : Blocks :=
  let c := fun (n : Nat) (st : StepState) => { stepIn st with number := n }
  let o := fun (n : Nat) (reason : Option Reason) (d : Disposition) =>
    Slot.occupied { offered with step := some n, reason := reason, disposition := d }
  slotted 11 (.reserved 0 21) (slotted 12 (o 1 none .insert) (slotted 6 (o 2 (some .purge) .divert)
    (slotted 3 (o 3 (some .verify) .divert) (slotted 2 (o 4 (some .gateFail) .strip) { base with board := { base.board with
      window := [c 0 .planned, c 1 .fired, c 2 .verified, c 3 .diverting, c 4 .stripping], expectedStep := 5 } }))))

/-- Hypotheses of `AbortResolvesSteps` about steps that slots name, at offset 2 below the gate, 3 at it, and beyond. -/
theorem witness_AbortResolvesSteps_onTheChain :
    asked 4 0#8 onTheChain ∧ onTheChain.board.phase ≠ .none ∧ onTheChain.board.sound
      ∧ (∀ p ∈ [(11, 0), (12, 1), (6, 2), (3, 3), (2, 4)], (onTheChain.chain.slotOf p.1).step? = some p.2
        ∧ ∀ q, q < onTheChain.chain.slots.length → (onTheChain.chain.slotOf q).step? = some p.2 → q = p.1)
      ∧ onTheChain.chain.slotOf 11 = .reserved 0 21 ∧ onTheChain.chain.gateOffset = 3
      ∧ onTheChain.chain.offsetOf 2 = 2 ∧ onTheChain.chain.offsetOf 3 = 3 := by
  unfold asked State.offers Board.sound
  decide +kernel

/-- The steps that slots name, at a purge start: steps 1 to 3 stand at offset G and above, step 4 below. -/
def purgeable : Blocks :=
  { onTheChain with
    board := { onTheChain.board with window := onTheChain.board.window.filter fun c => decide (c.state ≠ .planned) }
    chain := { onTheChain.chain with slots := onTheChain.chain.slots.set 11 .empty } }

/-- Hypotheses of `PurgeMarksTheChain` about steps that slots name, and one that no slot names. -/
theorem witness_PurgeMarksTheChain_onTheChain :
    asked 3 0#8 purgeable ∧ purgeable.board.phase ≠ .none ∧ purgeable.board.nothingToPlan
      ∧ purgeable.shaft.machine = .stopped ∧ purgeable.alarm.demand < 3 ∧ purgeable.chain.occupiedCount ≠ 0
      ∧ (∀ p ∈ [(12, 1), (6, 2), (3, 3), (2, 4)], (purgeable.chain.slotOf p.1).step? = some p.2
        ∧ (purgeable.board.context? p.2).isSome = true
        ∧ ∀ q, q < purgeable.chain.slots.length → (purgeable.chain.slotOf q).step? = some p.2 → q = p.1)
      ∧ purgeable.chain.gateOffset = 3 ∧ purgeable.chain.offsetOf 2 = 2 ∧ purgeable.chain.offsetOf 3 = 3
      ∧ ∀ slot ∈ purgeable.chain.slots, slot.step? ≠ some 0 := by
  unfold asked State.offers Board.nothingToPlan
  decide +kernel

def placed (b : Blocks) (d : Nat) : Prop := (look b.source.dispensers d).installed = true →
  b.chain.verifyOffset + 1 ≤ (look b.source.dispensers d).offset ∧ (look b.source.dispensers d).offset + 2 ≤ b.chain.length

def sourced (b : Blocks) (id : Nat) : Prop := ∀ k ∈ b.source.kind? id,
  (∀ d ∈ k.sources, (look b.source.dispensers d).installed = true) ∧ ∀ i ∈ k.pin, i < k.sources.length

def banded (b : Blocks) (id : Nat) : Prop :=
  ∀ k ∈ b.source.kind? id, k.bandStart + k.bandCount ≤ 128 ∧ b.verifier.bandsPass k

def imaged (b : Blocks) (mask i : Nat) : Prop := mask.testBit i = true → (look b.positioner.images i).installed = true

/-- Hypotheses of `BoardsOpenAndClose` about the checks: all pass, stations at the offsets V+1 and L−2 included; and each fails
at the last entry it has, the earlier ones passing: park unloaded, DECISION ending at park, no geometry, stations at V and
L−1, a source that is not installed, a pin beyond the list, a band set past the table, an unloaded band and bands that do not
ascend, and image 15. -/
theorem witness_BoardsOpenAndClose_checks :
    let ends := withReel 94 { reel with offset := 7 } (withReel 95 { reel with offset := 62 } ready)
    (ends.shaft.camPasses ∧ ends.chain.loaded = true ∧ (∀ d, d < 96 → placed ends d) ∧ (∀ id, id < 256 → sourced ends id)
        ∧ (∀ id, id < 256 → banded ends id) ∧ (∀ i, i < 16 → imaged ends 1 i) ∧ ends.positioner.config.loaded = true)
      ∧ ready.shaft.camPasses ∧ ({ ready.chain with loaded := false } : Chain).loaded = false
      ∧ (∀ x ∈ [6, 63], let b := withReel 95 { reel with offset := x } ready
         ¬ placed b 95 ∧ ∀ d, d < 95 → placed b d)
      ∧ (∀ k ∈ [{ resistor with sources := [21, 95] }, { resistor with pin := some 1 }],
         let b := withKind 255 k ready
         ¬ sourced b 255 ∧ (∀ id, id < 255 → sourced b id) ∧ ∀ d, d < 96 → placed b d)
      ∧ (∀ p ∈ [(126, 3), (4, 1), (0, 4)],
         let b := withKind 255 { resistor with bandStart := p.1, bandCount := p.2 } { ready with
           verifier := { ready.verifier with bands := put ready.verifier.bands 3 (some 300) } }
         ¬ banded b 255)
      ∧ (∀ id, id < 255 → banded (withKind 255 resistor ready) id)
      ∧ ¬ imaged ready 32769 15 ∧ (∀ i, i < 15 → imaged ready 32769 i)
      ∧ ({ ready.positioner.config with loaded := false } : TableConfig).loaded = false := by
  unfold Shaft.camPasses Shaft.camHolds placed sourced banded imaged Verifier.bandsPass
  refine ⟨⟨?_, ?_, ?_, ?_, ?_, ?_, ?_⟩, ?_, ?_, ?_, ?_, ?_, ?_, ?_, ?_, ?_⟩ <;> decide +kernel

/-- `Shaft.camFails` at the last unloaded entry and at the last condition of Table 1-3. -/
theorem witness_camFails : parkUnloaded.shaft.camFails 10 ∧ decisionAtPark.shaft.camFails 10 := by
  unfold Shaft.camFails Shaft.camHolds
  exact ⟨.inl ⟨10, by decide +kernel⟩, .inr ⟨by decide +kernel, 13, by decide +kernel⟩⟩

/-- Hypotheses of `LoadsReplaceEntries` about an uninstalled image, a counter with invert and edge set and one disabled, and a
profile under a FREE lock: none handed over, and profile 15 handed over and presented by the outputs or not. -/
theorem witness_LoadsReplaceEntries_forms :
    let handed := fun (output : Option ProfileOutput) => { base with head := { base.head with handed := some 15, output := output } }
    loading 5 15 (0#8 :: (be16 60000 ++ be16 0)) (noBoard base)
      ∧ (∀ flags ∈ [0, 7], loading 9 0 ([byteOf (CountEvent.code .none), 0#8, 255#8, 0#8, byteOf flags] ++ be32 0) base)
      ∧ (∀ out ∈ [none, some ⟨15, ⟨.cutOnly, 3⟩⟩], loading 7 15 [0#8, byteOf (Direction.index .cutOnly), byteOf 3] (handed out)
        ∧ loading 7 15 [1#8, 9#8, 9#8] (handed out) ∧ (handed out).positioner.lock = none)
      ∧ base.head.handed = none ∧ base.positioner.lock = none := by
  unfold loading State.offers
  decide +kernel

/-- A counter of an event without a threshold or invert, that matches every kind and code. -/
def counting (event : CountEvent) (edge : Bool) (limit value : Nat) : EventCounter :=
  ⟨event, 255, 7, 0, false, edge, limit, true, value, false, true, false⟩

def withCounters (f : Nat → EventCounter) (b : Blocks) : Blocks :=
  { b with counters := { b.counters with
      events := put (put (put (put b.counters.events 0 (f 0)) 1 (f 1)) 2 (f 2)) 3 (f 3) } }

/-- INDEX about to close in an advance whose index was seen, with a simple event and the three sampled ones enabled. -/
def sampling (edge : Bool) : Blocks :=
  let b := withCounters (fun n => counting (if n = 0 then .advance else if n = 1 then .chainOccupancy
    else if n = 2 then .queueDepth else .frontier) edge 1 0) (nearing 199 true 0 base)
  { b with chain := { b.chain with indexSeen := true } }

/-- Hypotheses of `CountersClear` about enabled counters, at the limit and below it: a STRIP of an orphan, a gap that is a FEED
ERROR, and INDEX close of an advance whose index was seen, of simple events and of the three that are sampled. -/
theorem witness_CountersClear_counting :
    (∀ edge, ∀ value ∈ [8, 4294967295],
      let b := withCounters (fun n => counting (if n < 3 then .strip else .alarmOccurrence) edge 9 value)
        (slotted 0 (.occupied orphan) { base with chain := { base.chain with stripPending := some 0 } })
      b.chain.stripPending = some 0 ∧ b.chain.slotOf 0 = .occupied orphan ∧ orphan.nameless ∧ b.planner.freeze = false
        ∧ (∀ n, n < 4 → (look b.alarm.codes (28 + n)).cls = .note) ∧ (look b.counters.events 0).event = .strip
        ∧ (look b.counters.events 0).enable = true)
      ∧ (∀ edge, let s : State := { stateOf { base with counters := { base.counters with
            events := put base.counters.events 3 (counting .alarmOccurrence edge 1 0) } } with
          link := { State.reset.link with receiver := ⟨.payload, 0x14#8, 3, [1#8], none, false, 2⟩ } }
        s.link.receiver.phase ≠ .hunt ∧ (∀ n, n < 4 → (look s.blocks.alarm.codes (28 + n)).cls = .note)
          ∧ (look s.blocks.alarm.codes 27).cls = .note
          ∧ (∀ m, m < 4 → m ≠ 3 → (look s.blocks.counters.events m).enable = false)
          ∧ (look s.blocks.counters.events 3).event = .alarmOccurrence)
      ∧ (∀ edge, (sampling edge).meets .index false)
      ∧ (∀ edge, let x := sampling edge
        x.shaft.advance = true ∧ x.chain.indexSeen = true ∧ x.chain.stripPending = none
          ∧ x.board.nothingToPlan ∧ (∀ n, n < 4 → (look x.alarm.codes (28 + n)).cls = .note)
          ∧ (look x.counters.events 0).event = .advance ∧ (look x.counters.events 0).enable = true
          ∧ (∀ j, j < x.chain.length → x.chain.slotAt j = .empty)) := by
  unfold Component.nameless Board.nothingToPlan
  refine ⟨by decide +kernel, by decide +kernel, fun edge => meets_of_test ?_, by decide +kernel⟩
  cases edge <;> decide +kernel

/-- Hypotheses of `LinkResetResets`: a full queue, and a record and a RESET of a wrong length older than the RESET; a free place
with none older; and a free place with a STEP older that a full window holds back. -/
theorem witness_LinkResetResets :
    let waits := fun (older : List Record) (queued window : Nat) => ({ stateOf { cyclingAt 600 base with
        board := { base.board with window := List.replicate window (stepIn .resolved) } } with
      link := { State.reset.link with
        input := older ++ controlRecord 7 0#8 :: [⟨0x14#8, []⟩], upstream := List.replicate queued ⟨0x86#8, []⟩ } } : State)
    let bad : Record := ⟨0x12#8, [7]⟩
    (waits [stepRecord, bad] 64 0).link.input = [stepRecord, bad] ++ controlRecord 7 0#8 :: [⟨0x14#8, []⟩]
      ∧ 64 ≤ (waits [stepRecord, bad] 64 0).link.upstream.length
      ∧ (waits [] 63 0).link.input = [] ++ controlRecord 7 0#8 :: [⟨0x14#8, []⟩]
      ∧ (waits [stepRecord] 0 256).link.input = [stepRecord] ++ controlRecord 7 0#8 :: [⟨0x14#8, []⟩]
      ∧ 256 ≤ (waits [stepRecord] 0 256).blocks.board.window.length ∧ (∀ r ∈ [stepRecord], r.type = 0x02#8)
      ∧ ∀ r ∈ [stepRecord, bad], ∀ x, r ≠ controlRecord 7 x := by
  refine ⟨rfl, by decide +kernel, rfl, rfl, by decide +kernel, by decide, ?_⟩
  intro r hr x h
  rw [List.mem_cons, List.mem_singleton] at hr
  rcases hr with rfl | rfl
  · exact absurd (show (0x02#8 : Byte) = 0x12#8 from congrArg Record.type h) (by decide)
  · exact absurd (show (1 : Nat) = 2 from congrArg (fun r => r.payload.length) h) (by decide)

end Sys2Proof.Tests
end

section
/-! # What the blocks' own rules keep: positions, loaded fields, soundness, demand -/

/-! ## Tables under a map -/

namespace Sys2Proof

set_option Elab.async false

/-- An entry changed in nothing that `g` reads leaves the table as `g` reads it. -/
theorem map_adjust {α β : Type} [Inhabited α] {n : Nat} (g : α → β) (t : Vector α n) (i : Nat) (f : α → α)
    (h : ∀ x, g (f x) = g x) : (adjust t i f).map g = t.map g := by
  by_cases hi : i < n
  · ext j hj
    by_cases e : i = j
    · subst e; simp [adjust, put, look, hi, h]
    · simp [adjust, put, e]
  · rw [adjust, put_of_le t _ (Nat.le_of_not_lt hi)]

/-- A table whose entries are all changed in nothing that `g` reads stays as `g` reads it. -/
theorem map_map_of_keeps {α β : Type} {n : Nat} (g : α → β) (t : Vector α n) (f : α → α) (h : ∀ x, g (f x) = g x) :
    (t.map f).map g = t.map g := by
  ext j hj; simp [h]

end Sys2Proof

namespace Sys2Proof.Machine

set_option Elab.async false

/-! ## The stop demand (R144) -/

theorem le_foldl_max (f : Nat → Nat) (l : List Nat) (m n : Nat) :
    l.foldl (fun m x => max m (f x)) m ≤ n ↔ m ≤ n ∧ ∀ x ∈ l, f x ≤ n := by
  induction l generalizing m with
  | nil => simp
  | cons x l ih => simp [ih, and_assoc]

/-- The demand is the highest level that a code adds. -/
theorem Alarm.demand_le_iff (a : Alarm) (n : Nat) : a.demand ≤ n ↔ ∀ code, code < 32 → a.levelOf code ≤ n := by
  simp [Alarm.demand, le_foldl_max]

theorem Alarm.levelOf_le_demand (a : Alarm) {code : Nat} (h : code < 32) : a.levelOf code ≤ a.demand :=
  (a.demand_le_iff _).mp le_rfl code h

theorem Alarm.demand_le_four (a : Alarm) : a.demand ≤ 4 := by
  refine (a.demand_le_iff 4).mpr fun code _ => ?_
  unfold Alarm.levelOf
  split
  · cases (look a.codes code).cls <;> decide
  · omega

/-- A table in which no code adds less than before has no lower demand. -/
theorem Alarm.demand_mono {a c : Alarm} (h : ∀ code, code < 32 → a.levelOf code ≤ c.levelOf code) :
    a.demand ≤ c.demand :=
  (a.demand_le_iff _).mpr fun code hc => (h code hc).trans (c.levelOf_le_demand hc)

/-- A code adds no less once its class is the same and it stands if it stood. -/
theorem Alarm.levelOf_mono {a c : Alarm} {code : Nat} (hc : (look c.codes code).cls = (look a.codes code).cls)
    (hs : (look a.codes code).state ≠ .idle → (look c.codes code).state ≠ .idle) : a.levelOf code ≤ c.levelOf code := by
  unfold Alarm.levelOf AlarmEntry.standing
  by_cases h : (look a.codes code).state = .idle
  · simp [h]
  · simp [h, hs h, hc]

/-- A change of code `code` alone, which keeps its class and leaves it standing, lowers no demand. -/
theorem Alarm.demand_le_of_look {a c : Alarm} {code : Nat} (hcls : (look c.codes code).cls = (look a.codes code).cls)
    (hs : (look a.codes code).state ≠ .idle → (look c.codes code).state ≠ .idle)
    (ho : ∀ other, code ≠ other → look c.codes other = look a.codes other) : a.demand ≤ c.demand := by
  refine Alarm.demand_mono fun other _ => ?_
  by_cases h : code = other
  · subst h; exact Alarm.levelOf_mono hcls hs
  · simp [Alarm.levelOf, ho other h]

/-- A table of 32 codes knows no code above 31. -/
theorem Alarm.occur_of_le {a : Alarm} {code : Nat} (h : 32 ≤ code) (context : AlarmContext) :
    (a.occur code context).codes = a.codes := by
  unfold Alarm.occur Alarm.makeNotice
  simp only [adjust, put_of_le _ _ h]
  (repeat' split) <;> rfl

/-- R138: an occurrence lowers no demand. -/
theorem Alarm.demand_le_occur (a : Alarm) (code : Nat) (context : AlarmContext) :
    a.demand ≤ (a.occur code context).demand := by
  by_cases h : code < 32
  · refine Alarm.demand_le_of_look (code := code) ?_ ?_ fun other ho => Alarm.occur_other ho context
    · rw [Alarm.occur_look h]; split <;> rfl
    · intro hs; rw [Alarm.occur_look h]; simp [hs]
  · simp [Alarm.demand, Alarm.levelOf, Alarm.occur_of_le (Nat.le_of_not_lt h)]

/-- R139: an appearance lowers no demand. -/
theorem Alarm.demand_le_appear {a : Alarm} {code : Nat} (h : code < 32) : a.demand ≤ (a.appear code).demand := by
  refine Alarm.demand_le_of_look (code := code) ?_ ?_ fun other ho => ?_
  · simp [Alarm.appear_look h, AlarmEntry.appeared]
  · simp [Alarm.appear_look h, AlarmEntry.appeared]
  · rw [Alarm.appear, Alarm.makeNotice_other ho]; exact look_adjust_of_ne _ _ ho

/-- R146: a notice leaves every class and every state. -/
theorem Alarm.makeNotice_classes (a : Alarm) (code : Nat) :
    (a.makeNotice code).codes.map AlarmEntry.cls = a.codes.map AlarmEntry.cls := by
  unfold Alarm.makeNotice
  split
  · rfl
  · exact map_adjust _ _ _ _ fun _ => rfl

/-- R137, R138: an occurrence leaves every class. -/
theorem Alarm.occur_classes (a : Alarm) (code : Nat) (context : AlarmContext) :
    (a.occur code context).codes.map AlarmEntry.cls = a.codes.map AlarmEntry.cls := by
  unfold Alarm.occur
  split
  · rw [Alarm.makeNotice_classes]; exact map_adjust _ _ _ _ fun _ => rfl
  · exact map_adjust _ _ _ _ fun _ => rfl

/-- R137, R139: an appearance leaves every class. -/
theorem Alarm.appear_classes (a : Alarm) (code : Nat) :
    (a.appear code).codes.map AlarmEntry.cls = a.codes.map AlarmEntry.cls := by
  rw [Alarm.appear, Alarm.makeNotice_classes]; exact map_adjust _ _ _ _ fun _ => rfl

/-- R137, R139: a clearing leaves every class. -/
theorem Alarm.clear_classes (a : Alarm) (code : Nat) :
    (a.clear code).codes.map AlarmEntry.cls = a.codes.map AlarmEntry.cls := by
  unfold Alarm.clear
  split
  · rw [Alarm.makeNotice_classes]; exact map_adjust _ _ _ _ fun _ => rfl
  · rfl

/-- R137, R140: an acknowledgement leaves every class. -/
theorem Alarm.acknowledge_classes (a : Alarm) (code : Nat) :
    (a.acknowledge code).codes.map AlarmEntry.cls = a.codes.map AlarmEntry.cls := by
  unfold Alarm.acknowledge
  split
  · rfl
  · rw [Alarm.makeNotice_classes]; exact map_adjust _ _ _ _ fun _ => rfl
  · exact map_adjust _ _ _ _ fun _ => rfl

/-! ## What the blocks' own rules leave alone -/

/-- The fields of a dispenser entry that its LOAD gives (Table 3-3). -/
def Dispenser.loadedFields (e : Dispenser) : Bool × Bool × Nat × Nat × Nat × Bool :=
  (e.loaded, e.installed, e.offset, e.capacity, e.threshold, e.enabled)

/-- The fields of an event counter that its LOAD gives (Table 10-2). -/
def EventCounter.configuration (c : EventCounter) :
    CountEvent × Nat × Nat × Nat × Bool × Bool × Nat × Bool :=
  (c.event, c.matchA, c.matchB, c.threshold, c.invert, c.edge, c.limit, c.enable)

/-- What the LOADs of the tables give, block by block. -/
structure Settings where
  cam : Vector CamEntry 11
  resumeChoice : ResumeChoice
  geometry : Bool × Nat × Nat × Nat
  kinds : Vector (Option Kind) 256
  dispensers : Vector (Bool × Bool × Nat × Nat × Nat × Bool) 96
  makeUpLimit : Nat
  bands : Vector (Option Nat) 128
  shortLimit : Nat
  images : Vector Image 16
  config : TableConfig
  profiles : Vector (Option Profile) 16
  dwellLimit : Nat
  classes : Vector AlarmClass 32
  counters : Vector (CountEvent × Nat × Nat × Nat × Bool × Bool × Nat × Bool) 4

def Chain.geometry (c : Chain) : Bool × Nat × Nat × Nat := (c.loaded, c.length, c.verifyOffset, c.gateOffset)

def Source.settings (s : Source) :
    Vector (Option Kind) 256 × Vector (Bool × Bool × Nat × Nat × Nat × Bool) 96 :=
  (s.kinds.map KindEntry.entry, s.dispensers.map Dispenser.loadedFields)

/-- The loaded fields of every block. -/
def Blocks.settings (b : Blocks) : Settings :=
  { cam := b.shaft.cam, resumeChoice := b.shaft.resumeChoice, geometry := b.chain.geometry
    kinds := b.source.settings.1, dispensers := b.source.settings.2, makeUpLimit := b.planner.makeUpLimit
    bands := b.verifier.bands, shortLimit := b.verifier.shortLimit, images := b.positioner.images
    config := b.positioner.config, profiles := b.head.profiles, dwellLimit := b.head.dwellLimit
    classes := b.alarm.codes.map AlarmEntry.cls, counters := b.counters.events.map EventCounter.configuration }

/-- Where the shaft stands (R1). -/
def Shaft.position (s : Shaft) : Nat × Int × Bool := (s.angle, s.distance, s.registered)

/-- R16, R17, R144: a machine in this state heeds a demand of level `d`. -/
def MachineState.heeds (m : MachineState) (d : Nat) : Prop := (m.turning = true → d < 4) ∧ (m = .waiting → d < 3)

/-- What the blocks' own rules keep on the way from `a` to `b`: the shaft's position, every loaded field, the soundness of the
shaft, and the machine's heed of a demand no higher than the one in `a`; the demand itself may have risen, and is acted on at
the end of the event. -/
structure Blocks.Steady (a b : Blocks) : Prop where
  position : b.shaft.position = a.shaft.position
  settings : b.settings = a.settings
  sound : a.shaft.sound → b.shaft.sound
  demand : a.alarm.demand ≤ b.alarm.demand
  heeds : ∀ d, d ≤ a.alarm.demand → a.shaft.machine.heeds d → b.shaft.machine.heeds d

theorem demandHeeded_iff (b : Blocks) : b.demandHeeded ↔ b.shaft.machine.heeds b.alarm.demand := Iff.rfl

theorem MachineState.heeds_of_lt (m : MachineState) {d : Nat} (h : d < 3) : m.heeds d :=
  ⟨fun _ => h.trans (by decide), fun _ => h⟩

theorem MachineState.heeds_mono {m : MachineState} {d e : Nat} (h : m.heeds d) (hd : e ≤ d) : m.heeds e :=
  ⟨fun ht => hd.trans_lt (h.1 ht), fun hw => hd.trans_lt (h.2 hw)⟩

theorem MachineState.halted_heeds (d : Nat) : MachineState.halted.heeds d := by simp [MachineState.heeds, MachineState.turning]

theorem MachineState.stopped_heeds (d : Nat) : MachineState.stopped.heeds d := by
  simp [MachineState.heeds, MachineState.turning]

variable {a b : Blocks}

theorem Blocks.Steady.refl (a : Blocks) : a.Steady a := ⟨rfl, rfl, id, le_rfl, fun _ _ => id⟩

theorem Blocks.Steady.trans {c : Blocks} (h : a.Steady b) (h' : b.Steady c) : a.Steady c :=
  ⟨h'.position.trans h.position, h'.settings.trans h.settings, h'.sound ∘ h.sound, h.demand.trans h'.demand,
    fun d hd => h'.heeds d (hd.trans h.demand) ∘ h.heeds d hd⟩

/-- A change that leaves the shaft, the loaded fields and the demand. -/
theorem Blocks.Steady.of_calm {c : Blocks} (h : a.Steady b) (hs : c.shaft = b.shaft) (hk : c.settings = b.settings)
    (hd : b.alarm.demand ≤ c.alarm.demand) : a.Steady c := by
  refine h.trans ⟨by rw [hs], hk, by rw [hs]; exact id, hd, fun d _ => ?_⟩
  rw [hs]; exact id

/-! ### One block changed -/

theorem onBoard_steady (h : a.Steady b) (f : Board → Board) : a.Steady (b.onBoard f) := h.of_calm rfl rfl le_rfl

theorem emit_steady (h : a.Steady b) (e : Emission) : a.Steady (b.emit e) := h.of_calm rfl rfl le_rfl

theorem onStep_steady (h : a.Steady b) (n : Nat) (f : StepContext → StepContext) : a.Steady (b.onStep n f) :=
  onBoard_steady h _

theorem onSource_steady (h : a.Steady b) (f : Source → Source) (hf : ∀ s, (f s).settings = s.settings := by intro _; rfl) :
    a.Steady (b.onSource f) := by
  refine h.of_calm rfl ?_ le_rfl
  simp [Blocks.settings, hf]

theorem onPlanner_steady (h : a.Steady b) (f : Planner → Planner)
    (hf : ∀ p, (f p).makeUpLimit = p.makeUpLimit := by intro _; rfl) : a.Steady (b.onPlanner f) := by
  refine h.of_calm rfl ?_ le_rfl
  simp [Blocks.settings, hf]

theorem onChain_steady (h : a.Steady b) (f : Chain → Chain) (hf : ∀ c, (f c).geometry = c.geometry := by intro _; rfl) :
    a.Steady (b.onChain f) := by
  refine h.of_calm rfl ?_ le_rfl
  simp [Blocks.settings, hf]

theorem onVerifier_steady (h : a.Steady b) (f : Verifier → Verifier)
    (hb : ∀ v, (f v).bands = v.bands := by intro _; rfl)
    (hl : ∀ v, (f v).shortLimit = v.shortLimit := by intro _; rfl) : a.Steady (b.onVerifier f) := by
  refine h.of_calm rfl ?_ le_rfl
  simp [Blocks.settings, hb, hl]

theorem onPositioner_steady (h : a.Steady b) (f : Positioner → Positioner)
    (hi : ∀ p, (f p).images = p.images := by intro _; rfl)
    (hc : ∀ p, (f p).config = p.config := by intro _; rfl) : a.Steady (b.onPositioner f) := by
  refine h.of_calm rfl ?_ le_rfl
  simp [Blocks.settings, hi, hc]

theorem onHead_steady (h : a.Steady b) (f : Head → Head) (hp : ∀ e, (f e).profiles = e.profiles := by intro _; rfl)
    (hd : ∀ e, (f e).dwellLimit = e.dwellLimit := by intro _; rfl) : a.Steady (b.onHead f) := by
  refine h.of_calm rfl ?_ le_rfl
  simp [Blocks.settings, hp, hd]

theorem onCounters_steady (h : a.Steady b) (f : Counters → Counters)
    (hf : ∀ c, (f c).events.map EventCounter.configuration = c.events.map EventCounter.configuration := by
      intro _; rfl) : a.Steady (b.onCounters f) := by
  refine h.of_calm rfl ?_ le_rfl
  simp [Blocks.settings, hf]

theorem onAlarm_steady (h : a.Steady b) (f : Alarm → Alarm)
    (hc : (f b.alarm).codes.map AlarmEntry.cls = b.alarm.codes.map AlarmEntry.cls)
    (hd : b.alarm.demand ≤ (f b.alarm).demand) : a.Steady (b.onAlarm f) := by
  refine h.of_calm rfl ?_ hd
  simp [Blocks.settings, hc]

theorem setSlot_steady (h : a.Steady b) (p : Nat) (t : Slot) : a.Steady (b.setSlot p t) := onChain_steady h _

theorem onRecord_steady (h : a.Steady b) (f : InsertionRecord → InsertionRecord) : a.Steady (b.onRecord f) :=
  onHead_steady h _

/-- A dispenser's derived state changed (Table 3-4). -/
theorem onDispenser_steady (h : a.Steady b) (d : Nat) (f : Dispenser → Dispenser)
    (hf : ∀ e, (f e).loadedFields = e.loadedFields := by intro _; rfl) : a.Steady (b.onDispenser d f) :=
  onSource_steady h _ fun s => by simp [Source.settings, map_adjust _ _ _ _ hf]

/-- The derived state of every kind entry changed (Table 3-2). -/
theorem mapKinds_steady (h : a.Steady b) (g : Source → KindEntry → KindEntry)
    (hg : ∀ s k, (g s k).entry = k.entry) : a.Steady (b.onSource fun s => { s with kinds := s.kinds.map (g s) }) :=
  onSource_steady h _ fun s => by simp [Source.settings, map_map_of_keeps _ _ _ (hg s)]

/-- The derived state of one kind entry changed (Table 3-2). -/
theorem adjustKind_steady (h : a.Steady b) (k : Nat) (f : KindEntry → KindEntry)
    (hf : ∀ e, (f e).entry = e.entry := by intro _; rfl) :
    a.Steady (b.onSource fun s => { s with kinds := adjust s.kinds k f }) :=
  onSource_steady h _ fun s => by simp [Source.settings, map_adjust _ _ _ _ hf]

theorem foldl_steady {α : Type} (f : Blocks → α → Blocks) (hf : ∀ b x, a.Steady b → a.Steady (f b x)) (l : List α)
    (h : a.Steady b) : a.Steady (l.foldl f b) := by
  induction l generalizing b with
  | nil => exact h
  | cons x l ih => exact ih (hf _ _ h)

/-! ### Reports and occurrences -/

theorem takeEach_configuration (events : Vector EventCounter 4) (f : EventCounter → EventCounter × Bool)
    (hf : ∀ c, (f c).1.configuration = c.configuration) :
    (takeEach events f).1.map EventCounter.configuration = events.map EventCounter.configuration :=
  map_map_of_keeps _ _ _ hf

theorem EventCounter.add_configuration (c : EventCounter) (n : Nat) : (c.add n).1.configuration = c.configuration := rfl

theorem takeReport_configuration (e : CountEvent) (carry : Carry) (c : EventCounter) :
    (c.takeReport e carry).1.configuration = c.configuration := by
  unfold EventCounter.takeReport
  (repeat' split) <;> rfl

/-- The counters given the values that a report leaves them. -/
theorem takeEach_steady (h : a.Steady b) (events : Vector EventCounter 4)
    (he : events.map EventCounter.configuration = b.counters.events.map EventCounter.configuration) :
    a.Steady (b.onCounters fun c => { c with events := events }) := by
  refine h.of_calm rfl ?_ le_rfl
  simp [Blocks.settings, he]

theorem raiseAll_steady (h : a.Steady b) (fuel : Nat) (l : List (Nat × AlarmContext)) :
    a.Steady (raiseAll fuel l b) := by
  induction fuel generalizing l b with
  | zero => exact h
  | succ n ih =>
    cases l with
    | nil => exact h
    | cons p l =>
      have occurred := onAlarm_steady h (fun c => c.occur p.1 p.2) (Alarm.occur_classes ..) (Alarm.demand_le_occur ..)
      unfold raiseAll
      refine ih (takeEach_steady occurred _ ?_) _
      exact takeEach_configuration _ _ (takeReport_configuration _ _)

theorem raise_steady (h : a.Steady b) (code : Nat) (c : AlarmContext) : a.Steady (raise code c b) :=
  raiseAll_steady h _ _

theorem raiseLimits_steady (h : a.Steady b) (l : List Nat) : a.Steady (raiseLimits l b) := raiseAll_steady h _ _

theorem countEvent_steady (h : a.Steady b) (e : CountEvent) (c : Carry) : a.Steady (countEvent e c b) := by
  unfold countEvent
  refine raiseLimits_steady (takeEach_steady h _ ?_) _
  exact takeEach_configuration _ _ (takeReport_configuration _ _)

theorem countStatistics_steady (h : a.Steady b) (f : Statistics → Statistics) (k : Nat) :
    a.Steady (countStatistics f k b) := by
  unfold countStatistics
  split
  · exact h
  · exact onCounters_steady h _

theorem reportFire_steady (h : a.Steady b) (k : Nat) : a.Steady (reportFire k b) :=
  countStatistics_steady (countEvent_steady h _ _) _ _

theorem reportInsert_steady (h : a.Steady b) (k : Nat) : a.Steady (reportInsert k b) :=
  countStatistics_steady (countEvent_steady h _ _) _ _

theorem reportMisinsert_steady (h : a.Steady b) (k : Nat) : a.Steady (reportMisinsert k b) :=
  countStatistics_steady (countEvent_steady h _ _) _ _

theorem reportVerify_steady (h : a.Steady b) (p : Bool) (k : Nat) : a.Steady (reportVerify p k b) := by
  unfold reportVerify
  split
  · exact countEvent_steady h _ _
  · exact countStatistics_steady (countEvent_steady h _ _) _ _

theorem appear_steady (h : a.Steady b) {code : Nat} (hc : code < 32) : a.Steady (appear code b) := by
  unfold appear
  split
  · exact h
  · have appeared := onAlarm_steady h (fun c => c.appear code) (Alarm.appear_classes ..) (Alarm.demand_le_appear hc)
    exact countEvent_steady appeared _ _

/-! ### The step window, the positioner and the dispensers -/

theorem resolve_steady (h : a.Steady b) (n : Nat) (o : StepOutcome) : a.Steady (resolve n o b) := by
  unfold resolve
  split
  · exact h
  · split
    · exact h
    · exact onBoard_steady (onStep_steady h _ _) _

theorem resolveBadImage_steady (h : a.Steady b) (n : Nat) : a.Steady (resolveBadImage n b) :=
  resolve_steady (onStep_steady h _ _) _ _

theorem orderReports_steady (h : a.Steady b) (before : Blocks) : a.Steady (orderReports before b) := onBoard_steady h _

theorem compareProfile_profiles (e : Head) (p : Nat) : (e.compareProfile p).profiles = e.profiles := by
  unfold Head.compareProfile
  (repeat' split) <;> rfl

theorem compareProfile_dwellLimit (e : Head) (p : Nat) : (e.compareProfile p).dwellLimit = e.dwellLimit := by
  unfold Head.compareProfile
  (repeat' split) <;> rfl

theorem applySpan_steady (h : a.Steady b) (span : Nat) : a.Steady (applySpan span b) := by
  unfold applySpan
  split
  · exact h
  · exact emit_steady (onPositioner_steady h _) _

theorem applyTarget_steady (h : a.Steady b) (c : StepContext) : a.Steady (applyTarget c b) := by
  unfold applyTarget
  split
  · exact h
  · split
    · exact onPositioner_steady h _
    · exact emit_steady (onPositioner_steady h _) _

theorem applyCandidate_steady (h : a.Steady b) (n : Nat) : a.Steady (applyCandidate n b) := by
  unfold applyCandidate
  split
  · exact h
  · dsimp only
    split
    · exact applyTarget_steady h _
    · exact onHead_steady (applySpan_steady (applyTarget_steady h _) _) _
        (fun e => compareProfile_profiles e _) (fun e => compareProfile_dwellLimit e _)

theorem choose_steady (h : a.Steady b) : a.Steady (choose b) := by
  unfold choose
  dsimp only
  split
  · exact applyCandidate_steady (onPositioner_steady h _) _
  · exact onPositioner_steady h _

theorem releaseLock_steady (h : a.Steady b) : a.Steady (releaseLock b) := by
  unfold releaseLock
  split
  · exact choose_steady (onPositioner_steady h _)
  · exact h

theorem reportLow_steady (h : a.Steady b) (d : Nat) : a.Steady (reportLow d b) := by
  unfold reportLow
  split
  · exact h
  · exact raise_steady (onDispenser_steady h _ _) _ _

theorem reportOut_steady (h : a.Steady b) (d : Nat) : a.Steady (reportOut d b) := by
  unfold reportOut
  split
  · exact h
  · exact raise_steady (onDispenser_steady h _ _) _ _

theorem settleGain_steady (h : a.Steady b) (before : Source) (d : Nat) : a.Steady (settleGain before d b).1 := by
  unfold settleGain
  split
  · dsimp only
    refine mapKinds_steady h _ fun s k => ?_
    (repeat' split) <;> rfl
  · exact h

theorem clearProving_steady (h : a.Steady b) (d : Nat) : a.Steady (clearProving d b).1 :=
  settleGain_steady (onDispenser_steady h _ _) _ _

theorem undoReservation_steady (h : a.Steady b) (n : Nat) : a.Steady (undoReservation n b).1 := by
  unfold undoReservation
  split
  · exact h
  · split
    · exact choose_steady (clearProving_steady (onStep_steady (setSlot_steady h _ _) _ _) _)
    · exact h

theorem cancelStep_steady (h : a.Steady b) (n : Nat) : a.Steady (cancelStep b n) := undoReservation_steady h n

theorem cancelFrom_steady (h : a.Steady b) (k : Nat) : a.Steady (cancelFrom k b) :=
  foldl_steady _ (fun _ n h => cancelStep_steady h n) _ h

theorem settleDispenser_steady (h : a.Steady b) (before : Source) (d : Nat) :
    a.Steady (settleDispenser before d b).1 := by
  refine settleGain_steady ?_ _ _
  split
  · exact cancelFrom_steady h _
  · exact h

theorem fireReel_steady (h : a.Steady b) (d : Nat) : a.Steady (fireReel b d) := by
  unfold fireReel
  dsimp only
  split
  · exact reportOut_steady (onDispenser_steady (onDispenser_steady h _ _) _ _) _
  · split
    · exact reportLow_steady (onDispenser_steady (onDispenser_steady h _ _) _ _) _
    · exact onDispenser_steady h _ _

theorem refill_steady (h : a.Steady b) (d : Nat) (c : Condition) : a.Steady (refill d c b) := by
  unfold refill
  dsimp only
  split
  · exact reportLow_steady (onDispenser_steady h _ _) _
  · exact onDispenser_steady h _ _

/-! ### Leaving the chain -/

theorem returnStep_steady (h : a.Steady b) (n : Nat) (why : Return) : a.Steady (returnStep n why b).1 := by
  unfold returnStep
  split
  · exact h
  · split
    · exact resolveBadImage_steady h _
    · split
      · split
        · exact cancelFrom_steady (countEvent_steady (onStep_steady h _ _) _ _) _
        · exact raise_steady (resolve_steady h _ _) _ _
      · exact cancelFrom_steady (onStep_steady h _ _) _

theorem settlePurge_steady (h : a.Steady b) : a.Steady (settlePurge b).1 := by
  unfold settlePurge
  split
  · dsimp only
    exact onPlanner_steady h _
  · exact h

theorem depart_steady (h : a.Steady b) (g : Bool) (p : Nat) : a.Steady (depart g p b).1 := by
  unfold depart
  split
  · refine choose_steady (settlePurge_steady (countEvent_steady ?_ _ _))
    have returned : ∀ o : Component, a.Steady (match o.step with
        | some n => returnStep n (.slot o.reason) (b.setSlot p .empty)
        | none => (b.setSlot p .empty, false)).1 := by
      intro o
      split
      · exact returnStep_steady (setSlot_steady h _ _) _ _
      · exact setSlot_steady h _ _
    split
    · split
      · exact clearProving_steady (returned _) _
      · exact returned _
    · exact returned _
  · exact h

theorem judgeSlip_steady (h : a.Steady b) (was : Settle) : a.Steady (judgeSlip was b) := by
  unfold judgeSlip
  split
  · exact h
  · split
    · exact raise_steady (onStep_steady (onPositioner_steady h _) _ _) _ _
    · exact h

end Sys2Proof.Machine

end

section
/-! # Braking, the entered states, planning and the park keep the demand heeded -/

namespace Sys2Proof.Machine

set_option Elab.async false

variable {a b : Blocks}

/-! ## The shaft's moves -/

/-- Every move of the shaft monitor that leaves position, tables, drive, machine state, live flag and windows. -/
theorem onShaft_steady (h : a.Steady b) (f : Shaft → Shaft)
    (hp : ∀ s, (f s).position = s.position := by intro _; rfl) (hc : ∀ s, (f s).cam = s.cam := by intro _; rfl)
    (hr : ∀ s, (f s).resumeChoice = s.resumeChoice := by intro _; rfl)
    (hd : ∀ s, (f s).drive = s.drive := by intro _; rfl) (hm : ∀ s, (f s).machine = s.machine := by intro _; rfl)
    (hl : ∀ s, (f s).live = s.live := by intro _; rfl) (ho : ∀ s, (f s).opened = s.opened := by intro _; rfl) :
    a.Steady (b.onShaft f) := by
  refine h.trans ⟨hp _, ?_, fun hs => ?_, le_rfl, fun d _ => ?_⟩
  · simp [Blocks.settings, hc, hr]
  · obtain ⟨ha, hn, hx⟩ : (f b.shaft).angle = b.shaft.angle ∧ (f b.shaft).distance = b.shaft.distance
        ∧ (f b.shaft).registered = b.shaft.registered := by simpa [Shaft.position] using hp b.shaft
    simpa [Shaft.sound, Shaft.isOpen, ha, hn, hd, hm, hl, ho] using hs
  · rw [Blocks.onShaft_shaft, hm]; exact id

theorem Shaft.isOpen_of_replicate {s : Shaft} (h : s.opened = Vector.replicate 10 false) (w : Window) :
    s.isOpen w = false := by
  unfold Shaft.isOpen
  rw [h]
  cases w <;> rfl

/-- R8, R9: a shaft that is held, in no live revolution and with every window closed. -/
structure Shaft.parked (s : Shaft) : Prop where
  angle : s.angle ≤ 1439
  low : -1439 ≤ s.distance
  high : s.distance ≤ 1441
  held : s.drive = .held
  still : s.live = false
  closed : ∀ w : Window, s.isOpen w = false

/-- Table 1-6: a sound shaft whose machine does not turn is held, with every window closed. -/
theorem Shaft.sound.parked {s : Shaft} (h : s.sound) (hm : s.machine.turning = false) : s.parked := by
  obtain ⟨ha, hn, hx, hd, hl, ho⟩ := h
  have held : s.drive = .held := by cases e : s.drive <;> simp_all
  have still : s.live = false := by
    by_contra e
    rcases hl (by simpa using e) with h | h <;> simp [h, MachineState.turning] at hm
  exact ⟨ha, hn, hx, held, still, ho still⟩

/-- A parked shaft is sound in every state that does not turn. -/
theorem Shaft.parked.sound {s : Shaft} (h : s.parked) (hm : s.machine.turning = false) : s.sound := by
  refine ⟨h.angle, h.low, h.high, ?_, ?_, fun _ => h.closed⟩
  · simp [h.held, hm]
  · simp [h.still]

/-- From `a` to `b` the shaft was braked or parked, its machine being on the way to a state that does not turn. -/
structure Blocks.Braked (a b : Blocks) : Prop where
  position : b.shaft.position = a.shaft.position
  settings : b.settings = a.settings
  parked : a.shaft.sound → b.shaft.parked
  demand : a.alarm.demand ≤ b.alarm.demand

/-- An event that began in `a` has ended in `b`, the rise of the demand acted on. -/
structure Blocks.Settled (a b : Blocks) : Prop where
  steady : a.Steady b
  heeded : a.demandHeeded → b.demandHeeded

theorem Blocks.Settled.refl (a : Blocks) : a.Settled a := ⟨.refl a, id⟩

theorem Blocks.Settled.trans {c : Blocks} (h : a.Settled b) (h' : b.Settled c) : a.Settled c :=
  ⟨h.steady.trans h'.steady, h'.heeded ∘ h.heeded⟩

/-- What follows the event and touches neither the alarm table nor the machine state. -/
theorem Blocks.Settled.then {c : Blocks} (h : a.Settled b) (hs : b.Steady c) (ha : c.alarm = b.alarm)
    (hm : c.shaft.machine = b.shaft.machine) : a.Settled c := by
  refine ⟨h.steady.trans hs, fun hh => ?_⟩
  rw [demandHeeded_iff, ha, hm]
  exact h.heeded hh

/-- A change that touches neither the alarm table nor the machine state. -/
theorem Blocks.Steady.settled (h : a.Steady b) (ha : b.alarm = a.alarm) (hm : b.shaft.machine = a.shaft.machine) :
    a.Settled b := (Blocks.Settled.refl a).then h ha hm

theorem foldl_settled {α : Type} (f : Blocks → α → Blocks) (hf : ∀ (b : Blocks) x, b.Settled (f b x)) (l : List α) (b : Blocks) :
    b.Settled (l.foldl f b) := by
  induction l generalizing b with
  | nil => exact .refl b
  | cons x l ih => exact (hf b x).trans (ih _)

/-- A machine that does not turn is on its way already. -/
theorem Blocks.Steady.braked (h : a.Steady b) (hm : b.shaft.machine.turning = false) : a.Braked b :=
  ⟨h.position, h.settings, fun hs => (h.sound hs).parked hm, h.demand⟩

theorem Blocks.Braked.then {c : Blocks} (h : a.Braked b) (hs : b.Steady c) (hc : c.shaft = b.shaft) : a.Braked c :=
  ⟨hs.position.trans h.position, hs.settings.trans h.settings, by rw [hc]; exact h.parked, h.demand.trans hs.demand⟩

/-- R16, R17, R144: a machine that enters a state that does not turn, and heeds the demand there. -/
theorem Blocks.Braked.enter (h : a.Braked b) (f : Shaft → Shaft)
    (ht : (f b.shaft).machine.turning = false) (hh : (f b.shaft).machine.heeds b.alarm.demand)
    (hp : ∀ s, (f s).position = s.position := by intro _; rfl) (hc : ∀ s, (f s).cam = s.cam := by intro _; rfl)
    (hr : ∀ s, (f s).resumeChoice = s.resumeChoice := by intro _; rfl)
    (hd : ∀ s, (f s).drive = s.drive := by intro _; rfl) (hl : ∀ s, (f s).live = s.live := by intro _; rfl)
    (ho : ∀ s, (f s).opened = s.opened := by intro _; rfl) : a.Settled (b.onShaft f) := by
  refine ⟨⟨(hp _).trans h.position, ?_, fun hs => ?_, h.demand, fun d hd _ => ?_⟩, fun _ => hh⟩
  · refine Eq.trans ?_ h.settings
    simp [Blocks.settings, hc, hr]
  · obtain ⟨ha, hn, hx⟩ : (f b.shaft).angle = b.shaft.angle ∧ (f b.shaft).distance = b.shaft.distance
        ∧ (f b.shaft).registered = b.shaft.registered := by simpa [Shaft.position] using hp b.shaft
    obtain ⟨pa, pl, ph, pd, ps, pc⟩ := h.parked hs
    refine Shaft.parked.sound ⟨?_, ?_, ?_, ?_, ?_, ?_⟩ ht <;>
      simp_all [Shaft.isOpen]
  · exact MachineState.heeds_mono hh (hd.trans h.demand)

/-! ## Brakes (R8, R9, R134) -/

@[simp] theorem noteBlocked_shaft (b : Blocks) : (noteBlocked b).shaft = b.shaft := by
  unfold noteBlocked; split <;> rfl
@[simp] theorem noteBlocked_board (b : Blocks) : (noteBlocked b).board = b.board := by
  unfold noteBlocked; split <;> rfl
@[simp] theorem noteBlocked_source (b : Blocks) : (noteBlocked b).source = b.source := by
  unfold noteBlocked; split <;> rfl
@[simp] theorem noteBlocked_chain (b : Blocks) : (noteBlocked b).chain = b.chain := by
  unfold noteBlocked; split <;> rfl
@[simp] theorem noteBlocked_verifier (b : Blocks) : (noteBlocked b).verifier = b.verifier := by
  unfold noteBlocked; split <;> rfl
@[simp] theorem noteBlocked_positioner (b : Blocks) : (noteBlocked b).positioner = b.positioner := by
  unfold noteBlocked; split <;> rfl
@[simp] theorem noteBlocked_head (b : Blocks) : (noteBlocked b).head = b.head := by
  unfold noteBlocked; split <;> rfl
@[simp] theorem noteBlocked_alarm (b : Blocks) : (noteBlocked b).alarm = b.alarm := by
  unfold noteBlocked; split <;> rfl
@[simp] theorem noteBlocked_counters (b : Blocks) : (noteBlocked b).counters = b.counters := by
  unfold noteBlocked; split <;> rfl

@[simp] theorem holdOnset_shaft (b : Blocks) : (holdOnset b).shaft = b.shaft := by simp [holdOnset]
@[simp] theorem holdOnset_verifier (b : Blocks) : (holdOnset b).verifier = b.verifier := by simp [holdOnset]
@[simp] theorem holdOnset_alarm (b : Blocks) : (holdOnset b).alarm = b.alarm := by simp [holdOnset]
@[simp] theorem holdOnset_counters (b : Blocks) : (holdOnset b).counters = b.counters := by simp [holdOnset]

@[simp] theorem interruptInsertion_shaft (b : Blocks) : (interruptInsertion b).shaft = b.shaft := by
  unfold interruptInsertion; split <;> rfl
@[simp] theorem interruptInsertion_alarm (b : Blocks) : (interruptInsertion b).alarm = b.alarm := by
  unfold interruptInsertion; split <;> rfl
@[simp] theorem interruptInsertion_chain (b : Blocks) : (interruptInsertion b).chain = b.chain := by
  unfold interruptInsertion; split <;> rfl

@[simp] theorem cutOffStrip_shaft (b : Blocks) : (cutOffStrip b).shaft = b.shaft := by
  unfold cutOffStrip; (repeat' split) <;> simp

@[simp] theorem cutOffGate_shaft (b : Blocks) : (cutOffGate b).shaft = b.shaft := by
  unfold cutOffGate; split <;> simp

@[simp] theorem endMeasurement_shaft (b : Blocks) : (endMeasurement b).shaft = b.shaft := rfl

@[simp] theorem dropFireFrame_shaft (b : Blocks) : (dropFireFrame b).shaft = b.shaft := rfl

/-- R8: what a brake leaves of the revolution in the shaft. -/
theorem cutShort_shaft (b : Blocks) : (cutShort b).shaft = if b.shaft.live then b.shaft.endRevolution else b.shaft := by
  unfold cutShort
  split <;> simp

/-- R8, R9: the shaft after a brake. -/
theorem brake_shaft (b : Blocks) : (brake b).shaft =
    if b.shaft.live then { b.shaft.endRevolution with drive := .held, parkRequested := false }
    else { b.shaft with drive := .held, parkRequested := false } := by
  cases h : b.shaft.live <;> simp [brake, cutShort_shaft, h, Shaft.endRevolution]

@[simp] theorem brake_machine (b : Blocks) : (brake b).shaft.machine = b.shaft.machine := by
  rw [brake_shaft]; split <;> rfl

theorem noteBlocked_steady (h : a.Steady b) : a.Steady (noteBlocked b) := by
  unfold noteBlocked
  split
  · exact onPlanner_steady h _
  · exact h

theorem holdOnset_steady (h : a.Steady b) : a.Steady (holdOnset b) := noteBlocked_steady (cancelFrom_steady h _)

theorem interruptInsertion_steady (h : a.Steady b) : a.Steady (interruptInsertion b) := by
  unfold interruptInsertion
  split
  · exact h
  · exact onHead_steady (onStep_steady h _ _) _

theorem cutOffStrip_steady (h : a.Steady b) : a.Steady (cutOffStrip b) := by
  unfold cutOffStrip
  split
  · exact h
  · split
    · exact depart_steady (onChain_steady h _) _ _
    · exact h

theorem cutOffGate_steady (h : a.Steady b) : a.Steady (cutOffGate b) := by
  unfold cutOffGate
  split
  · exact h
  · exact depart_steady (onChain_steady h _) _ _

theorem endMeasurement_steady (h : a.Steady b) : a.Steady (endMeasurement b) := onVerifier_steady h _

theorem dropFireFrame_steady (h : a.Steady b) : a.Steady (dropFireFrame b) := onSource_steady h _

/-- R8: the work that a brake cuts short is settled by the blocks' own rules. -/
theorem cutShort_settings (b : Blocks) :
    (cutShort b).settings = b.settings ∧ b.alarm.demand ≤ (cutShort b).alarm.demand := by
  unfold cutShort
  split
  · have settled := interruptInsertion_steady (orderReports_steady
      (cutOffGate_steady (endMeasurement_steady (dropFireFrame_steady (cutOffStrip_steady (.refl b))))) b)
    exact ⟨settled.settings, settled.demand⟩
  · exact ⟨rfl, le_rfl⟩

theorem Shaft.endRevolution_closed (s : Shaft) (w : Window) : s.endRevolution.isOpen w = false :=
  Shaft.isOpen_of_replicate rfl w

theorem brake_braked (h : a.Steady b) : a.Braked (brake b) := by
  have kept := cutShort_settings ((b.onShaft fun s => { s with drive := .held, parkRequested := false }).onChain fun c =>
    { c with grant := false })
  refine ⟨?_, kept.1.trans h.settings, fun hs => ?_, h.demand.trans kept.2⟩
  · refine Eq.trans ?_ h.position
    rw [brake_shaft]; split <;> rfl
  · obtain ⟨ha, hn, hx, -, -, ho⟩ := h.sound hs
    rw [brake_shaft]
    split
    · exact ⟨ha, hn, hx, rfl, rfl, b.shaft.endRevolution_closed⟩
    · next hl => exact ⟨ha, hn, hx, rfl, by simpa using hl, ho (by simpa using hl)⟩

/-! ## Entering HALTED, STOPPED and WAITING -/

theorem enterHalted_settled (h : a.Braked b) : a.Settled (enterHalted b) := by
  have halted : a.Settled (b.onShaft fun s =>
      { s with machine := .halted, stopPending := false, purgeRequested := false }) :=
    h.enter _ rfl (MachineState.halted_heeds _)
  unfold enterHalted
  dsimp only
  exact halted.then (noteBlocked_steady (cancelFrom_steady (onChain_steady (.refl _) _) _)) (by simp) (by simp)

theorem enterStopped_settled (h : a.Braked b) : a.Settled (enterStopped b) :=
  h.enter _ rfl (MachineState.stopped_heeds _)

/-- A shaft that is set turning in one of the states of a run, under no demand that forbids it. -/
theorem drive_settled (h : a.Braked b) (f : Shaft → Shaft) (hm : (f b.shaft).machine.turning = true)
    (hdem : b.alarm.demand < 3) (hd : (f b.shaft).drive = .driving)
    (hp : ∀ s, (f s).position = s.position := by intro _; rfl) (hc : ∀ s, (f s).cam = s.cam := by intro _; rfl)
    (hr : ∀ s, (f s).resumeChoice = s.resumeChoice := by intro _; rfl)
    (hl : ∀ s, (f s).live = s.live := by intro _; rfl) (ho : ∀ s, (f s).opened = s.opened := by intro _; rfl) :
    a.Settled (b.onShaft f) := by
  have hh := MachineState.heeds_of_lt (f b.shaft).machine hdem
  refine ⟨⟨(hp _).trans h.position, ?_, fun hs => ?_, h.demand, fun d hd _ => ?_⟩, fun _ => hh⟩
  · refine Eq.trans ?_ h.settings
    simp [Blocks.settings, hc, hr]
  · obtain ⟨ha, hn, hx⟩ : (f b.shaft).angle = b.shaft.angle ∧ (f b.shaft).distance = b.shaft.distance
        ∧ (f b.shaft).registered = b.shaft.registered := by simpa [Shaft.position] using hp b.shaft
    obtain ⟨pa, pl, ph, pd, ps, pc⟩ := h.parked hs
    refine ⟨?_, ?_, ?_, ?_, ?_, fun _ => ?_⟩ <;> simp_all [Shaft.isOpen]
  · exact MachineState.heeds_mono hh (hd.trans h.demand)

theorem startTurning_settled (h : a.Braked b) {m : MachineState} (hm : m.turning = true) (hd : b.alarm.demand < 3) :
    a.Settled (startTurning m b) := by
  have driven := drive_settled h (fun s => { s with machine := m, drive := .driving, parkRequested := false }) hm hd rfl
  unfold startTurning
  dsimp only
  exact driven.then (onChain_steady (.refl _) _) rfl rfl

/-- The moves of R13 out of WAITING, for a machine that has come to WAITING under no demand that forbids it. -/
theorem settleWaiting_cases (b : Blocks) :
    settleWaiting b = b
      ∨ b.shaft.machine = .waiting ∧ b.board.phase = .none ∧ settleWaiting b = enterStopped b
      ∨ b.shaft.machine = .waiting ∧ b.board.phase ≠ .none ∧ b.chain.work = true
        ∧ settleWaiting b = startTurning .cycling b := by
  unfold settleWaiting
  split
  · split
    · exact .inr (.inl ⟨‹_›, ‹_›, rfl⟩)
    · split
      · exact .inr (.inr ⟨‹_›, ‹_›, ‹_›, rfl⟩)
      · exact .inl rfl
  · exact .inl rfl

theorem enterWaiting_settled (h : a.Braked b) (hd : b.alarm.demand < 3) : a.Settled (enterWaiting b) := by
  have waits : a.Settled (b.onShaft fun s => { s with machine := .waiting }) :=
    h.enter _ rfl (MachineState.heeds_of_lt _ hd)
  have braked : a.Braked (b.onShaft fun s => { s with machine := .waiting }) := waits.steady.braked rfl
  unfold enterWaiting
  rcases settleWaiting_cases (b.onShaft fun s => { s with machine := .waiting }) with e | ⟨-, -, e⟩ | ⟨-, -, -, e⟩ <;> rw [e]
  · exact waits
  · exact enterStopped_settled braked
  · exact startTurning_settled braked rfl hd

/-- In the midst of an event a WAITING machine goes on only to what the event's first demand allows. -/
theorem settleWaiting_steady (h : a.Steady b) : a.Steady (settleWaiting b) := by
  rcases settleWaiting_cases b with e | ⟨hw, -, e⟩ | ⟨hw, -, -, e⟩ <;> rw [e]
  · exact h
  · exact (enterStopped_settled (h.braked (by rw [hw]; rfl))).steady
  · refine h.trans ?_
    have braked := (Blocks.Steady.refl b).braked (by rw [hw]; rfl)
    refine ⟨rfl, rfl, fun hs => ?_, le_rfl, fun d _ hh => ?_⟩
    · obtain ⟨pa, pl, ph, pd, ps, pc⟩ := braked.parked hs
      exact ⟨pa, pl, ph, by simp [startTurning, MachineState.turning], by simp [startTurning, ps], fun _ => pc⟩
    · rw [hw] at hh
      exact MachineState.heeds_of_lt _ (hh.2 rfl)

theorem settleWaiting_settled (b : Blocks) : b.Settled (settleWaiting b) := by
  refine ⟨settleWaiting_steady (.refl b), fun hh => ?_⟩
  rcases settleWaiting_cases b with e | ⟨hw, -, e⟩ | ⟨hw, -, -, e⟩ <;> rw [e]
  · exact hh
  · exact MachineState.stopped_heeds _
  · exact MachineState.heeds_of_lt _ (hh.2 hw)

/-! ## Acting on a rise of the demand (R16, R17, R144) -/

/-- R16: what a STOP-NOW demand does. -/
theorem stopNow_cases (b : Blocks) :
    (b.shaft.machine.turning = true ∧ stopNow b = enterHalted (brake b))
      ∨ (b.shaft.machine = .waiting ∧ stopNow b = enterHalted b)
      ∨ ((b.shaft.machine = .stopped ∨ b.shaft.machine = .halted) ∧ stopNow b = b) := by
  unfold stopNow
  cases h : b.shaft.machine <;> simp [MachineState.turning]

/-- R17: what a rise to STOP-AT-PARK does. -/
theorem stopAtPark_cases (b : Blocks) :
    (b.shaft.machine.turning = true ∧ (stopAtPark b = enterHalted (brake b) ∨ stopAtPark b = b
        ∨ stopAtPark b = b.onShaft fun s => { s with parkRequested := true }))
      ∨ (b.shaft.machine = .waiting ∧ stopAtPark b = enterHalted b)
      ∨ ((b.shaft.machine = .stopped ∨ b.shaft.machine = .halted) ∧ stopAtPark b = b) := by
  unfold stopAtPark
  cases h : b.shaft.machine <;> simp only [MachineState.turning, reduceCtorEq, true_and, false_and, or_false,
    and_self, or_true, true_or, Bool.false_eq_true] <;> (repeat' split) <;> simp

@[simp] theorem enterHalted_machine (b : Blocks) : (enterHalted b).shaft.machine = .halted := by simp [enterHalted]

theorem stopNow_settled (b : Blocks) : b.Settled (stopNow b) := by
  rcases stopNow_cases b with ⟨-, e⟩ | ⟨hw, e⟩ | ⟨-, e⟩ <;> rw [e]
  · exact enterHalted_settled (brake_braked (.refl b))
  · exact enterHalted_settled ((Blocks.Steady.refl b).braked (by rw [hw]; rfl))
  · exact .refl b

theorem stopAtPark_settled (b : Blocks) : b.Settled (stopAtPark b) := by
  rcases stopAtPark_cases b with ⟨-, e | e | e⟩ | ⟨hw, e⟩ | ⟨-, e⟩ <;> rw [e]
  · exact enterHalted_settled (brake_braked (.refl b))
  · exact .refl b
  · exact (onShaft_steady (.refl b) _).settled rfl rfl
  · exact enterHalted_settled ((Blocks.Steady.refl b).braked (by rw [hw]; rfl))
  · exact .refl b

/-- R16: after STOP-NOW was acted on the machine heeds every demand. -/
theorem stopNow_heeds (b : Blocks) (d : Nat) : (stopNow b).shaft.machine.heeds d := by
  rcases stopNow_cases b with ⟨-, e⟩ | ⟨-, e⟩ | ⟨hm, e⟩ <;> rw [e]
  · simpa using MachineState.halted_heeds d
  · simpa using MachineState.halted_heeds d
  · rcases hm with h | h <;> rw [h]
    · exact MachineState.stopped_heeds d
    · exact MachineState.halted_heeds d

/-- R17: after a rise to STOP-AT-PARK was acted on the machine heeds the demand. -/
theorem stopAtPark_heeds (hd : b.alarm.demand = 3) : (stopAtPark b).demandHeeded := by
  rw [demandHeeded_iff]
  rcases stopAtPark_cases b with ⟨ht, e | e | e⟩ | ⟨-, e⟩ | ⟨hm, e⟩ <;> rw [e]
  · simpa using MachineState.halted_heeds _
  · exact ⟨fun _ => by omega, fun hw => by simp [hw, MachineState.turning] at ht⟩
  · refine ⟨fun _ => by simp [hd], fun hw => ?_⟩
    simp only [Blocks.onShaft_shaft] at hw
    simp [hw, MachineState.turning] at ht
  · simpa using MachineState.halted_heeds _
  · rcases hm with h | h <;> rw [h]
    · exact MachineState.stopped_heeds _
    · exact MachineState.halted_heeds _

theorem reactRise_steady (h : a.Steady b) (before : Alarm) : a.Steady (reactRise before b) := by
  unfold reactRise
  dsimp only
  have held : a.Steady (if before.demand < 2 ∧ 2 ≤ b.alarm.demand then holdOnset b else b) := by
    split
    · exact holdOnset_steady h
    · exact h
  split
  · exact held.trans (stopNow_settled _).steady
  · split
    · exact held.trans (stopAtPark_settled _).steady
    · exact held

/-- R144: a machine that heeded the demand of the alarm table `before` heeds the present one once the rise is acted on. -/
theorem reactRise_heeds {before : Alarm} (h : b.shaft.machine.heeds before.demand) :
    (reactRise before b).demandHeeded := by
  unfold reactRise
  dsimp only
  obtain ⟨ha, hs⟩ : (if before.demand < 2 ∧ 2 ≤ b.alarm.demand then holdOnset b else b).alarm = b.alarm
      ∧ (if before.demand < 2 ∧ 2 ≤ b.alarm.demand then holdOnset b else b).shaft = b.shaft := by
    split <;> simp
  have top := b.alarm.demand_le_four
  split
  · exact stopNow_heeds _ _
  · next h4 =>
    split
    · next h3 => exact stopAtPark_heeds (by rw [ha]; exact h3.1)
    · next h3 =>
      rw [demandHeeded_iff, ha, hs]
      by_cases low : b.alarm.demand < 3
      · exact MachineState.heeds_of_lt _ low
      · exact MachineState.heeds_mono h (by have := before.demand_le_four; by_cases e : b.alarm.demand = 4 <;> omega)

/-- R144: the end of an event that the blocks' own rules carried from `a` to `b`. -/
theorem reactRise_settled (h : a.Steady b) : a.Settled (reactRise a.alarm b) :=
  ⟨reactRise_steady h _, fun hh => reactRise_heeds (h.heeds _ le_rfl hh)⟩

theorem occur_settled (b : Blocks) (code : Nat) (c : AlarmContext) : b.Settled (occur code c b) := by
  unfold occur
  exact reactRise_settled (raise_steady (.refl b) _ _)

/-! ## Planning (4.2) -/

theorem choose_settled (b : Blocks) : b.Settled (choose b) :=
  (choose_steady (.refl b)).settled (by simp) (by simp)

theorem reserve_settled (n kind index d j : Nat) (b : Blocks) : b.Settled (reserve n kind index d j b) := by
  have taken : b.Settled (((b.setSlot (b.chain.pitchAt j) (.reserved n d)).onStep n fun c =>
      { c with state := .planned, source := some d, slot := some (b.chain.pitchAt j) }).onSource fun s =>
      { s with kinds := adjust s.kinds kind fun k => { k with lastUsed := index } }) :=
    (adjustKind_steady (onStep_steady (setSlot_steady (.refl b) _ _) _ _) _ _).settled rfl rfl
  unfold reserve
  dsimp only
  refine Blocks.Settled.trans (Blocks.Settled.trans ?_ (choose_settled _)) (settleWaiting_settled _)
  split
  · exact taken.then (onDispenser_steady (.refl _) _ _) rfl rfl
  · exact taken

theorem setStopCause_settled (b : Blocks) (cause : StopCause) : b.Settled (setStopCause cause b) :=
  (onPlanner_steady (.refl b) _).settled rfl rfl

theorem stopNoSource_settled (n kind : Nat) (b : Blocks) : b.Settled (stopNoSource n kind b) := by
  unfold stopNoSource
  refine (setStopCause_settled b .noSource).trans ?_
  dsimp only
  split
  · exact .refl _
  · exact ((adjustKind_steady (.refl _) _ _).settled rfl rfl).trans (occur_settled _ _ _)

theorem planPass_settled (l : List Nat) (b : Blocks) : b.Settled (planPass l b) := by
  induction l generalizing b with
  | nil => exact setStopCause_settled b _
  | cons n rest ih =>
    unfold planPass
    split
    · exact ih b
    · split
      · exact stopNoSource_settled _ _ b
      · split
        · exact stopNoSource_settled _ _ b
        · split
          · exact setStopCause_settled b _
          · exact (reserve_settled _ _ _ _ _ b).trans (ih _)

theorem planningEvent_settled (b : Blocks) : b.Settled (planningEvent b) := by
  unfold planningEvent
  split
  · exact setStopCause_settled b _
  · exact planPass_settled _ b

theorem planIf_settled (due : Bool) (b : Blocks) : b.Settled (planIf due b) := by
  unfold planIf
  split
  · exact planningEvent_settled b
  · exact .refl b

theorem planningEvent_steady (h : a.Steady b) : a.Steady (planningEvent b) := h.trans (planningEvent_settled b).steady

theorem planIf_steady (h : a.Steady b) (due : Bool) : a.Steady (planIf due b) := h.trans (planIf_settled due b).steady

theorem orderReports_settled (h : a.Settled b) (before : Blocks) : a.Settled (orderReports before b) :=
  h.then (orderReports_steady (.refl b) before) rfl rfl

theorem conclude_settled {r : Blocks × Bool} (h : a.Steady r.1) : a.Settled (conclude a r) :=
  orderReports_settled ((reactRise_settled h).trans (planIf_settled _ _)) a

theorem concludeDemand_settled (h : a.Steady b) : a.Settled (concludeDemand a.alarm b) :=
  (reactRise_settled h).trans (planIf_settled _ _)

/-! ## Purges and parks -/

theorem markAllPurge_steady (h : a.Steady b) : a.Steady (markAllPurge b) :=
  choose_steady (onBoard_steady (onChain_steady h _) _)

@[simp] theorem markAllPurge_shaft (b : Blocks) : (markAllPurge b).shaft = b.shaft := by simp [markAllPurge]
@[simp] theorem markAllPurge_alarm (b : Blocks) : (markAllPurge b).alarm = b.alarm := by simp [markAllPurge]

/-- R160: a purge start from a state that does not turn, under no demand that forbids it. -/
theorem purgeStart_settled (hd : b.alarm.demand < 3) (hm : b.shaft.machine.turning = false) :
    b.Settled (purgeStart b) := by
  have marked : b.Settled (noteBlocked (cancelFrom 0 ((markAllPurge b).onPlanner fun p => { p with freeze := true }))) := by
    refine Blocks.Steady.settled ?_ (by simp) (by simp)
    exact noteBlocked_steady (cancelFrom_steady (onPlanner_steady (markAllPurge_steady (.refl b)) _) _)
  unfold purgeStart
  dsimp only
  split
  · exact startTurning_settled (marked.steady.braked (by simpa using hm)) rfl (by simpa using hd)
  · exact marked.trans (((onPlanner_steady (.refl _) _).settled rfl rfl).trans (planningEvent_settled _))

theorem purgeFromHalt_settled (h : a.Braked b) (hd : b.alarm.demand < 3) : a.Settled (purgeFromHalt b) := by
  have waits : a.Settled (b.onShaft fun s => { s with machine := .waiting }) :=
    h.enter _ rfl (MachineState.heeds_of_lt _ hd)
  have purged := waits.trans (purgeStart_settled (b := b.onShaft fun s => { s with machine := .waiting }) hd rfl)
  unfold purgeFromHalt
  dsimp only
  split
  · exact purged.then (noteBlocked_steady (.refl _)) (by simp) (by simp)
  · exact purged.trans (settleWaiting_settled _)

/-- R12, R14, R157, R161: the state that a park leads to. -/
theorem afterPark_settled (h : a.Braked b) (hm : b.shaft.machine.turning = true) : a.Settled (afterPark b) := by
  have low : decide (3 ≤ b.alarm.demand) ≠ true → b.alarm.demand < 3 := by simp
  unfold afterPark
  dsimp only
  split
  · split
    · exact enterHalted_settled h
    · next hd =>
      split
      · exact enterStopped_settled h
      · exact enterWaiting_settled h (low hd)
  · split
    · exact enterHalted_settled h
    · next hd =>
      split
      · exact enterStopped_settled h
      · exact enterWaiting_settled h (low hd)
  · split
    · exact enterHalted_settled h
    · next hd =>
      split
      · exact (enterStopped_settled h).trans (planningEvent_settled _)
      · exact (enterWaiting_settled h (low hd)).trans (planningEvent_settled _)
  · have dropped : a.Braked (b.onShaft fun s => { s with purgeRequested := false }) :=
      ⟨h.position, h.settings, fun hs => ⟨(h.parked hs).1, (h.parked hs).2, (h.parked hs).3, (h.parked hs).4,
        (h.parked hs).5, (h.parked hs).6⟩, h.demand⟩
    split
    · exact enterHalted_settled dropped
    · next hd =>
      split
      · exact (enterStopped_settled dropped).trans (planningEvent_settled _)
      · split
        · exact purgeFromHalt_settled dropped (low hd)
        · exact (enterWaiting_settled dropped (low hd)).trans (planningEvent_settled _)
  all_goals next e => simp [e, MachineState.turning] at hm

/-- R9: the park event from `b`, before the state that it leads to is entered. -/
theorem parked_braked (b : Blocks) :
    b.Braked ((b.onShaft fun s => { s.endRevolution with drive := .held, parkRequested := false }).onChain fun c =>
      { c with grant := false }) := by
  refine ⟨rfl, rfl, fun hs => ?_, le_rfl⟩
  obtain ⟨ha, hn, hx, -, -, -⟩ := hs
  exact ⟨ha, hn, hx, rfl, rfl, b.shaft.endRevolution_closed⟩

theorem parkEvent_settled (b : Blocks) : b.Settled (parkEvent b) := by
  cases hm : b.shaft.machine.turning
  · have stays : parkEvent b = (b.onShaft fun s => { s.endRevolution with drive := .held, parkRequested := false }).onChain
        fun c => { c with grant := false } := by
      cases e : b.shaft.machine <;> simp_all [parkEvent, afterPark, Shaft.endRevolution, MachineState.turning]
    rw [stays]
    refine Blocks.Steady.settled ⟨rfl, rfl, fun hs => ?_, le_rfl, fun _ _ => id⟩ rfl rfl
    exact ((parked_braked b).parked hs).sound hm
  · exact afterPark_settled (parked_braked b) hm

/-- R10: a run to park begins, under no demand that forbids it. -/
theorem startRunToPark_settled (h : a.Braked b) {m : MachineState} (hm : m.turning = true) (hd : b.alarm.demand < 3) :
    a.Settled (startRunToPark m b) := by
  unfold startRunToPark
  dsimp only
  split
  · refine afterPark_settled ⟨h.position, h.settings, fun hs => ?_, h.demand⟩ hm
    exact ⟨(h.parked hs).1, (h.parked hs).2, (h.parked hs).3, (h.parked hs).4, (h.parked hs).5, (h.parked hs).6⟩
  · exact drive_settled h (fun s => { s with machine := m, drive := .driving, parkRequested := s.registered }) hm hd rfl

end Sys2Proof.Machine

end

section
/-! # Window events and encoder samples -/

namespace Sys2Proof.Machine

set_option Elab.async false

variable {a b : Blocks}

/-! ## Window events (Table 1-4) -/

theorem leaveVerify_steady (h : a.Steady b) : a.Steady (leaveVerify b) := by
  unfold leaveVerify
  dsimp only
  split
  · split
    · split
      · exact onStep_steady (setSlot_steady h _ _) _ _
      · exact setSlot_steady h _ _
    · exact h
  · exact h

theorem leaveGate_steady (h : a.Steady b) : a.Steady (leaveGate b) := by
  unfold leaveGate
  dsimp only
  split
  · split
    · split
      · exact onStep_steady (setSlot_steady h _ _) _ _
      · exact setSlot_steady h _ _
    · exact h
  · exact h

@[simp] theorem leaveVerify_shaft (b : Blocks) : (leaveVerify b).shaft = b.shaft := by
  unfold leaveVerify; dsimp only; (repeat' split) <;> rfl
@[simp] theorem leaveVerify_alarm (b : Blocks) : (leaveVerify b).alarm = b.alarm := by
  unfold leaveVerify; dsimp only; (repeat' split) <;> rfl
@[simp] theorem leaveGate_shaft (b : Blocks) : (leaveGate b).shaft = b.shaft := by
  unfold leaveGate; dsimp only; (repeat' split) <;> rfl
@[simp] theorem leaveGate_alarm (b : Blocks) : (leaveGate b).alarm = b.alarm := by
  unfold leaveGate; dsimp only; (repeat' split) <;> rfl

theorem indexOpen_settled (b : Blocks) : b.Settled (indexOpen b) := by
  unfold indexOpen
  split
  · exact (onChain_steady (.refl b) _).settled rfl rfl
  · dsimp only
    refine Blocks.Steady.settled ?_ (by simp) (by simp)
    exact choose_steady (leaveGate_steady (leaveVerify_steady (onChain_steady (.refl b) _)))

theorem complete_configuration (o q f : Nat) (c : EventCounter) :
    (EventCounter.complete o q f c).1.configuration = c.configuration := by
  unfold EventCounter.complete
  dsimp only
  (repeat' split) <;> rfl

theorem countCompletion_steady (h : a.Steady b) : a.Steady (countCompletion b) := by
  unfold countCompletion
  refine raiseLimits_steady (takeEach_steady h _ ?_) _
  exact takeEach_configuration _ _ (complete_configuration _ _ _)

theorem judgeIndex_steady (h : a.Steady b) : a.Steady (judgeIndex b) := by
  unfold judgeIndex
  split
  · exact h
  · exact raise_steady h _ _

theorem judgeRunout_steady (h : a.Steady b) : a.Steady (judgeRunout b).1 := by
  unfold judgeRunout
  split
  · exact h
  · exact depart_steady (raise_steady (onChain_steady h _) _ _) _ _

theorem indexClose_settled (b : Blocks) : b.Settled (indexClose b) := by
  unfold indexClose
  dsimp only
  refine orderReports_settled (Blocks.Settled.trans ?_ (planningEvent_settled _)) b
  have judged := reactRise_settled (judgeRunout_steady (judgeIndex_steady (.refl b)))
  exact judged.trans (reactRise_settled (choose_steady (countCompletion_steady (.refl _))))

theorem fireSlot_steady (h : a.Steady b) (f : Nat × Fire) : a.Steady (fireSlot b f) :=
  reportFire_steady (onStep_steady (setSlot_steady h _ _) _ _) _

theorem sendFireFrame_steady (h : a.Steady b) (fires : List Fire) : a.Steady (sendFireFrame fires b) :=
  emit_steady (onSource_steady h _) _

theorem settleDispensers_steady (h : a.Steady b) (before : Source) (ds : List Nat) :
    a.Steady (settleDispensers before ds b) :=
  foldl_steady _ (fun _ d h => planIf_steady (settleDispenser_steady h before d) _) ds h

theorem fireOpen_settled (b : Blocks) : b.Settled (fireOpen b) := by
  have fired : b.Steady (b.fires.foldl fireSlot b) := foldl_steady _ (fun _ f h => fireSlot_steady h f) _ (.refl b)
  unfold fireOpen
  dsimp only
  exact reactRise_settled (settleDispensers_steady (choose_steady
    (foldl_steady _ (fun _ d h => fireReel_steady h d) _ (sendFireFrame_steady fired _))) _ _)

theorem jam_steady (h : a.Steady b) (d : Nat) : a.Steady (jam d b) := onDispenser_steady h _ _

theorem silence_steady (h : a.Steady b) (f : FireFrame) (bank : Nat) : a.Steady (silence f b bank) := by
  unfold silence
  split
  · exact jam_steady (raise_steady h _ _) _
  · exact raise_steady h _ _

theorem fireClose_settled (b : Blocks) : b.Settled (fireClose b) := by
  unfold fireClose
  split
  · exact .refl b
  · dsimp only
    exact reactRise_settled (settleDispensers_steady
      (foldl_steady _ (fun _ n h => silence_steady h _ n) _ (dropFireFrame_steady (.refl b))) _ _)

theorem judged_loadedFields (e : Dispenser) (r : VerifyResult) : (e.judged r).loadedFields = e.loadedFields := by
  cases r <;> rfl

theorem judgeDispenser_steady (h : a.Steady b) (d : Nat) (r : VerifyResult) (s k : Option Nat) :
    a.Steady (judgeDispenser d r s k b).1 := by
  have judged := onDispenser_steady h d (fun e => e.judged r) fun e => judged_loadedFields e r
  unfold judgeDispenser
  dsimp only
  refine settleDispenser_steady ?_ _ _
  have told : a.Steady (if wrongReel (look b.source.dispensers d) r
      then raise 23 ⟨s, some d, k⟩ (b.onDispenser d fun e => e.judged r) else b.onDispenser d fun e => e.judged r) := by
    split
    · exact raise_steady judged _ _
    · exact judged
  split
  · exact reportOut_steady told _
  · exact told

theorem extendFaultRun_steady (h : a.Steady b) (r : VerifyResult) (s : Option Nat) :
    a.Steady (extendFaultRun r s b) := by
  unfold extendFaultRun
  split
  · exact h
  · exact h
  · extract_lets kept run
    split
    · exact raise_steady (onVerifier_steady h _) _ _
    · exact onVerifier_steady h _
  · exact onVerifier_steady h _

theorem giveResult_settled (pitch : Nat) (v : VerifyRecord) (b : Blocks) : b.Settled (giveResult pitch v b) := by
  unfold giveResult
  split
  · next o _ =>
    dsimp only
    refine conclude_settled (extendFaultRun_steady ?_ _ _)
    have recorded : b.Steady (match o.step with
        | some n => (b.setSlot pitch (.occupied (o.measured v.result))).onStep n fun c =>
            c.measured v (decide (o.disposition = .insert))
        | none => b.setSlot pitch (.occupied (o.measured v.result))) := by
      split
      · exact onStep_steady (setSlot_steady (.refl b) _ _) _ _
      · exact setSlot_steady (.refl b) _ _
    have judged : ∀ c, b.Steady c → b.Steady (match o.source with
        | some d => judgeDispenser d v.result o.step o.kind c
        | none => (c, false)).1 := by
      intro c hc
      split
      · exact judgeDispenser_steady hc _ _ _ _
      · exact hc
    split
    · exact reportVerify_steady (judged _ (choose_steady recorded)) _ _
    · exact judged _ (choose_steady recorded)
  · exact .refl b

theorem findStray_settled (pitch : Nat) (b : Blocks) : b.Settled (findStray pitch b) := by
  unfold findStray
  exact ((setSlot_steady (.refl b) _ _).settled rfl rfl).trans (choose_settled _)

theorem startMeasurement_settled (p id : Nat) (k : Kind) (b : Blocks) : b.Settled (startMeasurement p id k b) := by
  unfold startMeasurement
  exact (onVerifier_steady (.refl b) _).settled rfl rfl

theorem verifyOpen_settled (station : Station) (b : Blocks) : b.Settled (verifyOpen station b) := by
  unfold verifyOpen
  dsimp only
  split
  · split
    · exact findStray_settled _ b
    · exact .refl b
  · exact .refl b
  · split
    · split
      · exact .refl b
      · split
        · split
          · exact giveResult_settled _ _ b
          · exact startMeasurement_settled _ _ _ b
        · exact giveResult_settled _ _ b
    · exact .refl b

theorem endMeasurement_settled (b : Blocks) : b.Settled (endMeasurement b) :=
  (endMeasurement_steady (.refl b)).settled rfl rfl

theorem endPhase_settled (m : Measurement) (r : Reading) (n : Nat) (b : Blocks) : b.Settled (endPhase m r n b) := by
  unfold endPhase
  split
  · exact (endMeasurement_settled b).trans (giveResult_settled _ _ _)
  · exact (onVerifier_steady (.refl b) _).settled rfl rfl
  · exact (endMeasurement_settled b).trans (giveResult_settled _ _ _)

theorem verifyClose_settled (ticks : Nat) (b : Blocks) : b.Settled (verifyClose ticks b) := by
  unfold verifyClose
  split
  · exact .refl b
  · dsimp only
    split
    · exact (endMeasurement_settled b).trans (giveResult_settled _ _ _)
    · exact endPhase_settled _ _ _ b

theorem gateOpen_settled (b : Blocks) : b.Settled (gateOpen b) := by
  have done : b.Settled (b.onChain fun c => { c with gateDone := true }) :=
    (onChain_steady (.refl b) _).settled rfl rfl
  unfold gateOpen
  dsimp only
  split
  · split
    · exact done.then (onChain_steady (.refl _) _) rfl rfl
    · exact done
  · exact done

theorem failGate_steady (h : a.Steady b) (pitch : Nat) : a.Steady (failGate pitch b) := by
  unfold failGate
  split
  · dsimp only
    split
    · exact onStep_steady (setSlot_steady (raise_steady h _ _) _ _) _ _
    · exact setSlot_steady (raise_steady h _ _) _ _
  · exact h

theorem gateClose_settled (b : Blocks) : b.Settled (gateClose b) := by
  unfold gateClose
  split
  · exact .refl b
  · exact conclude_settled (settlePurge_steady (choose_steady (failGate_steady (onChain_steady (.refl b) _) _)))

/-! ## The head's windows -/

theorem reportGrant_steady (h : a.Steady b) (g : Bool) : a.Steady (reportGrant g b) := onCounters_steady h _

theorem judgeDwell_steady (h : a.Steady b) (n : Nat) : a.Steady (judgeDwell n b) := by
  unfold judgeDwell
  split
  · exact h
  · split
    · exact h
    · split
      · exact raise_steady (onStep_steady h _ _) _ _
      · exact h

theorem waitAtHead_steady (h : a.Steady b) (n : Nat) : a.Steady (waitAtHead n b) :=
  judgeDwell_steady (onStep_steady h _ _) _

theorem takeOffer_steady (h : a.Steady b) : a.Steady (takeOffer b) := onShaft_steady h _

theorem tierStrip_steady (h : a.Steady b) (p : Nat) (o : Component) (n : Nat) : a.Steady (tierStrip p o n b) :=
  choose_steady (onStep_steady (setSlot_steady h _ _) _ _)

theorem grantInsert_steady (h : a.Steady b) (station : Station) (p : Nat) (c : StepContext) :
    a.Steady (grantInsert station p c b) := by
  unfold grantInsert
  exact onHead_steady (choose_steady (onStep_steady (setSlot_steady (onPositioner_steady h _) _ _) _ _)) _

@[simp] theorem reportGrant_shaft (g : Bool) (b : Blocks) : (reportGrant g b).shaft = b.shaft := rfl
@[simp] theorem reportGrant_alarm (g : Bool) (b : Blocks) : (reportGrant g b).alarm = b.alarm := rfl
@[simp] theorem tierStrip_shaft (p : Nat) (o : Component) (n : Nat) (b : Blocks) : (tierStrip p o n b).shaft = b.shaft := by
  simp [tierStrip]
@[simp] theorem tierStrip_alarm (p : Nat) (o : Component) (n : Nat) (b : Blocks) : (tierStrip p o n b).alarm = b.alarm := by
  simp [tierStrip]
@[simp] theorem grantInsert_shaft (t : Station) (p : Nat) (c : StepContext) (b : Blocks) :
    (grantInsert t p c b).shaft = b.shaft := by simp [grantInsert]
@[simp] theorem grantInsert_alarm (t : Station) (p : Nat) (c : StepContext) (b : Blocks) :
    (grantInsert t p c b).alarm = b.alarm := by simp [grantInsert]

theorem judgeOffer_settled (station : Station) (b : Blocks) : b.Settled (judgeOffer station b) := by
  unfold judgeOffer
  dsimp only
  split
  · exact (reportGrant_steady (.refl b) _).settled rfl rfl
  · split
    · exact (reportGrant_steady (tierStrip_steady (.refl b) _ _ _) _).settled (by simp) (by simp)
    · split
      · exact (reportGrant_steady (.refl b) _).settled rfl rfl
      · split
        · exact (reportGrant_steady (grantInsert_steady (.refl b) _ _ _) _).settled (by simp) (by simp)
        · exact reactRise_settled (reportGrant_steady (waitAtHead_steady (.refl b) _) _)

theorem takeOffer_settled (b : Blocks) : b.Settled (takeOffer b) := (takeOffer_steady (.refl b)).settled rfl rfl

theorem transferOpen_settled (station : Station) (b : Blocks) : b.Settled (transferOpen station b) :=
  (takeOffer_settled b).trans (judgeOffer_settled _ _)

theorem onRecord_settled (b : Blocks) (f : InsertionRecord → InsertionRecord) : b.Settled (b.onRecord f) :=
  (onRecord_steady (.refl b) f).settled rfl rfl

theorem judgeLine_settled (seen : InsertionRecord → Bool) (code : Nat) (b : Blocks) :
    b.Settled (judgeLine seen code b) := by
  unfold judgeLine
  split
  · exact .refl b
  · split
    · exact .refl b
    · exact occur_settled b _ _

theorem senseClose_settled (b : Blocks) : b.Settled (senseClose b) := by
  unfold senseClose
  split
  · exact .refl b
  · next r _ =>
    split
    · exact .refl b
    · split
      · split
        · exact conclude_settled (reportInsert_steady (resolve_steady (.refl b) _ _) _)
        · split
          · dsimp only
            have resolved := reportMisinsert_steady (resolve_steady (.refl b) r.step .misinserted) r.kind
            refine conclude_settled (r := (_, false)) ?_
            dsimp only
            split
            · exact raise_steady resolved _ _
            · exact resolved
          · exact conclude_settled (returnStep_steady (.refl b) _ _)
      · exact .refl b

theorem releaseLock_settled (b : Blocks) : b.Settled (releaseLock b) :=
  (releaseLock_steady (.refl b)).settled (by simp) (by simp)

theorem seeUp_settled (b : Blocks) : b.Settled (seeUp b) := by
  unfold seeUp
  split
  · exact .refl b
  · split
    · exact .refl b
    · exact (onRecord_settled b _).trans (releaseLock_settled _)

theorem retractClose_settled (b : Blocks) : b.Settled (retractClose b) := by
  unfold retractClose
  split
  · exact .refl b
  · next r _ =>
    have ended : b.Settled (b.onHead fun h =>
        { h with inhibit := true, record := none, upAwaited := h.upAwaited || !r.up }) :=
      (onHead_steady (.refl b) _).settled rfl rfl
    dsimp only
    split
    · exact ended
    · exact ended.trans (occur_settled _ _ _)

theorem decisionOpen_settled (b : Blocks) : b.Settled (decisionOpen b) := by
  unfold decisionOpen
  exact (onShaft_steady (.refl b) _).settled rfl rfl

theorem decisionClose_settled (b : Blocks) : b.Settled (decisionClose b) := by
  unfold decisionClose
  exact (onChain_steady (.refl b) _).settled rfl rfl

theorem windowEvent_settled (station : Station) (w : Window) (opens : Bool) (b : Blocks) :
    b.Settled (windowEvent station w opens b) := by
  cases w <;> cases opens <;> simp only [windowEvent]
  case index.false => split; exacts [indexClose_settled b, .refl b]
  case index.true => split; exacts [indexOpen_settled b, .refl b]
  case fire.false => exact fireClose_settled b
  case fire.true => exact fireOpen_settled b
  case verify.false => exact verifyClose_settled _ b
  case verify.true => exact verifyOpen_settled _ b
  case gate.false => exact gateClose_settled b
  case gate.true => exact gateOpen_settled b
  case transfer.false => exact judgeLine_settled _ _ b
  case transfer.true => exact transferOpen_settled _ b
  case descend.false => exact judgeLine_settled _ _ b
  case descend.true => split; exacts [onRecord_settled b _, .refl b]
  case clinch.false => exact judgeLine_settled _ _ b
  case clinch.true => exact .refl b
  case sense.false => exact senseClose_settled b
  case sense.true => exact onRecord_settled b _
  case retract.false => exact retractClose_settled b
  case retract.true => split; exacts [seeUp_settled b, .refl b]
  case decision.false => exact decisionClose_settled b
  case decision.true => exact decisionOpen_settled b

/-- R7: a window marked in a live revolution. -/
theorem markWindow_settled (hl : b.shaft.live = true) (v : Vector Bool 10) :
    b.Settled (b.onShaft fun s => { s with opened := v }) := by
  refine Blocks.Steady.settled ⟨rfl, rfl, fun hs => ?_, le_rfl, fun _ _ => id⟩ rfl rfl
  obtain ⟨ha, hn, hx, hd, hm, -⟩ := hs
  exact ⟨ha, hn, hx, hd, hm, fun e => by simp [hl] at e⟩

theorem takeWindow_settled (station : Station) (w : Window) (opens : Bool) (hl : b.shaft.live = true) :
    b.Settled (takeWindow station w opens b) :=
  (markWindow_settled hl _).trans (windowEvent_settled _ _ _ _)

theorem windowEvents_settled (station : Station) (angle : Nat) (b : Blocks) :
    b.Settled (windowEvents station angle b) := by
  refine foldl_settled _ (fun c w => ?_) _ b
  split
  · split
    · exact takeWindow_settled _ _ _ ‹_›
    · exact .refl c
  · exact .refl c

/-! ## Encoder samples (R1 to R7) -/

theorem reportRevolution_steady (h : a.Steady b) : a.Steady (reportRevolution b) := by
  unfold reportRevolution
  split
  · exact countEvent_steady h _ _
  · exact countEvent_steady (onCounters_steady h _) _ _

/-- R6: a live revolution begins in CYCLING or PURGING alone. -/
theorem beginLive_steady (hm : b.shaft.machine = .cycling ∨ b.shaft.machine = .purging) : b.Steady (beginLive b) := by
  refine ⟨rfl, rfl, fun hs => ?_, le_rfl, fun _ _ => id⟩
  obtain ⟨ha, hn, hx, hd, -, -⟩ := hs
  exact ⟨ha, hn, hx, hd, fun _ => hm, fun e => by simp [beginLive] at e⟩

theorem startRevolution_settled (station : Station)
    (hm : b.shaft.machine = .cycling ∨ b.shaft.machine = .purging) : b.Settled (startRevolution station b) := by
  have begun := reactRise_settled (reportRevolution_steady (beginLive_steady hm))
  exact (begun.trans (choose_settled _)).trans (windowEvents_settled _ _ _)

theorem requestAfterRegistering_settled (b : Blocks) : b.Settled (requestAfterRegistering b) := by
  unfold requestAfterRegistering
  split
  · exact (onShaft_steady (.refl b) _).settled rfl rfl
  · exact .refl b

theorem endRevolution_settled (b : Blocks) : b.Settled (b.onShaft Shaft.endRevolution) := by
  refine Blocks.Steady.settled ⟨rfl, rfl, fun hs => ?_, le_rfl, fun _ _ => id⟩ rfl rfl
  obtain ⟨ha, hn, hx, hd, -, -⟩ := hs
  exact ⟨ha, hn, hx, hd, fun e => by simp [Shaft.endRevolution] at e, fun _ => b.shaft.endRevolution_closed⟩

theorem crossDriven_settled (station : Station) (r : Bool) (b : Blocks) : b.Settled (crossDriven station r b) := by
  refine (endRevolution_settled b).trans ?_
  unfold crossDriven
  dsimp only
  split
  · split
    · exact startRevolution_settled _ ‹_›
    · exact .refl _
  · exact requestAfterRegistering_settled _

theorem registrationFault_settled (b : Blocks) : b.Settled (registrationFault b) := occur_settled b _ _

theorem takePark_settled (b : Blocks) : b.Settled (takePark b) := by
  unfold takePark
  split
  · exact parkEvent_settled b
  · exact .refl b

theorem sampleWindows_settled (station : Station) (b : Blocks) : b.Settled (sampleWindows station b) := by
  unfold sampleWindows
  split
  · exact windowEvents_settled _ _ b
  · exact .refl b

/-- Table 1-1: a forward count keeps the angle and the index distance within their values. -/
theorem Shaft.sound.countForward_bounds {s : Shaft} (h : s.sound) :
    s.countForward.angle ≤ 1439 ∧ -1439 ≤ s.countForward.distance ∧ s.countForward.distance ≤ 1441 := by
  obtain ⟨ha, hn, hx, -⟩ := h
  simp only [Shaft.countForward, Config.lastAngle, Config.missingIndexDistance]
  split <;> omega

/-- Table 1-1: a reverse count keeps the angle and the index distance within their values. -/
theorem Shaft.sound.countReverse_bounds {s : Shaft} (h : s.sound) :
    s.countReverse.angle ≤ 1439 ∧ -1439 ≤ s.countReverse.distance ∧ s.countReverse.distance ≤ 1441 := by
  obtain ⟨ha, hn, hx, -⟩ := h
  simp only [Shaft.countReverse, Config.lastAngle, Config.lowestDistance]
  split <;> omega

/-- The blocks with the shaft moved, and nothing else changed. -/
def Blocks.movedTo (b : Blocks) (angle : Nat) (distance : Int) (registered : Bool) : Blocks :=
  b.onShaft fun s => { s with angle := angle, distance := distance, registered := registered }

/-- A sample that moves the shaft within the values of Table 1-1, and then acts by the blocks' own rules. -/
def Blocks.SampledTo (b c : Blocks) : Prop :=
  ∃ (angle : Nat) (distance : Int) (registered : Bool),
    (b.shaft.sound → angle ≤ 1439 ∧ -1439 ≤ distance ∧ distance ≤ 1441)
      ∧ (b.movedTo angle distance registered).Settled c

theorem reverseSample_sampled (mark : Bool) (b : Blocks) : b.SampledTo (reverseSample mark b) := by
  unfold reverseSample
  cases mark
  · refine ⟨b.shaft.countReverse.angle, b.shaft.countReverse.distance, b.shaft.registered,
      fun hs => hs.countReverse_bounds, ?_⟩
    simp only [Bool.false_eq_true, if_false]
    split
    · exact registrationFault_settled _
    · exact .refl _
  · refine ⟨1439, 1439, b.shaft.registered, fun _ => by omega, ?_⟩
    simp only [if_true]
    split
    · exact registrationFault_settled _
    · exact .refl _

theorem forwardCount_sampled (station : Station) (b : Blocks) : b.SampledTo (forwardCount station b) := by
  unfold forwardCount
  dsimp only
  split
  · exact ⟨b.shaft.countForward.angle, b.shaft.countForward.distance, false, fun hs => hs.countForward_bounds,
      registrationFault_settled _⟩
  · refine ⟨b.shaft.countForward.angle, b.shaft.countForward.distance, b.shaft.registered,
      fun hs => hs.countForward_bounds, ?_⟩
    split
    · exact (sampleWindows_settled _ _).trans (takePark_settled _)
    · exact .refl _

theorem forwardCrossing_sampled (station : Station) (b : Blocks) : b.SampledTo (forwardCrossing station b) := by
  refine ⟨0, 0, true, fun _ => by omega, ?_⟩
  unfold forwardCrossing
  dsimp only
  split
  · exact registrationFault_settled _
  · split
    · exact crossDriven_settled _ _ _
    · exact .refl _

/-- R1 to R9. -/
theorem encoderSample_sampled (forward mark : Bool) (station : Station) (b : Blocks) :
    b.SampledTo (encoderSample forward mark station b) := by
  unfold encoderSample
  cases forward
  · exact reverseSample_sampled mark b
  · cases mark
    · exact forwardCount_sampled station b
    · exact forwardCrossing_sampled station b

theorem Blocks.movedTo_sound {angle : Nat} {distance : Int} {registered : Bool} (h : b.shaft.sound)
    (hb : angle ≤ 1439 ∧ -1439 ≤ distance ∧ distance ≤ 1441) : (b.movedTo angle distance registered).shaft.sound := by
  obtain ⟨-, -, -, hd, hl, ho⟩ := h
  exact ⟨hb.1, hb.2.1, hb.2.2, hd, hl, ho⟩

theorem Blocks.SampledTo.sound {c : Blocks} (h : b.SampledTo c) (hs : b.shaft.sound) : c.shaft.sound := by
  obtain ⟨_, _, _, bounds, settled⟩ := h
  exact settled.steady.sound (Blocks.movedTo_sound hs (bounds hs))

theorem Blocks.SampledTo.heeded {c : Blocks} (h : b.SampledTo c) (hh : b.demandHeeded) : c.demandHeeded := by
  obtain ⟨_, _, _, -, settled⟩ := h
  exact settled.heeded hh

theorem Blocks.SampledTo.settings {c : Blocks} (h : b.SampledTo c) : c.settings = b.settings := by
  obtain ⟨_, _, _, -, settled⟩ := h
  exact settled.steady.settings

end Sys2Proof.Machine

end

section
/-! # Sensors, drives, bank replies and the operations of the records -/

namespace Sys2Proof.Machine

set_option Elab.async false

variable {a b : Blocks}

/-! ## Events outside the encoder samples -/

theorem measureTrip_settled (ticks : Nat) (b : Blocks) : b.Settled (measureTrip ticks b) := by
  unfold measureTrip
  split
  · exact .refl b
  · exact endPhase_settled _ _ _ b

theorem phaseLimit_settled (b : Blocks) : b.Settled (phaseLimit b) := by
  unfold phaseLimit
  split
  · exact .refl b
  · dsimp only
    split
    · exact .refl b
    · exact endPhase_settled _ _ _ b

theorem gateLeaves_settled (b : Blocks) : b.Settled (gateLeaves b) := by
  unfold gateLeaves
  split
  · exact (onChain_steady (.refl b) _).settled rfl rfl
  · exact .refl b

theorem gateReturns_settled (b : Blocks) : b.Settled (gateReturns b) := by
  unfold gateReturns
  split
  · exact .refl b
  · split
    · exact conclude_settled (depart_steady (onChain_steady (.refl b) _) _ _)
    · exact .refl b

theorem chainPulse_settled (b : Blocks) : b.Settled (chainPulse b) := by
  unfold chainPulse
  split
  · exact (onChain_steady (.refl b) _).settled rfl rfl
  · exact occur_settled b _ _

theorem stripPulse_settled (b : Blocks) : b.Settled (stripPulse b) := by
  unfold stripPulse
  split
  · exact .refl b
  · exact conclude_settled (depart_steady (onChain_steady (.refl b) _) _ _)

theorem seeInWindow_settled (w : Window) (f : InsertionRecord → InsertionRecord) (b : Blocks) :
    b.Settled (seeInWindow w f b) := by
  unfold seeInWindow
  split
  · exact onRecord_settled b f
  · exact .refl b

theorem clearAwaited_settled (b : Blocks) : b.Settled (clearAwaited b) := by
  unfold clearAwaited
  exact ((onHead_steady (.refl b) _).settled rfl rfl).trans (releaseLock_settled _)

theorem headUpRises_settled (b : Blocks) : b.Settled (headUpRises b) := by
  have seen : b.Settled (if b.shaft.isOpen .retract then seeUp b else b) := by
    split
    · exact seeUp_settled b
    · exact .refl b
  refine seen.trans ?_
  unfold headUpRises
  dsimp only
  generalize (if b.shaft.isOpen .retract then seeUp b else b) = c
  split
  · exact clearAwaited_settled c
  · exact .refl c

theorem dwellJudgment_settled (b : Blocks) : b.Settled (dwellJudgment b) := by
  unfold dwellJudgment
  split
  · exact reactRise_settled (waitAtHead_steady (takeOffer_steady (.refl b)) _)
  · exact .refl b

theorem takeSample_settled (n : Nat) (x y : Int) (stage : Stage) (b : Blocks) :
    b.Settled (takeSample n x y stage b) := by
  unfold takeSample
  split
  · exact (onPositioner_steady (.refl b) _).settled rfl rfl
  · dsimp only
    exact reactRise_settled (judgeSlip_steady (onPositioner_steady (.refl b) _) _)

theorem reportSilence_steady (h : a.Steady b) (t : Target) : a.Steady (reportSilence t b) := by
  unfold reportSilence
  split
  · exact h
  · exact raise_steady (onPositioner_steady h _) _ _

theorem driveSilent_settled (b : Blocks) : b.Settled (driveSilent b) := by
  unfold driveSilent
  split
  · exact .refl b
  · dsimp only
    exact reactRise_settled (reportSilence_steady (judgeSlip_steady (onPositioner_steady (.refl b) _) _) _)

theorem resendTarget_settled (b : Blocks) : b.Settled (resendTarget b) := by
  unfold resendTarget
  split
  · exact .refl b
  · exact (emit_steady (.refl b) _).settled rfl rfl

theorem spanRises_settled (w : Bool) (b : Blocks) : b.Settled (spanRises w b) := by
  unfold spanRises
  refine (onPositioner_steady (.refl b) _ ?_ ?_).settled rfl rfl <;> intro p <;> split <;> rfl

theorem profileRises_settled (w : Bool) (b : Blocks) : b.Settled (profileRises w b) := by
  unfold profileRises
  refine (onHead_steady (.refl b) _ ?_ ?_).settled rfl rfl <;> intro p <;> split <;> rfl

theorem pollBanks_settled (b : Blocks) : b.Settled (pollBanks b) := by
  unfold pollBanks
  split
  · exact .refl b
  · exact (emit_steady (onSource_steady (.refl b) _) _).settled rfl rfl

theorem judgeHome_steady (h : a.Steady b) (bank : Nat) (home : BitVec 8) (f : FireFrame) :
    a.Steady (judgeHome bank home f b) := by
  unfold judgeHome
  split
  · exact h
  · split
    · exact h
    · exact settleDispensers_steady (jam_steady (raise_steady h _ _) _) _ _

theorem takeHome_steady (h : a.Steady b) (bank frame : Nat) (home : BitVec 8) :
    a.Steady (takeHome bank frame home b) := by
  unfold takeHome
  split
  · exact h
  · split
    · exact judgeHome_steady (onSource_steady h _) _ _ _
    · exact h

theorem takeEmptySense_steady (h : a.Steady b) (d : Nat) : a.Steady (takeEmptySense d b) := by
  unfold takeEmptySense
  split
  · exact settleDispensers_steady (reportOut_steady (onDispenser_steady h _ _) _) _ _
  · exact h

theorem takePress_steady (h : a.Steady b) (d : Nat) : a.Steady (takePress d b) := by
  have detached : a.Steady ((refill d .proving b).onChain fun c => { c with slots := c.slots.map (detachFrom d) }) :=
    onChain_steady (refill_steady h _ _) _
  unfold takePress
  dsimp only
  split
  · refine planIf_steady (settleGain_steady ?_ _ _) _
    split
    · exact cancelFrom_steady detached _
    · exact detached
  · exact h

theorem takePosition_steady (h : a.Steady b) (bank : Nat) (loaded empties : BitVec 8) (p : Nat) :
    a.Steady (takePosition bank loaded empties b p) := by
  have reported : a.Steady (if empties.getLsbD p then takeEmptySense (bank * 8 + p) b else b) := by
    split
    · exact takeEmptySense_steady h _
    · exact h
  unfold takePosition
  dsimp only
  split
  · exact takePress_steady reported _
  · exact reported

theorem takeReply_settled (bank frame : Nat) (home loaded empties : BitVec 8) (b : Blocks) :
    b.Settled (takeReply bank frame home loaded empties b) := by
  unfold takeReply
  exact reactRise_settled (foldl_steady _ (fun _ p h => takePosition_steady h _ _ _ p) _
    (takeHome_steady (.refl b) _ _ _))

theorem conditionAppears_settled {code : Nat} (hc : code < 32) (b : Blocks) : b.Settled (conditionAppears code b) := by
  unfold conditionAppears
  exact concludeDemand_settled (appear_steady (.refl b) hc)

theorem stopAppears_settled (b : Blocks) : b.Settled (stopAppears b) := by
  unfold stopAppears
  exact (conditionAppears_settled (by decide) b).then (onHead_steady (.refl _) _) (by simp) (by simp)

theorem haltedTick_settled (b : Blocks) : b.Settled (haltedTick b) := by
  unfold haltedTick
  split
  · exact (onCounters_steady (.refl b) _).settled rfl rfl
  · exact .refl b

theorem closeBoard_settled (b : Blocks) : b.Settled (closeBoard b) := by
  unfold closeBoard
  exact ((onBoard_steady (.refl b) _).settled rfl rfl).trans (settleWaiting_settled _)

/-! ## Records -/

theorem settleAccepted_settled (f : StepFields) (b : Blocks) : b.Settled (settleAccepted f b) := by
  unfold settleAccepted
  dsimp only
  split
  · exact (resolveBadImage_steady (.refl b) _).settled (by simp) (by simp)
  · split
    · exact ((onStep_steady (.refl b) _ _).settled rfl rfl).trans (planningEvent_settled _)
    · exact (resolve_steady (onStep_steady (.refl b) _ _) _ _).settled (by simp) (by simp)

theorem deselect_steady (h : a.Steady b) (n : Nat) : a.Steady (deselect n b) := by
  unfold deselect
  split
  · exact h
  · split
    · split
      · exact choose_steady (onStep_steady (setSlot_steady h _ _) _ _)
      · exact h
    · exact h

theorem flagBadImage_steady (h : a.Steady b) (n : Nat) : a.Steady (flagBadImage n b) := onStep_steady h _ _

theorem dropStep_steady {acc : Blocks × Bool} (h : a.Steady acc.1) (c : StepContext) : a.Steady (dropStep acc c).1 := by
  unfold dropStep
  split
  · exact resolveBadImage_steady h _
  · exact resolveBadImage_steady (cancelStep_steady h _) _
  · exact deselect_steady (flagBadImage_steady h _) _
  · exact deselect_steady (flagBadImage_steady h _) _
  · exact deselect_steady (flagBadImage_steady h _) _
  · exact flagBadImage_steady h _
  · exact flagBadImage_steady h _
  · exact flagBadImage_steady h _
  · exact h

/-- A fold over blocks and a flag, each step of which acts by the blocks' own rules. -/
theorem foldl_fst_steady {α : Type} (f : Blocks × Bool → α → Blocks × Bool)
    (hf : ∀ acc x, a.Steady acc.1 → a.Steady (f acc x).1) (l : List α) {acc : Blocks × Bool} (h : a.Steady acc.1) :
    a.Steady (l.foldl f acc).1 := by
  induction l generalizing acc with
  | nil => exact h
  | cons x l ih => exact ih (hf _ _ h)

theorem dropImage_steady (h : a.Steady b) (image : Nat) : a.Steady (dropImage image b).1 := by
  unfold dropImage
  dsimp only
  have purged := settlePurge_steady (foldl_fst_steady dropStep (fun _ c h => dropStep_steady h c)
    (b.board.window.filter fun c => decide (c.image = image)) (acc := (b, false)) h)
  split
  · exact cancelFrom_steady purged _
  · exact purged

theorem orphanStep_steady (h : a.Steady b) (n : Nat) : a.Steady (orphanStep n b) := by
  unfold orphanStep
  split
  · exact h
  · split
    · exact choose_steady (setSlot_steady h _ _)
    · exact h

theorem abortStep_steady {acc : Blocks × Bool} (h : a.Steady acc.1) (c : StepContext) : a.Steady (abortStep acc c).1 := by
  unfold abortStep
  split
  · exact h
  · exact resolve_steady (undoReservation_steady h _) _ _
  · exact resolve_steady (orphanStep_steady h _) _ _
  · exact resolve_steady (orphanStep_steady h _) _ _
  · exact resolve_steady (orphanStep_steady h _) _ _
  · exact resolve_steady (orphanStep_steady h _) _ _
  · exact resolve_steady h _ _
  · exact resolve_steady h _ _
  · exact resolve_steady h _ _

@[simp] theorem orphanStep_shaft (n : Nat) (b : Blocks) : (orphanStep n b).shaft = b.shaft := by
  unfold orphanStep; (repeat' split) <;> simp
@[simp] theorem orphanStep_alarm (n : Nat) (b : Blocks) : (orphanStep n b).alarm = b.alarm := by
  unfold orphanStep; (repeat' split) <;> simp
@[simp] theorem abortStep_shaft (acc : Blocks × Bool) (c : StepContext) : (abortStep acc c).1.shaft = acc.1.shaft := by
  unfold abortStep; split <;> simp
@[simp] theorem abortStep_alarm (acc : Blocks × Bool) (c : StepContext) : (abortStep acc c).1.alarm = acc.1.alarm := by
  unfold abortStep; split <;> simp

theorem abortBoard_settled (b : Blocks) : b.Settled (abortBoard b) := by
  unfold abortBoard
  dsimp only
  refine Blocks.Settled.trans (Blocks.Steady.settled (onBoard_steady ?_ _) ?_ ?_) (planIf_settled _ _)
  · exact foldl_fst_steady abortStep (fun _ c h => abortStep_steady h c) _ (.refl b)
  · exact foldl_leaves (fun r : Blocks × Bool => r.1.alarm) abortStep abortStep_alarm b.board.window (b, false)
  · exact congrArg Shaft.machine
      (foldl_leaves (fun r : Blocks × Bool => r.1.shaft) abortStep abortStep_shaft b.board.window (b, false))

theorem runObjection_none {b : Blocks} (h : runObjection b = none) :
    b.shaft.machine = .stopped ∧ b.board.phase ≠ .none ∧ b.alarm.demand < 3 := by
  unfold runObjection at h
  (repeat' split at h) <;> simp_all

theorem takeRun_settled (h : runObjection b = none) : b.Settled (takeRun b) := by
  obtain ⟨hm, -, hd⟩ := runObjection_none h
  have braked : b.Braked b := (Blocks.Steady.refl b).braked (by rw [hm]; rfl)
  unfold takeRun
  split
  · exact enterWaiting_settled braked hd
  · exact startRunToPark_settled braked rfl hd

theorem setStopPending_settled (b : Blocks) : b.Settled (setStopPending b) := by
  unfold setStopPending
  exact (onShaft_steady (.refl b) _).settled rfl rfl

theorem takeStop_settled (b : Blocks) : b.Settled (takeStop b) := by
  unfold takeStop
  split
  · exact .refl b
  · exact .refl b
  · next hm => exact enterStopped_settled ((Blocks.Steady.refl b).braked (by rw [hm]; rfl))
  · exact setStopPending_settled b
  · exact setStopPending_settled b
  · exact setStopPending_settled b
  · split
    · exact setStopPending_settled b
    · exact enterStopped_settled (brake_braked (.refl b))

theorem markOperator_steady (h : a.Steady b) (n : Nat) : a.Steady (markOperator n b) := onStep_steady h _ _

theorem decideUncertain_settled (choice : ResumeChoice) (b : Blocks) : b.Settled (decideUncertain choice b) := by
  unfold decideUncertain
  split
  · exact .refl b
  · split
    · exact conclude_settled (returnStep_steady (.refl b) _ _)
    · exact conclude_settled (reportInsert_steady (resolve_steady (markOperator_steady (.refl b) _) _ _) _)
    · exact conclude_settled (reportMisinsert_steady (resolve_steady (markOperator_steady (.refl b) _) _ _) _)

theorem releaseAtResume_settled (headUp : Bool) (b : Blocks) : b.Settled (releaseAtResume headUp b) := by
  unfold releaseAtResume
  split
  · exact clearAwaited_settled b
  · exact .refl b

theorem leaveHalted_settled (purge : Bool) (hm : b.shaft.machine.turning = false) : b.Settled (leaveHalted purge b) := by
  have braked : b.Braked b := (Blocks.Steady.refl b).braked hm
  unfold leaveHalted
  split
  · exact .refl b
  · next hd =>
    have low : b.alarm.demand < 3 := by omega
    split
    · split
      · exact purgeFromHalt_settled braked low
      · exact (enterWaiting_settled braked low).trans (planningEvent_settled _)
    · have asked : b.Braked (b.onShaft fun s => { s with purgeRequested := purge }) :=
        (onShaft_steady (.refl b) _).braked hm
      have recovers := startRunToPark_settled asked (m := .recovering) rfl low
      exact recovers.then (noteBlocked_steady (.refl _)) (by simp) (by simp)

end Sys2Proof.Machine

end

section
/-! # Keys, requests, records of the link and the link reset -/

namespace Sys2Proof.Machine

set_option Elab.async false

variable {a b : Blocks}

/-! ## A machine at rest (Table 1-6) -/

/-- R16, R17: in STOPPED and HALTED a rise of the demand asks nothing of the shaft. -/
theorem reactRise_resting (hm : b.shaft.machine = .stopped ∨ b.shaft.machine = .halted) (before : Alarm) :
    reactRise before b = if before.demand < 2 ∧ 2 ≤ b.alarm.demand then holdOnset b else b := by
  have now : ∀ c : Blocks, c.shaft = b.shaft → stopNow c = c ∧ stopAtPark c = c := by
    intro c hc
    rcases hm with h | h <;> simp [stopNow, stopAtPark, hc, h]
  have held := now (holdOnset b) (holdOnset_shaft b)
  have same := now b rfl
  unfold reactRise
  dsimp only
  split_ifs <;> simp only [held, same]

@[simp] theorem setStopCause_shaft (c : StopCause) (b : Blocks) : (setStopCause c b).shaft = b.shaft := rfl

/-- R60: a HALTED machine plans nothing. -/
theorem planningEvent_halted (hm : b.shaft.machine = .halted) : ∃ c, planningEvent b = setStopCause c b := by
  unfold planningEvent Blocks.blockedBy
  by_cases hd : 2 ≤ b.alarm.demand
  · exact ⟨.held, by simp [hd]⟩
  · exact ⟨.machine, by simp [hd, hm]⟩

theorem reactRise_resting_shaft (hm : b.shaft.machine = .stopped ∨ b.shaft.machine = .halted) (before : Alarm) :
    (reactRise before b).shaft = b.shaft := by
  rw [reactRise_resting hm]; split <;> simp

theorem reactRise_resting_alarm (hm : b.shaft.machine = .stopped ∨ b.shaft.machine = .halted) (before : Alarm) :
    (reactRise before b).alarm = b.alarm := by
  rw [reactRise_resting hm]; split <;> simp

theorem planIf_halted_shaft (hm : b.shaft.machine = .halted) (due : Bool) : (planIf due b).shaft = b.shaft := by
  unfold planIf
  split
  · obtain ⟨c, e⟩ := planningEvent_halted hm
    rw [e, setStopCause_shaft]
  · rfl

/-- The end of an event that a HALTED machine takes leaves the shaft. -/
theorem conclude_halted_shaft {r : Blocks × Bool} (hm : r.1.shaft.machine = .halted) (a : Blocks) :
    (conclude a r).shaft = r.1.shaft := by
  have e := reactRise_resting_shaft (.inr hm) a.alarm
  unfold conclude
  rw [orderReports_shaft, planIf_halted_shaft (by rw [e]; exact hm), e]

@[simp] theorem markOperator_shaft (n : Nat) (b : Blocks) : (markOperator n b).shaft = b.shaft := rfl

/-- R155: the decision of the UNCERTAIN step leaves the shaft of a HALTED machine. -/
theorem decideUncertain_shaft (choice : ResumeChoice) (hm : b.shaft.machine = .halted) :
    (decideUncertain choice b).shaft = b.shaft := by
  unfold decideUncertain
  split
  · rfl
  · split <;> rw [conclude_halted_shaft] <;> simp [hm]

@[simp] theorem clearAwaited_shaft (b : Blocks) : (clearAwaited b).shaft = b.shaft := by simp [clearAwaited]

@[simp] theorem releaseAtResume_shaft (headUp : Bool) (b : Blocks) : (releaseAtResume headUp b).shaft = b.shaft := by
  unfold releaseAtResume; split <;> simp

theorem resumeObjection_none {purge : Bool} (h : resumeObjection purge b = none) : b.shaft.machine = .halted := by
  unfold resumeObjection at h
  by_contra hm
  simp [hm] at h

theorem takeResume_settled {purge : Bool} (headUp : Bool) (choice : ResumeChoice)
    (h : resumeObjection purge b = none) : b.Settled (takeResume headUp choice purge b) := by
  have hm := resumeObjection_none h
  refine ((decideUncertain_settled choice b).trans (releaseAtResume_settled headUp _)).trans (leaveHalted_settled _ ?_)
  rw [releaseAtResume_shaft, decideUncertain_shaft _ hm, hm]
  rfl

theorem purgeObjection_none (h : purgeObjection b = none) :
    (b.shaft.machine = .stopped ∨ b.shaft.machine = .waiting) ∧ b.alarm.demand < 3 := by
  unfold purgeObjection at h
  split at h
  · simp at h
  · next hm =>
    split at h
    · simp at h
    · exact ⟨by simpa [or_iff_not_imp_left] using hm, by omega⟩

theorem purgeStart_settled_of_objection (h : purgeObjection b = none) : b.Settled (purgeStart b) := by
  obtain ⟨hm, hd⟩ := purgeObjection_none h
  refine purgeStart_settled hd ?_
  rcases hm with hm | hm <;> rw [hm] <;> rfl

theorem keyRequest_settled {o : Objection} {take : Blocks → Blocks} (h : o = none → b.Settled (take b)) :
    b.Settled (keyRequest o take b) := by
  cases o
  · exact h rfl
  · exact .refl b

theorem resumeByKey_settled (headUp purge : Bool) (b : Blocks) : b.Settled (resumeByKey headUp purge b) :=
  keyRequest_settled fun h => takeResume_settled _ _ h

theorem startKey_settled (headUp : Bool) (b : Blocks) : b.Settled (startKey headUp b) := by
  unfold startKey
  split
  · exact keyRequest_settled takeRun_settled
  · exact resumeByKey_settled _ _ b
  all_goals exact .refl b

theorem purgeKey_settled (headUp : Bool) (b : Blocks) : b.Settled (purgeKey headUp b) := by
  unfold purgeKey
  split
  · exact keyRequest_settled purgeStart_settled_of_objection
  · exact keyRequest_settled purgeStart_settled_of_objection
  · exact resumeByKey_settled _ _ b
  all_goals exact .refl b

/-! ## Commands -/

/-- What a command that moves no shaft and loads no table keeps: the position, the loaded fields, the soundness of the shaft and
the heed of the demand. The demand may have fallen. -/
structure Blocks.Obeys (a b : Blocks) : Prop where
  position : b.shaft.position = a.shaft.position
  settings : b.settings = a.settings
  sound : a.shaft.sound → b.shaft.sound
  heeded : a.demandHeeded → b.demandHeeded

theorem Blocks.Settled.obeys (h : a.Settled b) : a.Obeys b :=
  ⟨h.steady.position, h.steady.settings, h.steady.sound, h.heeded⟩

theorem Blocks.Obeys.refl (a : Blocks) : a.Obeys a := (Blocks.Settled.refl a).obeys

theorem Blocks.Obeys.trans {c : Blocks} (h : a.Obeys b) (h' : b.Obeys c) : a.Obeys c :=
  ⟨h'.position.trans h.position, h'.settings.trans h.settings, h'.sound ∘ h.sound, h'.heeded ∘ h.heeded⟩

/-- R144: the end of an event that changed the alarm table alone, the demand having risen or fallen. -/
theorem concludeDemand_heeded {before : Alarm} (h : b.shaft.machine.heeds before.demand) :
    (concludeDemand before b).demandHeeded :=
  (planIf_settled _ _).heeded (reactRise_heeds h)

theorem concludeDemand_steady (h : a.Steady b) (before : Alarm) : a.Steady (concludeDemand before b) :=
  planIf_steady (reactRise_steady h _) _

/-- R139, R140: a change of the alarm table that keeps the classes, and what it brings. -/
theorem concludeDemand_obeys (f : Alarm → Alarm)
    (hc : (f b.alarm).codes.map AlarmEntry.cls = b.alarm.codes.map AlarmEntry.cls) :
    b.Obeys (concludeDemand b.alarm (b.onAlarm f)) := by
  have steady := concludeDemand_steady (.refl (b.onAlarm f)) b.alarm
  refine ⟨steady.position, steady.settings.trans ?_, steady.sound, fun hh => concludeDemand_heeded hh⟩
  simp [Blocks.settings, hc]

theorem conditionClears_obeys (code : Nat) (b : Blocks) : b.Obeys (conditionClears code b) :=
  concludeDemand_obeys _ (Alarm.clear_classes _ _)

theorem stopClears_obeys (b : Blocks) : b.Obeys (stopClears b) :=
  Blocks.Obeys.trans ((onHead_steady (.refl b) _).settled rfl rfl).obeys (conditionClears_obeys 0 _)

theorem acknowledge_obeys (code : Nat) (b : Blocks) : b.Obeys (acknowledge code b) :=
  concludeDemand_obeys _ (Alarm.acknowledge_classes _ _)

theorem ackKey_obeys (b : Blocks) : b.Obeys (ackKey b) := by
  unfold ackKey
  split
  · exact .refl b
  · exact acknowledge_obeys _ b

/-! ### Answers to records -/

/-- The blocks that an owner's answer leaves. -/
def Answer.blocks : Answer → Blocks
  | .refuse _ _ b => b
  | .accept b => b
  | .reply _ b => b

@[simp] theorem Answer.give_blocks (x : Answer) (type : Byte) (s : State) : (x.give type s).blocks = x.blocks := by
  cases x <;> rfl

/-- R180, R181: after a dispatched row the blocks are as they were, or as the owner's answer leaves them. -/
theorem answerRow_blocks {row : Row} {n : Nat} {f : List Byte → Blocks → Answer} {s t : State}
    (h : answerRow row n f s = .next t) :
    t.blocks = s.blocks ∨ ∃ p : List Byte, p.length = n ∧ t.blocks = (f p s.blocks).blocks := by
  obtain rfl : _ = t := Host.Outcome.next.inj h
  rcases takeRow_cases row _ s with e | ⟨p, -, -, e⟩ <;> rw [e]
  · exact .inl rfl
  · split
    · next hl => exact .inr ⟨_, hl, by simp [State.without]⟩
    · exact .inl (by simp [Answer.blocks, State.without])

theorem answerRow_obeys {row : Row} {n : Nat} {f : List Byte → Blocks → Answer} {s t : State}
    (hf : ∀ p (b : Blocks), b.Obeys (f p b).blocks) (h : answerRow row n f s = .next t) : s.blocks.Obeys t.blocks := by
  rcases answerRow_blocks h with e | ⟨p, -, e⟩ <;> rw [e]
  · exact .refl _
  · exact hf p _

theorem onlyBlocks_obeys {f : Blocks → Blocks} {s t : State} (hf : ∀ b : Blocks, b.Settled (f b))
    (h : onlyBlocks f s = .next t) : s.blocks.Obeys t.blocks := by
  obtain rfl : _ = t := Host.Outcome.next.inj h
  exact (hf s.blocks).obeys

theorem answerRequest_obeys {o : Objection} {take : Blocks → Blocks} (h : o = none → b.Settled (take b)) :
    b.Obeys (answerRequest o take b).blocks := by
  cases o
  · exact (h rfl).obeys
  · exact .refl b

theorem discard_obeys (e : LinkError) (s : State) : s.blocks.Obeys (discard e s).blocks := by
  unfold discard
  rw [State.onBlocks_blocks, State.onLink_blocks]
  exact (occur_settled s.blocks 27 ⟨none, none, none⟩).obeys

theorem completeRecord_obeys (s : State) : s.blocks.Obeys (completeRecord s).blocks := by
  unfold completeRecord
  dsimp only
  split
  · split
    · exact .refl _
    · exact discard_obeys _ s
  · split
    · exact discard_obeys _ s
    · exact .refl _

theorem receiveByte_obeys (x : Byte) (stopBit : Bool) (s : State) : s.blocks.Obeys (receiveByte x stopBit s).blocks := by
  unfold receiveByte
  split
  · unfold huntByte; split <;> exact .refl _
  · exact .refl _
  · exact discard_obeys _ s
  · exact .refl _
  · unfold lengthByte
    split
    · exact discard_obeys _ s
    · exact .refl _
  · exact .refl _
  · unfold checkByte
    split
    · exact .refl _
    · split
      · exact completeRecord_obeys s
      · exact discard_obeys _ s

theorem gapTimeout_obeys (s : State) : s.blocks.Obeys (gapTimeout s).blocks := by
  unfold gapTimeout
  split
  · exact .refl _
  · exact discard_obeys _ s

theorem startSend_obeys (s : State) : s.blocks.Obeys (startSend s).blocks := by
  unfold startSend
  split
  · exact .refl _
  · split
    · exact ((emit_steady (.refl s.blocks) _).settled rfl rfl).obeys
    · exact .refl _

theorem placeStepResult_obeys (s : State) : s.blocks.Obeys (placeStepResult s).blocks := by
  unfold placeStepResult
  split
  · exact .refl _
  · split
    · exact .refl _
    · split
      · rw [State.onBlocks_blocks, place_blocks]
        exact ((onBoard_steady (.refl s.blocks) _).settled rfl rfl).obeys
      · exact .refl _

theorem placeBoardResult_obeys (s : State) : s.blocks.Obeys (placeBoardResult s).blocks := by
  unfold placeBoardResult
  split
  · exact (closeBoard_settled s.blocks).obeys
  · exact .refl _

/-- R147: a notice placed leaves every code's class and state. -/
theorem noticePlaced_look (c : Alarm) (code other : Nat) :
    (look (c.noticePlaced code).codes other).cls = (look c.codes other).cls
      ∧ (look (c.noticePlaced code).codes other).state = (look c.codes other).state := by
  unfold Alarm.noticePlaced
  by_cases h : code = other
  · subst h
    by_cases hc : code < 32
    · simp [hc]
    · simp [adjust, put_of_le _ _ (Nat.le_of_not_lt hc)]
  · simp [look_adjust_of_ne _ _ h]

theorem noticePlaced_demand (c : Alarm) (code : Nat) : (c.noticePlaced code).demand = c.demand := by
  have level : ∀ other, (c.noticePlaced code).levelOf other = c.levelOf other := fun other => by
    simp [Alarm.levelOf, AlarmEntry.standing, noticePlaced_look c code other]
  simp [Alarm.demand, level]

theorem placeNotice_obeys (s : State) : s.blocks.Obeys (placeNotice s).blocks := by
  unfold placeNotice
  split
  · exact .refl _
  · next code _ _ =>
    split
    · refine ⟨rfl, ?_, id, fun hh => ?_⟩
      · simp [Blocks.settings, Alarm.noticePlaced, map_adjust AlarmEntry.cls]
      · rw [demandHeeded_iff] at hh ⊢
        simpa [noticePlaced_demand] using hh
    · exact .refl _

/-! ### Link reset (R165) -/

theorem sampleLevels_classes (l : List Nat) (c : Alarm) :
    (l.foldl (fun c code => c.appear code) c).codes.map AlarmEntry.cls = c.codes.map AlarmEntry.cls :=
  foldl_leaves (fun c : Alarm => c.codes.map AlarmEntry.cls) _ (fun c code => Alarm.appear_classes c code) l c

/-- R18, R165: a link reset leaves the shaft's position and every loaded field. -/
theorem resetBlocks_obeys (levels : LevelLines) (b : Blocks) : b.Obeys (sampleLevels levels b.linkReset) := by
  refine ⟨rfl, ?_, fun hs => ?_, fun _ => MachineState.stopped_heeds _⟩
  · have kinds : b.source.linkReset.settings = b.source.settings := by
      simp [Source.settings, Source.linkReset, map_map_of_keeps KindEntry.entry,
        map_map_of_keeps Dispenser.loadedFields _ Dispenser.linkReset fun _ => rfl]
    have classes : b.alarm.linkReset.codes.map AlarmEntry.cls = b.alarm.codes.map AlarmEntry.cls :=
      map_map_of_keeps _ _ _ fun _ => rfl
    simp only [Blocks.settings, sampleLevels, Blocks.onAlarm, Blocks.linkReset, sampleLevels_classes, kinds, classes]
    rfl
  · obtain ⟨ha, hn, hx, -, -, -⟩ := hs
    exact Shaft.parked.sound ⟨ha, hn, hx, rfl, rfl, fun w => Shaft.isOpen_of_replicate rfl w⟩ rfl

theorem linkReset_obeys {s t : State} (h : execLinkReset s = .next t) : s.blocks.Obeys t.blocks := by
  obtain rfl : _ = t := Host.Outcome.next.inj h
  split
  · exact .refl _
  · split
    · unfold resetBy
      split
      · exact resetBlocks_obeys _ _
      · simpa [Answer.blocks] using Blocks.Obeys.refl s.blocks
    · exact .refl _

end Sys2Proof.Machine

end

section
/-! # Every step: the shaft stays sound, the demand heeded, and samples alone move the angle -/

namespace Sys2Proof.Machine

set_option Elab.async false

variable {a b : Blocks}

/-! ### Timebase -/

theorem tickReceiver_obeys (s : State) : s.blocks.Obeys (tickReceiver s).blocks := by
  unfold tickReceiver
  split
  · exact .refl _
  · split
    · exact gapTimeout_obeys s
    · exact .refl _

theorem tickSilence_settled (b : Blocks) : b.Settled (tickSilence b) := by
  unfold tickSilence
  split
  · exact .refl b
  · split
    · exact driveSilent_settled b
    · exact (onPositioner_steady (.refl b) _).settled rfl rfl

theorem tickUnmatched_settled (b : Blocks) : b.Settled (tickUnmatched b) := by
  unfold tickUnmatched
  split
  · exact .refl b
  · exact (onPositioner_steady (.refl b) _).settled rfl rfl

theorem tickMark_settled (b : Blocks) : b.Settled (tickMark b) := by
  unfold tickMark resendIfDue
  split
  · refine Blocks.Settled.trans ?_ (pollBanks_settled _)
    split
    · exact resendTarget_settled b
    · exact .refl b
  · exact .refl b

theorem tickTime_settled (b : Blocks) : b.Settled (tickTime b) := ⟨⟨rfl, rfl, id, le_rfl, fun _ _ => id⟩, id⟩

theorem tickBlocks_settled (b : Blocks) : b.Settled (tickBlocks b) :=
  ((((tickTime_settled b).trans (haltedTick_settled _)).trans (tickSilence_settled _)).trans
    (tickUnmatched_settled _)).trans (tickMark_settled _)

theorem tick_obeys (s : State) : s.blocks.Obeys (tick s).blocks := by
  unfold tick
  exact (tickBlocks_settled s.blocks).obeys.trans (tickReceiver_obeys (s.onBlocks tickBlocks))

@[simp] theorem Answer.blocks_accept (c : Blocks) : (Answer.accept c).blocks = c := rfl
@[simp] theorem Answer.blocks_refuse (r : RefusalReason) (d : Detail) (c : Blocks) : (Answer.refuse r d c).blocks = c := rfl

theorem accept_obeys {c : Blocks} (h : b.Obeys c) : b.Obeys (Answer.accept c).blocks := h

/-! ### LOADs (R4, R37 to R41, R79, R102, R103, R120, R137, R167, R183) -/

/-- What every LOAD keeps: the shaft's position and soundness, and the heed of the demand. -/
structure Blocks.Holds (a b : Blocks) : Prop where
  position : b.shaft.position = a.shaft.position
  sound : a.shaft.sound → b.shaft.sound
  heeded : a.demandHeeded → b.demandHeeded

theorem Blocks.Obeys.holds (h : a.Obeys b) : a.Holds b := ⟨h.position, h.sound, h.heeded⟩

theorem Blocks.Holds.refl (a : Blocks) : a.Holds a := (Blocks.Obeys.refl a).holds

/-- A LOAD that leaves the shaft and the alarm table. -/
theorem Blocks.Holds.of_same (hs : b.shaft = a.shaft) (ha : b.alarm = a.alarm) : a.Holds b :=
  ⟨by rw [hs], by rw [hs]; exact id, by rw [demandHeeded_iff, demandHeeded_iff, hs, ha]; exact id⟩

theorem takeLoadCam_loads (p : List Byte) (b : Blocks) :
    b.Holds (takeLoadCam p b).blocks ∧ ∃ x, (takeLoadCam p b).blocks.settings = { b.settings with cam := x } := by
  unfold takeLoadCam
  split
  · exact ⟨.refl b, _, rfl⟩
  · split
    · exact ⟨.refl b, _, rfl⟩
    · exact ⟨⟨rfl, id, id⟩, _, rfl⟩

theorem takeLoadGeometry_loads (p : List Byte) (b : Blocks) :
    b.Holds (takeLoadGeometry p b).blocks
      ∧ ∃ x, (takeLoadGeometry p b).blocks.settings = { b.settings with geometry := x } := by
  unfold takeLoadGeometry
  dsimp only
  split_ifs
  · exact ⟨.refl b, _, rfl⟩
  · exact ⟨.refl b, _, rfl⟩
  · exact ⟨.refl b, _, rfl⟩
  · exact ⟨.refl b, _, rfl⟩
  · exact ⟨.refl b, _, rfl⟩
  · exact ⟨.of_same rfl rfl, _, rfl⟩

theorem takeLoadKind_loads (p : List Byte) (b : Blocks) :
    b.Holds (takeLoadKind p b).blocks
      ∧ ∃ x, (takeLoadKind p b).blocks.settings = { b.settings with kinds := x } := by
  have taken : ∀ e, b.Holds (b.onSource fun s => { s with kinds := put s.kinds (byteAt p 1) e })
      ∧ ∃ x, (b.onSource fun s => { s with kinds := put s.kinds (byteAt p 1) e }).settings
          = { b.settings with kinds := x } := fun e => ⟨.of_same rfl rfl, _, rfl⟩
  unfold takeLoadKind
  extract_lets id fields take
  split
  · exact ⟨.refl b, _, rfl⟩
  · split
    · split
      · exact ⟨.refl b, _, rfl⟩
      · split
        · exact ⟨.refl b, _, rfl⟩
        · exact taken _
    · exact taken _

theorem loadDispenser_loads (id : Nat) (p : List Byte) (b : Blocks) :
    b.Holds (loadDispenser id p b)
      ∧ ∃ x, (loadDispenser id p b).settings = { b.settings with dispensers := x } := by
  have loaded : (b.onDispenser id fun e => e.load p).Settled (loadDispenser id p b) :=
    conclude_settled (settleDispenser_steady (refill_steady (.refl _) _ _) _ _)
  exact ⟨⟨loaded.steady.position, loaded.steady.sound, loaded.heeded⟩, _, loaded.steady.settings⟩

theorem takeLoadDispenser_loads (p : List Byte) (b : Blocks) :
    b.Holds (takeLoadDispenser p b).blocks
      ∧ ∃ x, (takeLoadDispenser p b).blocks.settings = { b.settings with dispensers := x } := by
  unfold takeLoadDispenser
  dsimp only
  split
  · exact ⟨.refl b, _, rfl⟩
  · split
    · exact ⟨.refl b, _, rfl⟩
    · split
      · exact ⟨.refl b, _, rfl⟩
      · exact loadDispenser_loads _ _ b

theorem takeLoadBand_loads (p : List Byte) (b : Blocks) :
    b.Holds (takeLoadBand p b).blocks
      ∧ ∃ x, (takeLoadBand p b).blocks.settings = { b.settings with bands := x } := by
  unfold takeLoadBand
  dsimp only
  split_ifs
  · exact ⟨.refl b, _, rfl⟩
  · exact ⟨.refl b, _, rfl⟩
  · exact ⟨.refl b, _, rfl⟩
  · exact ⟨.of_same rfl rfl, _, rfl⟩
  · exact ⟨.of_same rfl rfl, _, rfl⟩

theorem takeLoadImage_loads (p : List Byte) (b : Blocks) :
    b.Holds (takeLoadImage p b).blocks
      ∧ ∃ x, (takeLoadImage p b).blocks.settings = { b.settings with images := x } := by
  unfold takeLoadImage
  dsimp only
  split_ifs
  · exact ⟨.refl b, _, rfl⟩
  · exact ⟨.refl b, _, rfl⟩
  · exact ⟨.refl b, _, rfl⟩
  · exact ⟨.refl b, _, rfl⟩
  · exact ⟨.refl b, _, rfl⟩
  · exact ⟨.of_same rfl rfl, _, rfl⟩

theorem takeLoadTableConfiguration_loads (p : List Byte) (b : Blocks) :
    b.Holds (takeLoadTableConfiguration p b).blocks
      ∧ ∃ x, (takeLoadTableConfiguration p b).blocks.settings = { b.settings with config := x } := by
  unfold takeLoadTableConfiguration
  split
  · exact ⟨.refl b, _, rfl⟩
  · split
    · exact ⟨.refl b, _, rfl⟩
    · split
      · exact ⟨.refl b, _, rfl⟩
      · exact ⟨.of_same rfl rfl, _, rfl⟩

theorem recompare_steady (h : a.Steady b) : a.Steady (recompare b) := by
  unfold recompare
  split
  · exact onHead_steady h _ (fun e => compareProfile_profiles e _) (fun e => compareProfile_dwellLimit e _)
  · exact h

@[simp] theorem recompare_shaft (b : Blocks) : (recompare b).shaft = b.shaft := by unfold recompare; split <;> rfl
@[simp] theorem recompare_alarm (b : Blocks) : (recompare b).alarm = b.alarm := by unfold recompare; split <;> rfl

theorem takeLoadProfile_loads (p : List Byte) (b : Blocks) :
    b.Holds (takeLoadProfile p b).blocks
      ∧ ∃ x, (takeLoadProfile p b).blocks.settings = { b.settings with profiles := x } := by
  unfold takeLoadProfile
  split
  · exact ⟨.refl b, _, rfl⟩
  · exact ⟨.of_same (by simp [Answer.blocks]) (by simp [Answer.blocks]), _,
      (recompare_steady (.refl (b.onHead fun h => { h with profiles := _ }))).settings⟩

theorem setClass_loads (code : Nat) (cls : AlarmClass) (b : Blocks) :
    b.Holds (concludeDemand b.alarm (b.onAlarm fun c => c.setClass code cls))
      ∧ ∃ x, (concludeDemand b.alarm (b.onAlarm fun c => c.setClass code cls)).settings
          = { b.settings with classes := x } := by
  have steady := concludeDemand_steady (.refl (b.onAlarm fun c => c.setClass code cls)) b.alarm
  exact ⟨⟨steady.position, steady.sound, fun hh => concludeDemand_heeded hh⟩, _, steady.settings⟩

theorem takeLoadClass_loads (p : List Byte) (b : Blocks) :
    b.Holds (takeLoadClass p b).blocks
      ∧ ∃ x, (takeLoadClass p b).blocks.settings = { b.settings with classes := x } := by
  unfold takeLoadClass
  dsimp only
  split
  · exact ⟨.refl b, _, rfl⟩
  · split
    · exact ⟨.refl b, _, rfl⟩
    · split
      · exact ⟨.refl b, _, rfl⟩
      · simp only [Answer.blocks_accept]
        exact setClass_loads _ _ b

theorem takeLoadCounter_loads (p : List Byte) (b : Blocks) :
    b.Holds (takeLoadCounter p b).blocks
      ∧ ∃ x, (takeLoadCounter p b).blocks.settings = { b.settings with counters := x } := by
  unfold takeLoadCounter
  split
  · exact ⟨.refl b, _, rfl⟩
  · split
    · exact ⟨.refl b, _, rfl⟩
    · exact ⟨.of_same rfl rfl, _, rfl⟩

theorem takeLoadLimits_loads (p : List Byte) (b : Blocks) :
    b.Holds (takeLoadLimits p b).blocks
      ∧ ∃ m d l r, (takeLoadLimits p b).blocks.settings
          = { b.settings with makeUpLimit := m, dwellLimit := d, shortLimit := l, resumeChoice := r } := by
  unfold takeLoadLimits
  split
  · exact ⟨.refl b, _, _, _, _, rfl⟩
  · split
    · exact ⟨.refl b, _, _, _, _, rfl⟩
    · exact ⟨⟨rfl, id, id⟩, _, _, _, _, rfl⟩

/-- A LOAD record answered, for everything that the owner's answer keeps in every case. -/
theorem answerRow_keeps {row : Row} {n : Nat} {f : List Byte → Blocks → Answer} {s t : State}
    {P : Blocks → Blocks → Prop} (h : answerRow row n f s = .next t) (refl : ∀ c, P c c)
    (hf : ∀ p c, P c (f p c).blocks) : P s.blocks t.blocks := by
  rcases answerRow_blocks h with e | ⟨p, -, e⟩ <;> rw [e]
  · exact refl _
  · exact hf p _

/-! ### Records and lines -/

theorem next_obeys {s u t : State} (h : Host.Outcome.next (φ := Fault) (ρ := Refusal) u = .next t)
    (hu : s.blocks.Obeys u.blocks) : s.blocks.Obeys t.blocks := by
  cases h
  exact hu

theorem positionSample_settled (passed : Bool) (n : Nat) (x y : Int) (stage : Stage) (b : Blocks) :
    b.Settled ((if passed then takeSample n x y stage else id) b) := by
  split
  · exact takeSample_settled _ _ _ _ b
  · exact .refl b

theorem levelInputAsserted_obeys {line : LevelLine} {s t : State} (h : execLevelInputAsserted line s = .next t) :
    s.blocks.Obeys t.blocks := by
  refine next_obeys h ?_
  split
  · exact .refl _
  · have hc : codeOf line < 32 := by cases line <;> decide
    have settled := conditionAppears_settled hc s.blocks
    generalize conditionAppears (codeOf line) s.blocks = c at settled ⊢
    exact settled.obeys

theorem levelInputNegated_obeys {line : LevelLine} {s t : State} (h : execLevelInputNegated line s = .next t) :
    s.blocks.Obeys t.blocks := by
  refine next_obeys h ?_
  split
  · have obeys := conditionClears_obeys (codeOf line) s.blocks
    generalize conditionClears (codeOf line) s.blocks = c at obeys ⊢
    exact obeys
  · exact .refl _

theorem eStopAsserted_obeys {s t : State} (h : execEStopAsserted s = .next t) : s.blocks.Obeys t.blocks := by
  refine next_obeys h ?_
  split
  · exact .refl _
  · have settled := stopAppears_settled s.blocks
    generalize stopAppears s.blocks = c at settled ⊢
    exact settled.obeys

theorem eStopNegated_obeys {s t : State} (h : execEStopNegated s = .next t) : s.blocks.Obeys t.blocks := by
  refine next_obeys h ?_
  split
  · have obeys := stopClears_obeys s.blocks
    generalize stopClears s.blocks = c at obeys ⊢
    exact obeys
  · exact .refl _

theorem takeBoardStart_obeys (p : List Byte) (b : Blocks) : b.Obeys (takeBoardStart p b).blocks := by
  unfold takeBoardStart
  split_ifs
  · exact .refl b
  · exact .refl b
  · exact .refl b
  · exact .refl b
  · split
    · exact .refl b
    · exact accept_obeys ((onBoard_steady (.refl b) _).settled rfl rfl).obeys

theorem takeStep_obeys (p : List Byte) (b : Blocks) : b.Obeys (takeStep p b).blocks := by
  unfold takeStep
  dsimp only
  split
  · exact .refl b
  · exact .refl b
  · split
    · rw [Answer.blocks_refuse]
      exact (occur_settled b _ _).obeys
    · split
      · exact .refl b
      · exact .refl b
      · exact accept_obeys (((onBoard_steady (.refl b) _).settled rfl rfl).trans (settleAccepted_settled _ _)).obeys

theorem takeBoardEnd_obeys (p : List Byte) (b : Blocks) : b.Obeys (takeBoardEnd p b).blocks := by
  unfold takeBoardEnd
  dsimp only
  split
  · exact .refl b
  · exact .refl b
  · split
    · exact .refl b
    · split
      · exact .refl b
      · exact accept_obeys ((onBoard_steady (.refl b) _).settled rfl rfl).obeys

theorem takeBadImage_obeys (p : List Byte) (b : Blocks) : b.Obeys (takeBadImage p b).blocks := by
  unfold takeBadImage
  dsimp only
  split
  · exact .refl b
  · split
    · exact accept_obeys (conclude_settled (dropImage_steady (onBoard_steady (.refl b) _) _)).obeys
    · exact .refl b

theorem takeRead_obeys (p : List Byte) (l : LinkPort) (b : Blocks) : b.Obeys (takeRead p l b).blocks := by
  unfold takeRead
  dsimp only
  split_ifs
  all_goals exact .refl b

theorem takeResumeRecord_obeys (headUp : Bool) (p : List Byte) (b : Blocks) :
    b.Obeys (takeResumeRecord headUp p b).blocks := by
  unfold takeResumeRecord
  dsimp only
  split
  · exact .refl b
  · exact answerRequest_obeys (takeResume_settled _ _)

theorem takeAcknowledge_obeys (p : List Byte) (b : Blocks) : b.Obeys (takeAcknowledge p b).blocks := by
  unfold takeAcknowledge
  dsimp only
  split
  · exact .refl b
  · split
    · exact .refl b
    · split
      · exact .refl b
      · exact accept_obeys (acknowledge_obeys _ b)

theorem abortRecord_obeys (b : Blocks) :
    b.Obeys (if b.board.standing then Answer.accept (abortBoard b) else .refuse .noBoard .none b).blocks := by
  split
  · exact accept_obeys (abortBoard_settled b).obeys
  · exact .refl b

theorem clearCounters_settled (b : Blocks) : b.Settled (clearCounters b) := by
  unfold clearCounters
  have kept : ∀ c : Counters, (c.events.map EventCounter.clear).map EventCounter.configuration
      = c.events.map EventCounter.configuration := fun c => map_map_of_keeps _ _ _ fun _ => rfl
  exact (onCounters_steady (.refl b) _ kept).settled rfl rfl

theorem clearStatistics_settled (b : Blocks) : b.Settled (clearStatistics b) := by
  unfold clearStatistics
  exact (onCounters_steady (.refl b) _).settled rfl rfl

theorem query_obeys {s t : State} (h : execQuery s = .next t) : s.blocks.Obeys t.blocks := by
  refine next_obeys h ?_
  rcases takeRow_cases .query _ s with e | ⟨p, -, -, e⟩ <;> rw [e]
  · exact .refl _
  · split
    · exact .refl _
    · simpa [Answer.blocks, State.without] using Blocks.Obeys.refl s.blocks

theorem answerOther_blocks (r : Record) (b : Blocks) : (answerOther r b).blocks = b := by
  unfold answerOther
  split_ifs <;> rfl

theorem unknownTypeRecord_obeys {s t : State} (h : execUnknownTypeRecord s = .next t) : s.blocks.Obeys t.blocks := by
  refine next_obeys h ?_
  rcases takeRow_cases .other _ s with e | ⟨p, -, -, e⟩ <;> rw [e]
  · exact .refl _
  · rw [Answer.give_blocks, answerOther_blocks]
    exact .refl _

theorem panelAck_obeys {s t : State} (h : execPanelAck s = .next t) : s.blocks.Obeys t.blocks := by
  refine next_obeys h ?_
  rw [State.onBlocks_blocks]
  exact ackKey_obeys s.blocks

/-! ### All commands -/

/-- The commands that load no table, sample no count and do not power the part on. -/
def isOrdinary : Instr → Bool
  | .powerOnReset _ _ | .encoderSample _ _ _ | .loadCamTable | .loadChainGeometry | .loadKind | .loadDispenser | .loadBand
  | .loadImage | .loadTableConfiguration | .loadClinchProfile | .loadAlarmClass | .loadCounterConfiguration
  | .loadLimits => false
  | _ => true

theorem exec_obeys_of_ordinary {i : Instr} {s t : State} (hi : isOrdinary i = true) (h : exec i s = .next t) :
    s.blocks.Obeys t.blocks := by
  cases i with
  | powerOnReset => cases hi
  | encoderSample => cases hi
  | loadCamTable => cases hi
  | loadChainGeometry => cases hi
  | loadKind => cases hi
  | loadDispenser => cases hi
  | loadBand => cases hi
  | loadImage => cases hi
  | loadTableConfiguration => cases hi
  | loadClinchProfile => cases hi
  | loadAlarmClass => cases hi
  | loadCounterConfiguration => cases hi
  | loadLimits => cases hi
  | measureSenseTrip count => exact onlyBlocks_obeys (measureTrip_settled count) h
  | verifyPhaseLimit => exact onlyBlocks_obeys phaseLimit_settled h
  | gateHomeNegated => exact onlyBlocks_obeys gateLeaves_settled h
  | gateHomeAsserted => exact onlyBlocks_obeys gateReturns_settled h
  | dwellTimeout => exact onlyBlocks_obeys dwellJudgment_settled h
  | chainIndexPulse => exact onlyBlocks_obeys chainPulse_settled h
  | stripSensorPulse => exact onlyBlocks_obeys stripPulse_settled h
  | jawsClosedAsserted => exact onlyBlocks_obeys (seeInWindow_settled _ _) h
  | headDownAsserted => exact onlyBlocks_obeys (seeInWindow_settled _ _) h
  | clinchReturnRise => exact onlyBlocks_obeys (seeInWindow_settled _ _) h
  | leadContactClose lead => exact onlyBlocks_obeys (seeInWindow_settled _ _) h
  | headUpAsserted => exact onlyBlocks_obeys headUpRises_settled h
  | positionSample passed n x y stage => exact onlyBlocks_obeys (positionSample_settled passed n x y stage) h
  | tableDriveSilent => exact onlyBlocks_obeys driveSilent_settled h
  | targetCommandResend => exact onlyBlocks_obeys resendTarget_settled h
  | spanAtTargetRise w => exact onlyBlocks_obeys (spanRises_settled w) h
  | spanAtTargetFall => exact onlyBlocks_obeys (fun b => (onPositioner_steady (.refl b) _).settled rfl rfl) h
  | profileAckRise w => exact onlyBlocks_obeys (profileRises_settled w) h
  | profileAckFall => exact onlyBlocks_obeys (fun b => (onHead_steady (.refl b) _).settled rfl rfl) h
  | pollFrame => exact onlyBlocks_obeys pollBanks_settled h
  | bankReply bank frame home loaded empties => exact onlyBlocks_obeys (takeReply_settled _ _ _ _ _) h
  | levelInputAsserted line => exact levelInputAsserted_obeys h
  | levelInputNegated line => exact levelInputNegated_obeys h
  | eStopAsserted => exact eStopAsserted_obeys h
  | eStopNegated => exact eStopNegated_obeys h
  | haltedMillisecond => exact onlyBlocks_obeys haltedTick_settled h
  | linkByteReceived x stopBit => exact next_obeys h (receiveByte_obeys _ _ _)
  | linkGapTimeout => exact next_obeys h (gapTimeout_obeys _)
  | returnCredit c => exact next_obeys h (.refl _)
  | sendStart => exact next_obeys h (startSend_obeys _)
  | recordSent => exact next_obeys h (.refl _)
  | stepResultPlacement => exact next_obeys h (placeStepResult_obeys _)
  | boardResultPlacement => exact next_obeys h (placeBoardResult_obeys _)
  | alarmNoticePlacement => exact next_obeys h (placeNotice_obeys _)
  | boardStart => exact answerRow_obeys takeBoardStart_obeys h
  | step => exact answerRow_obeys takeStep_obeys h
  | boardEnd => exact answerRow_obeys takeBoardEnd_obeys h
  | badImage => exact answerRow_obeys takeBadImage_obeys h
  | read => exact answerRow_obeys (fun p b => takeRead_obeys p _ b) h
  | run => exact answerRow_obeys (fun _ b => answerRequest_obeys takeRun_settled) h
  | stop => exact answerRow_obeys (fun _ b => accept_obeys (takeStop_settled b).obeys) h
  | resume headUp => exact answerRow_obeys (takeResumeRecord_obeys headUp) h
  | purge => exact answerRow_obeys (fun _ b => answerRequest_obeys purgeStart_settled_of_objection) h
  | abortBoard => exact answerRow_obeys (fun _ b => abortRecord_obeys b) h
  | clearStatistics => exact answerRow_obeys (fun _ b => accept_obeys (clearStatistics_settled b).obeys) h
  | clearCounters => exact answerRow_obeys (fun _ b => accept_obeys (clearCounters_settled b).obeys) h
  | linkReset => exact linkReset_obeys h
  | acknowledgeAlarm => exact answerRow_obeys takeAcknowledge_obeys h
  | query => exact query_obeys h
  | unknownTypeRecord => exact unknownTypeRecord_obeys h
  | panelStart headUp => exact onlyBlocks_obeys (startKey_settled headUp) h
  | panelStop => exact onlyBlocks_obeys takeStop_settled h
  | panelAck => exact panelAck_obeys h
  | panelPurge headUp => exact onlyBlocks_obeys (purgeKey_settled headUp) h

/-- What a LOAD command keeps, and the loaded field that it may change. -/
theorem exec_load_holds {i : Instr} {s t : State} (hi : isOrdinary i = false) (h : exec i s = .next t)
    (hp : ∀ straps levels, i ≠ .powerOnReset straps levels)
    (hs : ∀ forward mark station, i ≠ .encoderSample forward mark station) : s.blocks.Holds t.blocks := by
  cases i <;> simp only [isOrdinary, Bool.true_eq_false] at hi
  case powerOnReset straps levels => exact absurd rfl (hp straps levels)
  case encoderSample forward mark station => exact absurd rfl (hs forward mark station)
  case loadCamTable => exact answerRow_keeps h .refl fun p c => (takeLoadCam_loads p c).1
  case loadChainGeometry => exact answerRow_keeps h .refl fun p c => (takeLoadGeometry_loads p c).1
  case loadKind => exact answerRow_keeps h .refl fun p c => (takeLoadKind_loads p c).1
  case loadDispenser => exact answerRow_keeps h .refl fun p c => (takeLoadDispenser_loads p c).1
  case loadBand => exact answerRow_keeps h .refl fun p c => (takeLoadBand_loads p c).1
  case loadImage => exact answerRow_keeps h .refl fun p c => (takeLoadImage_loads p c).1
  case loadTableConfiguration => exact answerRow_keeps h .refl fun p c => (takeLoadTableConfiguration_loads p c).1
  case loadClinchProfile => exact answerRow_keeps h .refl fun p c => (takeLoadProfile_loads p c).1
  case loadAlarmClass => exact answerRow_keeps h .refl fun p c => (takeLoadClass_loads p c).1
  case loadCounterConfiguration => exact answerRow_keeps h .refl fun p c => (takeLoadCounter_loads p c).1
  case loadLimits => exact answerRow_keeps h .refl fun p c => (takeLoadLimits_loads p c).1

/-- Every command but a sample and a power-on reset keeps the position and the two invariants. -/
theorem exec_holds {i : Instr} {s t : State} (h : exec i s = .next t)
    (hp : ∀ straps levels, i ≠ .powerOnReset straps levels)
    (hs : ∀ forward mark station, i ≠ .encoderSample forward mark station) : s.blocks.Holds t.blocks := by
  cases hi : isOrdinary i
  · exact exec_load_holds hi h hp hs
  · exact (exec_obeys_of_ordinary hi h).holds

/-! ### Power-on reset -/

theorem resetState_sound (levels : LevelLines) : (sampleLevels levels Blocks.reset).shaft.sound :=
  Shaft.parked.sound (s := Shaft.reset)
    ⟨by decide, by decide, by decide, rfl, rfl, fun w => Shaft.isOpen_of_replicate rfl w⟩ rfl

theorem exec_sound {i : Instr} {s t : State} (h : exec i s = .next t) (hs : s.blocks.shaft.sound) :
    t.blocks.shaft.sound := by
  by_cases hp : ∃ straps levels, i = .powerOnReset straps levels
  · obtain ⟨straps, levels, rfl⟩ := hp
    obtain rfl : _ = t := Host.Outcome.next.inj h
    exact resetState_sound levels
  · by_cases he : ∃ forward mark station, i = .encoderSample forward mark station
    · obtain ⟨forward, mark, station, rfl⟩ := he
      obtain rfl : _ = t := Host.Outcome.next.inj h
      exact (encoderSample_sampled forward mark station s.blocks).sound hs
    · push Not at hp he
      exact (exec_holds h hp he).sound hs

theorem exec_heeded {i : Instr} {s t : State} (h : exec i s = .next t) (hs : s.blocks.demandHeeded) :
    t.blocks.demandHeeded := by
  by_cases hp : ∃ straps levels, i = .powerOnReset straps levels
  · obtain ⟨straps, levels, rfl⟩ := hp
    obtain rfl : _ = t := Host.Outcome.next.inj h
    exact MachineState.stopped_heeds _
  · by_cases he : ∃ forward mark station, i = .encoderSample forward mark station
    · obtain ⟨forward, mark, station, rfl⟩ := he
      obtain rfl : _ = t := Host.Outcome.next.inj h
      exact (encoderSample_sampled forward mark station s.blocks).heeded hs
    · push Not at hp he
      exact (exec_holds h hp he).heeded hs

/-- A step is a tick, or a command that acts on the state with the queue's rest. -/
theorem step_cases {s t : State} (h : step s = .next t) :
    t = tick s ∨ ∃ i rest, exec i (s.withPending rest) = .next t := by
  unfold step at h
  split at h
  · exact .inl (Host.Outcome.next.inj h).symm
  · exact .inr ⟨_, _, h⟩

/-- Settles O6: a step is a tick or a command; each keeps the shaft sound, an encoder sample and a reset included. -/
theorem shaftStaysSound : Obligations.ShaftStaysSound := by
  intro s t hs h
  rcases step_cases h with rfl | ⟨i, rest, h⟩
  · exact (tick_obeys s).sound hs
  · exact exec_sound h (s := s.withPending rest) hs

/-- Settles O7: every event ends by reacting to a rise of the demand, and no event turns the machine against the demand. -/
theorem demandStaysHeeded : Obligations.DemandStaysHeeded := by
  intro s t hs h
  rcases step_cases h with rfl | ⟨i, rest, h⟩
  · exact (tick_obeys s).heeded hs
  · exact exec_heeded h (s := s.withPending rest) hs

/-- Settles O10, by what every command but a sample and a power-on reset keeps. -/
theorem onlySamplesMoveTheAngle : Obligations.OnlySamplesMoveTheAngle := by
  intro i s t h hp hs
  simpa [Shaft.position] using (exec_holds h hp hs).position

end Sys2Proof.Machine

end

section
/-! # Every command: a LOAD alone changes its own table -/

namespace Sys2Proof.Machine

set_option Elab.async false

variable {a b : Blocks}

/-! ## The loaded tables (R183) -/

/-- Each loaded field of `l` is the one of `k`, unless the command is the LOAD of its table. -/
structure Settings.ChangedBy (i : Instr) (k l : Settings) : Prop where
  cam : i ≠ .loadCamTable → l.cam = k.cam
  geometry : i ≠ .loadChainGeometry → l.geometry = k.geometry
  kinds : i ≠ .loadKind → l.kinds = k.kinds
  dispensers : i ≠ .loadDispenser → l.dispensers = k.dispensers
  bands : i ≠ .loadBand → l.bands = k.bands
  images : i ≠ .loadImage → l.images = k.images
  config : i ≠ .loadTableConfiguration → l.config = k.config
  profiles : i ≠ .loadClinchProfile → l.profiles = k.profiles
  classes : i ≠ .loadAlarmClass → l.classes = k.classes
  counters : i ≠ .loadCounterConfiguration → l.counters = k.counters
  limits : i ≠ .loadLimits → l.makeUpLimit = k.makeUpLimit ∧ l.dwellLimit = k.dwellLimit ∧ l.shortLimit = k.shortLimit
    ∧ l.resumeChoice = k.resumeChoice

theorem Settings.changedBy_of_eq (i : Instr) {k l : Settings} (h : l = k) : k.ChangedBy i l := by
  subst h
  constructor <;> intros <;> trivial

/-- A LOAD's answer, where the answer changes its own table alone. -/
theorem load_changedBy {i : Instr} {row : Row} {n : Nat} {f : List Byte → Blocks → Answer} {s t : State}
    (h : answerRow row n f s = .next t) (hf : ∀ p (c : Blocks), c.settings.ChangedBy i (f p c).blocks.settings) :
    s.blocks.settings.ChangedBy i t.blocks.settings :=
  answerRow_keeps (P := fun c d => c.settings.ChangedBy i d.settings) h (fun _ => Settings.changedBy_of_eq _ rfl) hf

/-- Every command but a power-on reset changes no loaded field but those of its own table. -/
theorem exec_changedBy {i : Instr} {s t : State} (h : exec i s = .next t)
    (hp : ∀ straps levels, i ≠ .powerOnReset straps levels) : s.blocks.settings.ChangedBy i t.blocks.settings := by
  cases hi : isOrdinary i
  case true => exact Settings.changedBy_of_eq _ (exec_obeys_of_ordinary hi h).settings
  case false =>
    cases i <;> simp only [isOrdinary, Bool.true_eq_false] at hi
    case powerOnReset straps levels => exact absurd rfl (hp straps levels)
    case encoderSample forward mark station =>
      obtain rfl : _ = t := Host.Outcome.next.inj h
      exact Settings.changedBy_of_eq _ (encoderSample_sampled forward mark station s.blocks).settings
    case loadCamTable =>
      refine load_changedBy h fun p c => ?_
      obtain ⟨-, x, e⟩ := takeLoadCam_loads p c
      constructor <;> simp [e]
    case loadChainGeometry =>
      refine load_changedBy h fun p c => ?_
      obtain ⟨-, x, e⟩ := takeLoadGeometry_loads p c
      constructor <;> simp [e]
    case loadKind =>
      refine load_changedBy h fun p c => ?_
      obtain ⟨-, x, e⟩ := takeLoadKind_loads p c
      constructor <;> simp [e]
    case loadDispenser =>
      refine load_changedBy h fun p c => ?_
      obtain ⟨-, x, e⟩ := takeLoadDispenser_loads p c
      constructor <;> simp [e]
    case loadBand =>
      refine load_changedBy h fun p c => ?_
      obtain ⟨-, x, e⟩ := takeLoadBand_loads p c
      constructor <;> simp [e]
    case loadImage =>
      refine load_changedBy h fun p c => ?_
      obtain ⟨-, x, e⟩ := takeLoadImage_loads p c
      constructor <;> simp [e]
    case loadTableConfiguration =>
      refine load_changedBy h fun p c => ?_
      obtain ⟨-, x, e⟩ := takeLoadTableConfiguration_loads p c
      constructor <;> simp [e]
    case loadClinchProfile =>
      refine load_changedBy h fun p c => ?_
      obtain ⟨-, x, e⟩ := takeLoadProfile_loads p c
      constructor <;> simp [e]
    case loadAlarmClass =>
      refine load_changedBy h fun p c => ?_
      obtain ⟨-, x, e⟩ := takeLoadClass_loads p c
      constructor <;> simp [e]
    case loadCounterConfiguration =>
      refine load_changedBy h fun p c => ?_
      obtain ⟨-, x, e⟩ := takeLoadCounter_loads p c
      constructor <;> simp [e]
    case loadLimits =>
      refine load_changedBy h fun p c => ?_
      obtain ⟨-, m, d, l, r, e⟩ := takeLoadLimits_loads p c
      constructor <;> simp [e]

/-- Two tables that agree as `g` reads them agree so at every entry. -/
theorem look_of_map_eq {α β : Type} [Inhabited α] {n : Nat} {g : α → β} {t u : Vector α n} (h : t.map g = u.map g)
    {i : Nat} (hi : i < n) : g (look t i) = g (look u i) := by
  have e : (t.map g)[i] = (u.map g)[i] := by simp only [h]
  simpa [look, hi] using e

/-- Settles O11, table by table, from what the settings of the blocks say of each. -/
theorem onlyLoadsChangeTables : Obligations.OnlyLoadsChangeTables := by
  intro i s t h hp
  obtain ⟨cam, geometry, kinds, dispensers, bands, images, config, profiles, classes, counters, limits⟩ :=
    exec_changedBy h hp
  refine ⟨cam, fun hi => ?_, fun hi k hk => look_of_map_eq (kinds hi) hk, fun hi d hd => ?_, fun hi n hn => ?_, bands,
    images, config, profiles, fun hi code hc => look_of_map_eq (classes hi) hc, limits⟩
  · simpa [Blocks.settings, Chain.geometry] using geometry hi
  · simpa [Dispenser.loadedFields] using look_of_map_eq (dispensers hi) hd
  · simpa [EventCounter.configuration] using look_of_map_eq (counters hi) hn

end Sys2Proof.Machine

end

section
/-! # Resets -/

namespace Sys2Proof.Machine

set_option Elab.async false

variable {a b : Blocks}

/-! ## Resets (R150, R151) -/

/-- R150, R151: the LEVEL lines' codes whose line a reset finds asserted. -/
def levelAsserted (l : LevelLines) (code : Nat) : Bool :=
  (code == 0 && l.eStop) || (code == 20 && l.guardOpen) || (code == 21 && l.airLow) || (code == 22 && l.binFull)

/-- R150, R151: the entry of a LEVEL code whose line a reset finds asserted. -/
def AlarmEntry.sampled (cls : AlarmClass) : AlarmEntry := ⟨cls, .active, false, 1, ⟨none, none, none⟩, true⟩

theorem assertedCodes_eq (l : LevelLines) : assertedCodes l = [0, 20, 21, 22].filter (levelAsserted l) := by
  obtain ⟨e, g, a, f⟩ := l
  cases e <;> cases g <;> cases a <;> cases f <;> rfl

theorem mem_assertedCodes (l : LevelLines) (code : Nat) : code ∈ assertedCodes l ↔ levelAsserted l code = true := by
  rw [assertedCodes_eq, List.mem_filter]
  refine ⟨fun h => h.2, fun h => ⟨?_, h⟩⟩
  simp only [levelAsserted, Bool.or_eq_true, Bool.and_eq_true, beq_iff_eq] at h
  simp only [List.mem_cons, List.not_mem_nil, or_false]
  omega

theorem assertedCodes_nodup (l : LevelLines) : (assertedCodes l).Nodup := by
  rw [assertedCodes_eq]; exact List.Nodup.filter _ (by decide)

theorem assertedCodes_lt (l : LevelLines) : ∀ code ∈ assertedCodes l, code < 32 := by
  rw [assertedCodes_eq]
  intro code h
  have : code ∈ [0, 20, 21, 22] := (List.mem_filter.mp h).1
  simp only [List.mem_cons, List.not_mem_nil, or_false] at this
  omega

/-- R139: the appearance of a code leaves every other entry. -/
theorem Alarm.appear_other (a : Alarm) {code other : Nat} (h : code ≠ other) :
    look (a.appear code).codes other = look a.codes other := by
  rw [Alarm.appear, Alarm.makeNotice_other h]
  exact look_adjust_of_ne _ _ h

theorem Alarm.appear_look_reset {a : Alarm} {code : Nat} (h : code < 32) {cls : AlarmClass}
    (hr : look a.codes code = AlarmEntry.reset cls) : look (a.appear code).codes code = AlarmEntry.sampled cls := by
  rw [Alarm.appear_look h, hr]; rfl

theorem Alarm.appear_notices {a : Alarm} {code : Nat} (h : code < 32) (hn : (look a.codes code).noticePending = false) :
    (a.appear code).notices = a.notices ++ [code] := by
  have : (look (adjust a.codes code AlarmEntry.appeared) code).noticePending = false := by
    rw [look_adjust_self _ _ h]; exact hn
  simp [Alarm.appear, Alarm.makeNotice, this]

/-- R150, R151: the appearances at a reset, one after another. -/
theorem appearEach (cls : Nat → AlarmClass) (l : List Nat) (a : Alarm) (hl : l.Nodup)
    (hb : ∀ code ∈ l, code < 32) (hr : ∀ code ∈ l, look a.codes code = AlarmEntry.reset (cls code)) :
    (l.foldl (fun a code => a.appear code) a).notices = a.notices ++ l
      ∧ ∀ code, look (l.foldl (fun a code => a.appear code) a).codes code
          = if code ∈ l then AlarmEntry.sampled (cls code) else look a.codes code := by
  induction l generalizing a with
  | nil => simp
  | cons x l ih =>
    obtain ⟨hx, hl⟩ := List.nodup_cons.mp hl
    have hx32 := hb x List.mem_cons_self
    have hxr := hr x List.mem_cons_self
    have rest : ∀ code ∈ l, look (a.appear x).codes code = AlarmEntry.reset (cls code) := fun code hc => by
      rw [a.appear_other (by rintro rfl; exact hx hc)]; exact hr code (List.mem_cons_of_mem _ hc)
    obtain ⟨notices, codes⟩ := ih (a.appear x) hl (fun code hc => hb code (List.mem_cons_of_mem _ hc)) rest
    have quiet : (look a.codes x).noticePending = false := by rw [hxr]; rfl
    refine ⟨by simp [notices, Alarm.appear_notices hx32 quiet], fun code => ?_⟩
    rw [List.foldl_cons, codes]
    by_cases hc : code = x
    · subst hc
      simp [hx, Alarm.appear_look_reset hx32 hxr]
    · simp [hc, a.appear_other (Ne.symm hc)]

/-- R150, R151: the alarm table of IDLE codes after the sampling of the LEVEL lines. -/
theorem sampleLevels_alarm (cls : Nat → AlarmClass) (levels : LevelLines) (b : Blocks)
    (hr : ∀ code, code < 32 → look b.alarm.codes code = AlarmEntry.reset (cls code)) :
    (sampleLevels levels b).alarm.notices = b.alarm.notices ++ [0, 20, 21, 22].filter (levelAsserted levels)
      ∧ ∀ code, code < 32 → look (sampleLevels levels b).alarm.codes code
          = if levelAsserted levels code then AlarmEntry.sampled (cls code) else AlarmEntry.reset (cls code) := by
  obtain ⟨notices, codes⟩ := appearEach cls (assertedCodes levels) b.alarm (assertedCodes_nodup levels)
    (assertedCodes_lt levels) (fun code hc => hr code (assertedCodes_lt levels code hc))
  refine ⟨by rw [← assertedCodes_eq]; exact notices, fun code hc => ?_⟩
  have entry := codes code
  rw [hr code hc] at entry
  simp only [mem_assertedCodes] at entry
  exact entry

theorem Alarm.reset_look {code : Nat} (h : code < 32) :
    look Alarm.reset.codes code = AlarmEntry.reset (AlarmClass.ofCode code) := by
  simp [Alarm.reset, look, h]

theorem Alarm.reset_sound : Alarm.reset.sound := by
  refine ⟨List.nodup_nil, by simp [Alarm.reset], fun code h => ?_, ?_, ?_, fun code h => ?_, fun code h => ?_⟩
  · rw [Alarm.reset_look h]; simp [AlarmEntry.reset, Alarm.reset]
  · rw [Alarm.reset_look (by decide)]; rfl
  · rw [Alarm.reset_look (by decide)]; rfl
  · rw [Alarm.reset_look h]; simp [AlarmEntry.reset]
  · rw [Alarm.reset_look h]; simp [AlarmEntry.reset]

/-- Settles O9, block by block. -/
theorem resetIsSound : Obligations.ResetIsSound := by
  refine ⟨?_, ?_, Alarm.reset_sound, resetState_sound ⟨false, false, false, false⟩, MachineState.stopped_heeds _, ?_⟩
  · simp [LinkPort.sound, State.reset, LinkPort.reset]
  · simp [Board.sound, State.reset, Blocks.reset, Board.reset]
  · simp [Chain.sound, State.reset, Blocks.reset, Chain.reset]

/-- A table that is filled with one value reads as it everywhere. -/
theorem look_of_replicate {α : Type} [Inhabited α] {n : Nat} {t : Vector α n} {x : α} (e : t = Vector.replicate n x)
    {i : Nat} (h : i < n) : look t i = x := by
  rw [e, look_replicate x h]

/-- Settles O12: the sampling of the LEVEL lines reaches the alarm table alone, and every other block is at its power-on
values as the model gives them. -/
theorem powerOnResetLeaves : Obligations.PowerOnResetLeaves := by
  intro straps levels s asserted
  obtain ⟨notices, codes⟩ := sampleLevels_alarm AlarmClass.ofCode levels Blocks.reset fun _ => Alarm.reset_look
  refine ⟨_, rfl, rfl, rfl, rfl, rfl, rfl, rfl, rfl, rfl, rfl, rfl, rfl, rfl, rfl, rfl, rfl, rfl, rfl, rfl, rfl,
    fun w => Shaft.isOpen_of_replicate rfl w, fun n hn => congrArg CamEntry.loaded (look_of_replicate (t := Shaft.reset.cam) rfl hn), rfl, rfl, rfl, fun k hk => look_of_replicate rfl hk,
    fun d hd => look_of_replicate rfl hd, rfl, rfl, rfl,
    rfl, fun n hn => look_of_replicate rfl hn, rfl, rfl, rfl, rfl, rfl, rfl, rfl, rfl, rfl, rfl, rfl, rfl, rfl, rfl, fun n hn => look_of_replicate rfl hn, rfl,
    fun n hn => look_of_replicate rfl hn, rfl, rfl, rfl, rfl, rfl, rfl, codes, notices, fun n hn => look_of_replicate rfl hn, rfl, fun n hn => look_of_replicate rfl hn⟩

end Sys2Proof.Machine

end

section
/-! # CONTROL records: RUN and STOP -/

namespace Sys2Proof.Machine

set_option Elab.async false

variable {a b : Blocks}

/-! ## CONTROL records at the dispatcher (R180, R181) -/

theorem byteOf_toNat (n : Nat) : (byteOf n).toNat = n % 256 := rfl

/-- Table 11-14: a CONTROL record belongs to the row of its subcommand. -/
theorem controlRecord_row {n : Nat} (h : n ≤ 7) (x : Byte) : (controlRecord n x).row = .control n := by
  have byte : byteAt [byteOf n, x] 0 = n := by simp [byteAt, byteOf_toNat]; omega
  simp [controlRecord, Record.row, typeBoardStart, typeStep, typeBoardEnd, typeBadImage, typeLoad, typeRead, typeControl,
    byte, h]

/-- R180: a record that is no stream record is takeable whatever waits before it. -/
theorem takeable_of_not_stream {r : Record} (h : r.isStream = false) (full waits : Bool) : takeable full waits r = true := by
  simp [takeable, h]

theorem controlRecord_takeable {n : Nat} (h : n ≤ 7) (x : Byte) (full waits : Bool) :
    takeable full waits (controlRecord n x) = true :=
  takeable_of_not_stream (by simp [Record.isStream, controlRecord_row h]) full waits

section

variable {s : State} {rest : List Record} {n : Nat} {x : Byte} {f : List Byte → Blocks → Answer}

theorem answerControl_accept (hn : n ≤ 7) (h : s.offers (controlRecord n x) rest) {c : Blocks}
    (hf : f [byteOf n, x] s.blocks = .accept c) : answerRow (.control n) 2 f s = .next (s.taken rest c) :=
  answerRow_accept h (controlRecord_takeable hn x _ _) (controlRecord_row hn x) hf

theorem answerControl_refuse (hn : n ≤ 7) (h : s.offers (controlRecord n x) rest) {reason : RefusalReason}
    {detail : Detail} (hf : f [byteOf n, x] s.blocks = .refuse reason detail s.blocks) :
    answerRow (.control n) 2 f s = .next (s.answered rest (refusal 0x12#8 reason detail)) :=
  answerRow_refuse h (controlRecord_takeable hn x _ _) (controlRecord_row hn x) hf

end

/-! ## RUN and STOP (R10, R11, R13, R15) -/

/-- R10: a run to park begins by a turn of a shaft that is not at park. -/
theorem startRunToPark_of_not_atPark (m : MachineState) (h : b.shaft.atPark = false) :
    startRunToPark m b
      = b.onShaft fun s => { s with machine := m, drive := .driving, parkRequested := s.registered } := by
  have away : ¬ (b.onShaft fun s => { s with machine := m }).shaft.atPark = true := by
    rw [show (b.onShaft fun s => { s with machine := m }).shaft.atPark = false from h]
    exact Bool.false_ne_true
  unfold startRunToPark
  dsimp only
  rw [if_neg away]
  rfl

theorem Shaft.atPark_of_unregistered {s : Shaft} (h : s.registered = false) : s.atPark = false := by
  simp [Shaft.atPark, h]

/-- R84: with the demand below STOP-AT-PARK the first index is granted when the transfer point is clear. -/
theorem startTurning_of_low (m : MachineState) (h : b.alarm.demand < 3) :
    startTurning m b = { b with
      shaft := { b.shaft with machine := m, drive := .driving, parkRequested := false }
      chain := { b.chain with grant := b.chain.headClear } } := by
  simp [startTurning, Blocks.grantFor, Blocks.onShaft, Blocks.onChain, h]

/-- R13: what WAITING goes on to, in every case. -/
theorem settleWaiting_of_low (hm : b.shaft.machine = .waiting) (hd : b.alarm.demand < 3) :
    settleWaiting b =
      if b.board.phase = .none then { b with shaft := { b.shaft with machine := .stopped, stopPending := false } }
      else if b.chain.work = true then
        { b with
          shaft := { b.shaft with machine := .cycling, drive := .driving, parkRequested := false }
          chain := { b.chain with grant := b.chain.headClear } }
      else b := by
  unfold settleWaiting
  rw [if_pos hm, startTurning_of_low _ hd]
  rfl

/-- R13: what the entry into WAITING leads to, in every case. -/
theorem enterWaiting_of_low (hd : b.alarm.demand < 3) :
    enterWaiting b =
      if b.board.phase = .none then { b with shaft := { b.shaft with machine := .stopped, stopPending := false } }
      else if b.chain.work = true then
        { b with
          shaft := { b.shaft with machine := .cycling, drive := .driving, parkRequested := false }
          chain := { b.chain with grant := b.chain.headClear } }
      else { b with shaft := { b.shaft with machine := .waiting } } :=
  settleWaiting_of_low (b := b.onShaft fun s => { s with machine := .waiting }) rfl hd

/-- The blocks after a RUN is taken (R10, R11, R13). -/
def Blocks.started (b : Blocks) : Blocks :=
  if b.shaft.registered = false then
    { b with shaft := { b.shaft with machine := .homing, drive := .driving, parkRequested := false } }
  else if b.chain.work then
    { b with
      shaft := { b.shaft with machine := .cycling, drive := .driving, parkRequested := false }
      chain := { b.chain with grant := b.chain.headClear } }
  else { b with shaft := { b.shaft with machine := .waiting } }

theorem takeRun_started (hb : b.board.phase ≠ .none) (hd : b.alarm.demand < 3) : takeRun b = b.started := by
  unfold takeRun Blocks.started
  cases hr : b.shaft.registered
  · simp [startRunToPark_of_not_atPark _ (Shaft.atPark_of_unregistered hr), hr, Blocks.onShaft]
  · simp [enterWaiting_of_low hd, hb]

theorem runObjection_of_ready (hm : b.shaft.machine = .stopped) (hb : b.board.phase ≠ .none) (hd : b.alarm.demand < 3) :
    runObjection b = none := by
  simp [runObjection, hm, hb, Nat.not_le.mpr hd]

theorem runObjection_of_state (h : b.shaft.machine ≠ .stopped ∨ b.board.phase = .none) :
    runObjection b = some (.state, .none) := by
  unfold runObjection
  split_ifs
  · rfl
  · rfl
  all_goals rcases h with h | h <;> contradiction

theorem runObjection_of_alarms (hm : b.shaft.machine = .stopped) (hb : b.board.phase ≠ .none) (hd : 3 ≤ b.alarm.demand) :
    runObjection b = some (.alarmsOutstanding, .none) := by
  simp [runObjection, hm, hb, hd]

theorem startKey_stopped (headUp : Bool) (hm : b.shaft.machine = .stopped) :
    startKey headUp b = keyRequest (runObjection b) takeRun b := by
  simp [startKey, hm]

/-- R153: outside STOPPED and HALTED the START key is ignored. -/
theorem startKey_ignored (headUp : Bool) (hs : b.shaft.machine ≠ .stopped) (hh : b.shaft.machine ≠ .halted) :
    startKey headUp b = b := by
  cases hm : b.shaft.machine <;> simp_all [startKey]

theorem onlyBlocks_eq (f : Blocks → Blocks) (s : State) : onlyBlocks f s = .next { s with blocks := f s.blocks } := rfl

/-- An event that leaves the blocks leaves the state. -/
theorem onlyBlocks_of_same {f : Blocks → Blocks} {s : State} (h : f s.blocks = s.blocks) : onlyBlocks f s = .next s := by
  rw [onlyBlocks_eq, h]

theorem exec_run (s : State) :
    exec .run s = answerRow (.control 0) 2 (fun _ b => answerRequest (runObjection b) takeRun b) s := rfl

theorem exec_stop (s : State) : exec .stop s = answerRow (.control 1) 2 (fun _ b => .accept (takeStop b)) s := rfl

/-- Settles O55: by the objections of R11, and by what WAITING goes on to (R13). -/
theorem runStarts : Obligations.RunStarts := by
  intro s sh started standing
  refine ⟨fun x rest h => ⟨fun hm hb hd => ?_, fun hn => ?_, fun hm hb hd => ?_⟩,
    fun headUp => ⟨fun hm hb hd => ?_, fun hh hn => ?_⟩⟩
  · rw [exec_run]
    refine answerControl_accept (by decide) h ?_
    rw [runObjection_of_ready hm hb hd, answerRequest, takeRun_started hb hd]
    rfl
  · rw [exec_run]
    refine answerControl_refuse (by decide) h ?_
    rw [runObjection_of_state (hn.imp_right not_not.mp)]
    rfl
  · rw [exec_run]
    refine answerControl_refuse (by decide) h ?_
    rw [runObjection_of_alarms hm hb hd]
    rfl
  · change onlyBlocks (startKey headUp) s = _
    rw [onlyBlocks_eq, startKey_stopped headUp hm, runObjection_of_ready hm hb hd, keyRequest, takeRun_started hb hd]
    rfl
  · refine onlyBlocks_of_same (f := startKey headUp) ?_
    by_cases hm : sh.machine = .stopped
    · obtain ⟨o, e⟩ : ∃ o, runObjection s.blocks = some o := by
        by_cases hb : s.blocks.board.phase = .none
        · exact ⟨_, runObjection_of_state (.inr hb)⟩
        · have hd : 3 ≤ s.blocks.alarm.demand := by
            rcases hn with h | h | h
            · exact absurd hm h
            · exact absurd hb h
            · exact h
          exact ⟨_, runObjection_of_alarms hm hb hd⟩
      rw [startKey_stopped headUp hm, e, keyRequest]
    · exact startKey_ignored headUp hm hh

/-- R8: with no revolution live a brake cuts nothing short. -/
theorem brake_of_not_live (h : b.shaft.live = false) :
    brake b = { b with
      shaft := { b.shaft with drive := .held, parkRequested := false }, chain := { b.chain with grant := false } } := by
  simp [brake, cutShort, h, Blocks.onShaft, Blocks.onChain]

/-- Settles O56, by the machine state. -/
theorem stopStops : Obligations.StopStops := by
  intro s hl sh stopped
  have taken : takeStop s.blocks = stopped := by
    unfold takeStop
    simp only [stopped, sh]
    cases hm : s.blocks.shaft.machine
    case homing =>
      cases hr : s.blocks.shaft.registered <;>
        simp [brake_of_not_live (hl hm), setStopPending, enterStopped, Blocks.onShaft, hm, hr]
    all_goals simp [setStopPending, enterStopped, Blocks.onShaft, hm]
  refine ⟨fun x rest h => ?_, ?_⟩
  · rw [exec_stop]
    refine answerControl_accept (by decide) h ?_
    exact congrArg Answer.accept taken
  · exact congrArg (fun c => Host.Outcome.next { s with blocks := c }) taken

end Sys2Proof.Machine

end

section
/-! # CONTROL RESET -/

namespace Sys2Proof.Machine

set_option Elab.async false

/-! ## The record that the dispatcher takes (R180) -/

/-- The oldest record that is taken, when those before it are not. -/
theorem pickFrom_of_skipped (takes : Bool → Record → Bool) {r : Record} (older younger : List Record)
    (ho : ∀ q ∈ older, ∀ w, takes w q = false) (hr : ∀ w, takes w r = true) (w : Bool) (before : List Record) :
    pickFrom takes w before (older ++ r :: younger) = some ⟨before ++ older, r, younger⟩ := by
  induction older generalizing w before with
  | nil => simp [pickFrom, hr]
  | cons q older ih =>
    have hq : takes w q = false := ho q List.mem_cons_self w
    have rest := ih (fun p hp => ho p (List.mem_cons_of_mem _ hp)) (w || q.isStream) (before ++ [q])
    simp [pickFrom, hq, rest]

/-- Table 11-14: a record of the RESET row, of the length that its layout gives, is a CONTROL RESET. -/
theorem Record.eq_controlRecord_of_isReset {r : Record} (h : r.isReset = true) : ∃ x, r = controlRecord 7 x := by
  simp only [Record.isReset, Bool.and_eq_true, decide_eq_true_eq] at h
  obtain ⟨row, length⟩ := h
  obtain ⟨type, payload⟩ := r
  obtain ⟨p, x, rfl⟩ := List.length_eq_two.mp length
  unfold Record.row at row
  split_ifs at row
  have hp : p.toNat = 7 := by simpa [byteAt] using row
  refine ⟨x, ?_⟩
  have e : p = byteOf 7 := BitVec.eq_of_toNat_eq (by simpa [byteOf_toNat] using hp)
  have ht : type = typeControl := by assumption
  rw [e, ht]
  rfl

theorem Record.isReset_controlRecord (x : Byte) : (controlRecord 7 x).isReset = true := by
  simp [Record.isReset, controlRecord_row (n := 7) (by decide)]
  rfl

/-- R180: a full window holds a STEP back. -/
theorem takeable_step_of_full {r : Record} (h : r.type = 0x02#8) (waits : Bool) : takeable true waits r = false := by
  have row : r.row = .step := by simp [Record.row, h, typeBoardStart, typeStep]
  simp [takeable, Record.isStream, row]

/-- R165, R180: a RESET is the next record taken, ahead of older STEPs under a full window and, with no place free, ahead of
every older record. -/
theorem nextRecord_reset {s : State} {x : Byte} {older younger : List Record}
    (hi : s.link.input = older ++ controlRecord 7 x :: younger)
    (hn : 64 ≤ s.link.upstream.length ∨ older = []
      ∨ (256 ≤ s.blocks.board.window.length ∧ ∀ r ∈ older, r.type = 0x02#8))
    (ho : ∀ r ∈ older, ∀ y, r ≠ controlRecord 7 y) : nextRecord s = some ⟨older, controlRecord 7 x, younger⟩ := by
  unfold nextRecord
  rw [hi]
  split
  · next place =>
    refine pickFrom_of_skipped _ older younger (fun r hr w => ?_) (fun w => controlRecord_takeable (by decide) x _ w) _ _
    rcases hn with full | rfl | ⟨full, steps⟩
    · exact absurd place (by simpa [LinkPort.hasPlace, Config.upstreamPlaces] using full)
    · cases hr
    · have windowFull : s.blocks.board.windowFull = true := by
        simpa [Board.windowFull, Config.windowPlaces] using full
      rw [windowFull]
      exact takeable_step_of_full (steps r hr) w
  · refine pickFrom_of_skipped _ older younger (fun r hr w => ?_) (fun w => Record.isReset_controlRecord x) _ _
    by_contra reset
    obtain ⟨y, e⟩ := Record.eq_controlRecord_of_isReset (Bool.not_eq_false _ ▸ reset)
    exact ho r hr y e

/-! ## Link reset (R165) -/

theorem exec_linkReset {s : State} {x : Byte} {older younger : List Record}
    (h : nextRecord s = some ⟨older, controlRecord 7 x, younger⟩) :
    exec .linkReset s = .next
      { s with blocks := sampleLevels s.levels s.blocks.linkReset, link := s.link.linkReset younger } := by
  change execLinkReset s = _
  have length : (controlRecord 7 x).payload.length = 2 := rfl
  simp [execLinkReset, h, controlRecord_row (n := 7) (by decide), resetBy, length]

/-- R80: after a link reset no slot is in use. -/
theorem Chain.linkReset_slotOf (c : Chain) (p : Nat) : c.linkReset.slotOf p = .empty := by
  cases c.slots[p]? <;> simp [Chain.linkReset, Chain.slotOf]

theorem Alarm.linkReset_look (a : Alarm) {code : Nat} (h : code < 32) :
    look a.linkReset.codes code = AlarmEntry.reset (look a.codes code).cls := by
  simp [Alarm.linkReset, look_map _ _ h]

/-- Settles O60: by the choice of the record, and then block by block. -/
theorem linkResetResets : Obligations.LinkResetResets := by
  intro x older younger s hi hn ho asserted
  obtain ⟨-, codes⟩ := sampleLevels_alarm (fun code => (look s.blocks.alarm.codes code).cls) s.levels s.blocks.linkReset
    fun code => s.blocks.alarm.linkReset_look
  refine ⟨_, exec_linkReset (nextRecord_reset hi hn ho), rfl, rfl, rfl, rfl, rfl, rfl, rfl, rfl,
    fun w => Shaft.isOpen_of_replicate rfl w, rfl, rfl, rfl, rfl, fun p => Chain.linkReset_slotOf _ p, rfl, rfl, rfl, rfl, rfl,
    rfl, rfl, rfl, rfl, rfl, rfl, rfl, rfl, rfl, rfl, fun d hd => look_map _ _ hd, rfl, rfl, rfl, rfl, rfl,
    fun code hc => ?_, rfl⟩
  have entry := codes code hc
  have same : levelAsserted s.levels code = asserted code := rfl
  rw [same] at entry
  generalize asserted code = on at entry ⊢
  rw [entry]
  cases on <;> exact ⟨rfl, rfl, rfl, rfl, rfl, rfl⟩

end Sys2Proof.Machine

end

section
/-! # Forward samples under drive and the windows of an angle; DECISION -/

namespace Sys2Proof.Machine

set_option Elab.async false

variable {a b : Blocks}

/-! ## Forward samples under drive (R1, R7, R9) -/

/-- Table 1-5, R166: SHAFT RUN. -/
theorem shaftRunLine_iff (b : Blocks) : b.shaftRunLine = true ↔ b.driven := by
  simp [Blocks.shaftRunLine, Blocks.driven, Alarm.eStopActive]

/-- R1: a forward count that neither completes the revolution nor misses the index. -/
theorem Shaft.countForward_of_lt {s : Shaft} (ha : s.angle + 1 ≤ 1439) (hd : s.distance < 1440) :
    s.countForward = { s with angle := s.angle + 1, distance := s.distance + 1 } := by
  have angle : ¬ Config.lastAngle ≤ s.angle := by simp only [Config.lastAngle]; omega
  have distance : min (s.distance + 1) Config.missingIndexDistance = s.distance + 1 := by
    simp only [Config.missingIndexDistance]; omega
  simp [Shaft.countForward, angle, distance]

/-- The blocks with one forward sample counted (R1). -/
def Blocks.stepped (b : Blocks) : Blocks :=
  b.onShaft fun s => { s with angle := s.angle + 1, distance := s.distance + 1 }

/-- R1, R7, R9: a forward sample without the mark under drive, within a revolution. -/
theorem forwardSample_driven (station : Station) (hr : b.driven) (ha : b.shaft.angle + 1 ≤ 1439)
    (hd : b.shaft.distance < 1440) :
    encoderSample true false station b = takePark (sampleWindows station b.stepped) := by
  have counted : b.onShaft Shaft.countForward = b.stepped :=
    congrArg (fun s => { b with shaft := s }) (Shaft.countForward_of_lt ha hd)
  have seen : ¬ b.shaft.missesIndex = true := by
    simp only [Shaft.missesIndex, Config.missingIndexDistance, decide_eq_true_eq]; omega
  simp only [encoderSample, forwardCount, if_true, Bool.false_eq_true, if_false, counted, if_neg seen,
    (shaftRunLine_iff b).mpr hr]

/-! ### The windows of an angle -/

theorem mem_windowOrder (station : Station) (w : Window) : w ∈ windowOrder station := by
  by_cases h : w ∈ station.order
  · exact List.mem_append_left _ (List.mem_eraseDups.mpr h)
  · refine List.mem_append_right _ (List.mem_filter.mpr ⟨?_, by simp [h]⟩)
    cases w <;> decide

theorem nodup_eraseDups {α : Type} [BEq α] [LawfulBEq α] (l : List α) : l.eraseDups.Nodup := by
  match l with
  | [] => simp
  | x :: l =>
    rw [List.eraseDups_cons, List.nodup_cons]
    exact ⟨by simp, nodup_eraseDups _⟩
termination_by l.length
decreasing_by simpa using Nat.lt_succ_of_le (List.length_filter_le _ l)

theorem windowOrder_nodup (station : Station) : (windowOrder station).Nodup := by
  refine List.Nodup.append (nodup_eraseDups _) (List.Nodup.filter _ (by decide)) fun w hw hw' => ?_
  have := (List.mem_filter.mp hw').2
  simp only [List.mem_eraseDups] at hw
  simp [hw] at this

/-- R7: a window with neither end at an angle has no event there. -/
theorem Shaft.eventAt_of_away {s : Shaft} {angle : Nat} {w : Window}
    (h : (s.arc w).loaded = true → (s.arc w).start ≠ angle ∧ (s.arc w).stop ≠ angle) : s.eventAt angle w = none := by
  unfold Shaft.eventAt
  cases hl : (s.arc w).loaded
  · simp
  · obtain ⟨start, stop⟩ := h hl
    simp [start, stop]

/-- R7: FIRE, VERIFY and GATE have no event in a dwell revolution. -/
theorem Shaft.eventAt_of_mute {s : Shaft} {w : Window} (hw : actsOnlyInAdvance w = true) (ha : s.advance = false)
    (angle : Nat) : s.eventAt angle w = none := by
  simp [Shaft.eventAt, hw, ha]

/-- One window of a sample (R7, R8). -/
def visitWindow (station : Station) (angle : Nat) (b : Blocks) (w : Window) : Blocks :=
  if b.shaft.live then
    match b.shaft.eventAt angle w with
    | some opens => takeWindow station w opens b
    | none => b
  else b

theorem windowEvents_eq (station : Station) (angle : Nat) (b : Blocks) :
    windowEvents station angle b = (windowOrder station).foldl (visitWindow station angle) b := rfl

theorem visitWindow_none {station : Station} {angle : Nat} {w : Window} (h : b.shaft.eventAt angle w = none) :
    visitWindow station angle b w = b := by
  unfold visitWindow
  rw [h]
  split <;> rfl

theorem foldl_visitWindow_none {station : Station} {angle : Nat} (l : List Window)
    (h : ∀ w ∈ l, b.shaft.eventAt angle w = none) : l.foldl (visitWindow station angle) b = b := by
  induction l with
  | nil => rfl
  | cons w l ih =>
    rw [List.foldl_cons, visitWindow_none (h w List.mem_cons_self)]
    exact ih fun v hv => h v (List.mem_cons_of_mem _ hv)

/-- R7: an angle at which no window has an event. -/
theorem windowEvents_none {station : Station} {angle : Nat} (h : ∀ w, b.shaft.eventAt angle w = none) :
    windowEvents station angle b = b :=
  foldl_visitWindow_none _ fun w _ => h w

/-- R7: an angle at which one window alone has an event. -/
theorem windowEvents_one {station : Station} {angle : Nat} {w : Window} {opens : Bool} (hl : b.shaft.live = true)
    (he : b.shaft.eventAt angle w = some opens)
    (ho : ∀ v : Window, v ≠ w → (b.shaft.arc v).loaded = true →
      (b.shaft.arc v).start ≠ angle ∧ (b.shaft.arc v).stop ≠ angle) :
    windowEvents station angle b = takeWindow station w opens b := by
  obtain ⟨before, after, order⟩ := List.append_of_mem (mem_windowOrder station w)
  have once : w ∉ before ∧ w ∉ after := by
    have nodup := windowOrder_nodup station
    rw [order, List.nodup_middle, List.nodup_cons, List.mem_append, not_or] at nodup
    exact nodup.1
  have cam : (takeWindow station w opens b).shaft.cam = b.shaft.cam :=
    congrArg Settings.cam (takeWindow_settled station w opens hl).steady.settings
  have others : ∀ v, v ≠ w → (takeWindow station w opens b).shaft.eventAt angle v = none := fun v hv => by
    refine Shaft.eventAt_of_away fun loaded => ?_
    simp only [Shaft.arc, cam] at loaded ⊢
    exact ho v hv loaded
  have visited : visitWindow station angle b w = takeWindow station w opens b := by
    simp [visitWindow, hl, he]
  rw [windowEvents_eq, order, List.foldl_append,
    foldl_visitWindow_none before fun v hv => Shaft.eventAt_of_away (ho v (by rintro rfl; exact once.1 hv)),
    List.foldl_cons, visited]
  exact foldl_visitWindow_none after fun v hv => others v (by rintro rfl; exact once.2 hv)

/-- R7: a sample at an angle where no window has an event. -/
theorem sampleWindows_none {station : Station} (h : ∀ w, b.shaft.eventAt b.shaft.angle w = none) :
    sampleWindows station b = b := by
  unfold sampleWindows
  split
  · exact windowEvents_none h
  · rfl

theorem takePark_away (h : b.shaft.angle ≠ b.shaft.parkAngle) : takePark b = b := by
  unfold takePark
  rw [if_neg]
  exact fun park => h park.2.2

/-- R7: the sample at which one window alone has its event, which is no park. -/
theorem forwardSample_meets (station : Station) {w : Window} {opens : Bool} (h : b.meets w opens)
    (hw : actsOnlyInAdvance w = true → b.shaft.advance = true) :
    encoderSample true false station b = windowEvent station w opens (b.counted w opens) := by
  obtain ⟨driven, live, angle, distance, loaded, event, others, park⟩ := h
  have hits : b.stepped.shaft.eventAt (b.shaft.angle + 1) w = some opens := by
    have acts : (actsOnlyInAdvance w && !b.shaft.advance) = false := by
      cases hm : actsOnlyInAdvance w
      · rfl
      · simp [hw hm]
    have arc : b.stepped.shaft.arc w = b.shaft.arc w := rfl
    unfold Shaft.eventAt
    rw [arc, show b.stepped.shaft.advance = b.shaft.advance from rfl, acts, loaded]
    cases opens
    · obtain ⟨stop, start, isOpen⟩ := event
      have isOpen' : b.stepped.shaft.isOpen w = true := isOpen
      simp [start, stop, isOpen']
    · simp only [if_true] at event
      simp [event]
  have windows : sampleWindows station b.stepped = takeWindow station w opens b.stepped := by
    have turning : b.stepped.shaft.live ∧ b.stepped.shaft.angle ≠ 0 := ⟨live, by simp [Blocks.stepped]⟩
    unfold sampleWindows
    rw [if_pos turning]
    exact windowEvents_one (b := b.stepped) live hits others
  have taken : takeWindow station w opens b.stepped = windowEvent station w opens (b.counted w opens) := rfl
  have steady := (takeWindow_settled station w opens (b := b.stepped) live).steady
  have away : (takeWindow station w opens b.stepped).shaft.angle
      ≠ (takeWindow station w opens b.stepped).shaft.parkAngle := by
    have angle' : (takeWindow station w opens b.stepped).shaft.angle = b.shaft.angle + 1 :=
      congrArg Prod.fst steady.position
    have cam : (takeWindow station w opens b.stepped).shaft.cam = b.shaft.cam := congrArg Settings.cam steady.settings
    rw [angle', Shaft.parkAngle, cam]
    exact park
  rw [forwardSample_driven station driven angle distance, windows, takePark_away away, taken]

/-- R7: in a dwell revolution the sample at an end of FIRE, VERIFY or GATE is counted and changes nothing else. -/
theorem forwardSample_mute (station : Station) {w : Window} {opens : Bool} (h : b.meets w opens)
    (hw : actsOnlyInAdvance w = true) (ha : b.shaft.advance = false) :
    encoderSample true false station b = b.stepped := by
  obtain ⟨driven, live, angle, distance, loaded, event, others, park⟩ := h
  have quiet : sampleWindows station b.stepped = b.stepped := by
    refine sampleWindows_none fun v => ?_
    by_cases hv : v = w
    · subst hv
      exact Shaft.eventAt_of_mute (s := b.stepped.shaft) hw ha _
    · exact Shaft.eventAt_of_away (s := b.stepped.shaft) (others v hv)
  rw [forwardSample_driven station driven angle distance, quiet]
  exact takePark_away (b := b.stepped) park

theorem exec_encoderSample (forward mark : Bool) (station : Station) (s : State) :
    exec (.encoderSample forward mark station) s
      = .next { s with blocks := encoderSample forward mark station s.blocks } := rfl

/-! ## DECISION (R14, R84, R161) -/

/-- Settles O16: the sample is the DECISION window's event alone. -/
theorem decisionChooses : Obligations.DecisionChooses := by
  intro station s
  constructor
  · intro h hm counted reason goOn
    rw [exec_encoderSample, forwardSample_meets station h nofun]
    have why : (if s.blocks.shaft.machine = .purging then s.blocks.chain.anyPurge else s.blocks.chain.work) = reason := by
      rcases hm with e | e <;> simp only [reason, e]
      · rfl
      · exact congrArg (s.blocks.chain.slots.any ·) (funext fun x => by cases x <;> rfl)
    have chosen : decisionOpen counted = { counted with shaft := { counted.shaft with
        decided := true, continues := goOn, parkRequested := s.blocks.shaft.parkRequested || !goOn } } := by
      simp only [goOn, ← why]
      rfl
    exact congrArg (fun c => Host.Outcome.next { s with blocks := c }) chosen
  · intro h counted clear
    rw [exec_encoderSample, forwardSample_meets station h nofun]
    have headClear : s.blocks.chain.headClear = clear := rfl
    exact congrArg (fun x => Host.Outcome.next { s with blocks := { counted with chain := { s.blocks.chain with
      grant := s.blocks.shaft.continues && x && decide (s.blocks.alarm.demand < 3) } } }) headClear

end Sys2Proof.Machine

end

section
/-! # Nothing to plan, and the marks of a purge -/

namespace Sys2Proof.Machine

set_option Elab.async false

variable {a b : Blocks}

/-! ## Nothing to plan (R59, R60, R70) -/

theorem cancelFrom_of_nothing (h : b.board.nothingToPlan) (k : Nat) : cancelFrom k b = b := by
  have none : b.board.plannedFrom k = [] := by
    rw [Board.plannedFrom, List.map_eq_nil_iff, List.filter_eq_nil_iff]
    intro c hc
    simp [(h c hc).2]
  rw [cancelFrom, none, List.foldl_nil]

/-- R59, R60: with nothing to plan a planning event sets the stop cause, blocked or not. -/
theorem planningEvent_of_nothing (h : b.board.nothingToPlan) : ∃ c, planningEvent b = setStopCause c b := by
  have none : b.board.queue = [] := by
    rw [Board.queue, List.map_eq_nil_iff, List.filter_eq_nil_iff]
    intro c hc
    simp [(h c hc).1]
  unfold planningEvent
  split
  · exact ⟨_, rfl⟩
  · rw [none]
    exact ⟨_, rfl⟩

/-- A planning event that is blocked sets the stop cause, and one that is not leaves it. -/
theorem noteBlocked_eq (b : Blocks) : ∃ c, noteBlocked b = setStopCause c b := by
  unfold noteBlocked
  split
  · exact ⟨_, rfl⟩
  · exact ⟨b.planner.stopCause, rfl⟩

/-! ### Cancellations and the grant -/

theorem choose_chain_grant (b : Blocks) : (choose b).chain.grant = b.chain.grant := by rw [choose_chain]

theorem undoReservation_grant (n : Nat) (b : Blocks) : (undoReservation n b).1.chain.grant = b.chain.grant := by
  unfold undoReservation
  split
  · rfl
  · split
    · simp [Blocks.setSlot]
    · rfl

theorem cancelFrom_grant (k : Nat) (b : Blocks) : (cancelFrom k b).chain.grant = b.chain.grant :=
  foldl_leaves (fun c : Blocks => c.chain.grant) cancelStep (fun c n => undoReservation_grant n c) _ b

/-- R152: what the entry into HALTED leaves, the rest of the shaft being as before. -/
theorem enterHalted_shaft (b : Blocks) : (enterHalted b).shaft =
    { b.shaft with machine := .halted, stopPending := false, purgeRequested := false } := by
  simp [enterHalted]

theorem enterHalted_grant (b : Blocks) : (enterHalted b).chain.grant = false := by
  simp [enterHalted, cancelFrom_grant]

/-! ## The marks of a purge (R160) -/

/-- R160: the chain with every OCCUPIED slot marked. -/
def Chain.marked (c : Chain) : Chain := { c with slots := c.slots.mapIdx fun pitch s => markPurge c pitch s }

theorem markPurge_used (c : Chain) (pitch : Nat) (s : Slot) : (markPurge c pitch s).used = s.used := by
  cases s <;> rfl

theorem markPurge_step (c : Chain) (pitch : Nat) (s : Slot) : (markPurge c pitch s).step? = s.step? := by
  cases s <;> rfl

theorem followMark_number (slots : List Slot) (c : StepContext) : (followMark slots c).number = c.number := by
  unfold followMark
  (repeat' split) <;> rfl

/-- R160: a mark makes no step QUEUED or PLANNED. -/
theorem followMark_plannable {slots : List Slot} {c : StepContext} (h : c.state ≠ .queued ∧ c.state ≠ .planned) :
    (followMark slots c).state ≠ .queued ∧ (followMark slots c).state ≠ .planned := by
  unfold followMark
  split
  · exact h
  · split
    · dsimp only
      split <;> exact ⟨nofun, nofun⟩
    · exact h

/-- R160: a step that no slot names keeps its context. -/
theorem followMark_of_unnamed {slots : List Slot} {c : StepContext} (h : ∀ s ∈ slots, s.step? ≠ some c.number) :
    followMark slots c = c := by
  have none : slots.find? (fun s => s.isOccupied && decide (s.step? = some c.number)) = none := by
    rw [List.find?_eq_none]
    intro s hs
    simp [h s hs]
  unfold followMark
  rw [none]
  split <;> rfl

/-- R160: a step that one slot alone names follows its mark. -/
theorem followMark_of_named {slots : List Slot} {c : StepContext} {pitch : Nat} {o : Component}
    (hs : slots[pitch]? = some (.occupied o)) (ho : o.step = some c.number)
    (hq : ∀ q s, slots[q]? = some s → s.step? = some c.number → q = pitch) :
    followMark slots c = if c.state = .resolved then c
      else { c with state := if o.disposition = .divert then .diverting else .stripping } := by
  have found : slots.find? (fun s => s.isOccupied && decide (s.step? = some c.number)) = some (.occupied o) := by
    cases hf : slots.find? (fun s => s.isOccupied && decide (s.step? = some c.number)) with
    | none =>
      have := List.find?_eq_none.mp hf _ (List.mem_of_getElem? hs)
      simp [Slot.isOccupied, Slot.step?, ho] at this
    | some s =>
      obtain ⟨q, hq'⟩ := List.mem_iff_getElem?.mp (List.mem_of_find?_eq_some hf)
      have named := List.find?_some hf
      simp only [Bool.and_eq_true, decide_eq_true_eq] at named
      obtain rfl := hq q s hq' named.2
      exact hq'.symm.trans hs
  unfold followMark
  rw [found]

theorem Board.context?_map {d : Board} {f : StepContext → StepContext} (hf : ∀ c, (f c).number = c.number) (n : Nat) :
    ({ d with window := d.window.map f } : Board).context? n = (d.context? n).map f := by
  simp only [Board.context?, List.find?_map]
  congr 2
  funext c
  simp [hf]

theorem Board.context?_number {d : Board} {n : Nat} {c : StepContext} (h : d.context? n = some c) : c.number = n := by
  simpa using List.find?_some h

/-- R160: the board's part of the marks. -/
theorem markAllPurge_board (b : Blocks) :
    (markAllPurge b).board = { b.board with window := b.board.window.map (followMark b.chain.marked.slots) } := by
  simp [markAllPurge, Chain.marked]

theorem markAllPurge_chain (b : Blocks) : (markAllPurge b).chain = b.chain.marked := by
  simp [markAllPurge, Chain.marked]

theorem markAllPurge_nothing (h : b.board.nothingToPlan) : (markAllPurge b).board.nothingToPlan := by
  rw [markAllPurge_board]
  intro c hc
  obtain ⟨d, hd, rfl⟩ := List.mem_map.mp hc
  exact followMark_plannable (h d hd)

/-! ### A choice of the candidate keeps the lock and the insertion record (R112, R113) -/

theorem applyTarget_lock (c : StepContext) (b : Blocks) : (applyTarget c b).positioner.lock = b.positioner.lock := by
  unfold applyTarget
  (repeat' split) <;> rfl

theorem applySpan_lock (n : Nat) (b : Blocks) : (applySpan n b).positioner.lock = b.positioner.lock := by
  unfold applySpan
  split <;> rfl

theorem compareProfile_record (h : Head) (p : Nat) : (h.compareProfile p).record = h.record := by
  unfold Head.compareProfile
  (repeat' split) <;> rfl

theorem applyCandidate_lock (n : Nat) (b : Blocks) : (applyCandidate n b).positioner.lock = b.positioner.lock := by
  unfold applyCandidate
  split
  · rfl
  · dsimp only
    split
    · exact applyTarget_lock _ b
    · rw [Blocks.onHead_positioner, applySpan_lock, applyTarget_lock]

theorem applyCandidate_record (n : Nat) (b : Blocks) : (applyCandidate n b).head.record = b.head.record := by
  unfold applyCandidate
  split
  · rfl
  · dsimp only
    split
    · rw [applyTarget_head]
    · rw [Blocks.onHead_head, applySpan_head, applyTarget_head]
      exact compareProfile_record _ _

@[simp] theorem choose_lock (b : Blocks) : (choose b).positioner.lock = b.positioner.lock := by
  unfold choose
  dsimp only
  split
  · rw [applyCandidate_lock]
    rfl
  · rfl

@[simp] theorem choose_record (b : Blocks) : (choose b).head.record = b.head.record := by
  unfold choose
  dsimp only
  split
  · rw [applyCandidate_record]
    rfl
  · rfl

/-! ### A purge's start with nothing to plan (R160) -/

theorem markAllPurge_lock (b : Blocks) : (markAllPurge b).positioner.lock = b.positioner.lock := by simp [markAllPurge]

theorem markAllPurge_source (b : Blocks) : (markAllPurge b).source = b.source := by simp [markAllPurge]

theorem Chain.slots_of_unoccupied {c : Chain} (h : c.occupiedCount = 0) : ∀ s ∈ c.slots, s.isOccupied = false := by
  rw [Chain.occupiedCount, List.length_eq_zero_iff, List.filter_eq_nil_iff] at h
  simpa using h

/-- R160: a purge of a chain with no OCCUPIED slot marks nothing. -/
theorem Chain.marked_of_unoccupied {c : Chain} (h : c.occupiedCount = 0) : c.marked = c := by
  have same : (c.slots.mapIdx fun pitch s => markPurge c pitch s) = c.slots := by
    refine List.ext_getElem (by simp) fun i hi _ => ?_
    rw [List.getElem_mapIdx]
    have hu := Chain.slots_of_unoccupied h _ (List.getElem_mem (by simpa using hi) : c.slots[i] ∈ c.slots)
    generalize c.slots[i] = s at hu
    cases s
    · rfl
    · rfl
    · cases hu
  rw [Chain.marked, same]

theorem followMark_of_unoccupied {slots : List Slot} (h : ∀ s ∈ slots, s.isOccupied = false) (c : StepContext) :
    followMark slots c = c := by
  have none : slots.find? (fun s => s.isOccupied && decide (s.step? = some c.number)) = none := by
    rw [List.find?_eq_none]
    intro s hs
    simp [h s hs]
  unfold followMark
  rw [none]
  split <;> rfl

theorem markAllPurge_board_of_unoccupied (h : b.chain.occupiedCount = 0) : (markAllPurge b).board = b.board := by
  rw [markAllPurge_board, Chain.marked_of_unoccupied h,
    funext (followMark_of_unoccupied (Chain.slots_of_unoccupied h))]
  simp

/-- The blocks after a purge's marks, but for the planner. -/
theorem purgeStart_marks (hn : b.board.nothingToPlan) :
    ∃ c, noteBlocked (cancelFrom 0 ((markAllPurge b).onPlanner fun p => { p with freeze := true }))
      = (markAllPurge b).onPlanner fun p => { p with freeze := true, stopCause := c } := by
  rw [cancelFrom_of_nothing (b := (markAllPurge b).onPlanner _) (markAllPurge_nothing hn)]
  obtain ⟨c, e⟩ := noteBlocked_eq ((markAllPurge b).onPlanner fun p => { p with freeze := true })
  exact ⟨c, e⟩

/-- R160: a purge that marks a slot turns the machine. -/
theorem purgeStart_of_occupied (hn : b.board.nothingToPlan) (ho : b.chain.occupiedCount ≠ 0) (hd : b.alarm.demand < 3) :
    ∃ p : Planner, p.freeze = true ∧ purgeStart b = { markAllPurge b with
      shaft := { b.shaft with machine := .purging, drive := .driving, parkRequested := false }
      chain := { b.chain.marked with grant := b.chain.marked.headClear }, planner := p } := by
  obtain ⟨c, e⟩ := purgeStart_marks hn
  refine ⟨{ (markAllPurge b).planner with freeze := true, stopCause := c }, rfl, ?_⟩
  have low : ((markAllPurge b).onPlanner fun p => { p with freeze := true, stopCause := c }).alarm.demand < 3 := by
    simpa using hd
  unfold purgeStart
  dsimp only
  rw [if_pos ho, e, startTurning_of_low _ low]
  simp [Blocks.onPlanner, markAllPurge_chain]

/-- R160: a purge that marks no slot leaves the machine, with the freeze cleared. -/
theorem purgeStart_of_unoccupied (hn : b.board.nothingToPlan) (ho : b.chain.occupiedCount = 0) :
    ∃ p : Planner, p.freeze = false ∧ purgeStart b = { markAllPurge b with planner := p } := by
  obtain ⟨c, e⟩ := purgeStart_marks hn
  have nothing : (((markAllPurge b).onPlanner fun p => { p with freeze := true, stopCause := c }).onPlanner
      fun p => { p with freeze := false }).board.nothingToPlan := markAllPurge_nothing hn
  obtain ⟨d, e'⟩ := planningEvent_of_nothing nothing
  refine ⟨{ (markAllPurge b).planner with freeze := false, stopCause := d }, rfl, ?_⟩
  unfold purgeStart
  dsimp only
  rw [if_neg (not_not.mpr ho), e, e']
  rfl

end Sys2Proof.Machine

end

section
/-! # The cam table's conditions; PURGE -/

namespace Sys2Proof.Machine

set_option Elab.async false

variable {a b : Blocks}

/-! ## The cam table (R5) -/

theorem camConditions_eq (s : Shaft) : camConditions s = s.camOrder := rfl

theorem Shaft.camFault_of_passes {s : Shaft} (h : s.camPasses) : s.camFault = none := by
  obtain ⟨loaded, holds⟩ := h
  have all : (List.range 11).find? (fun i => !(look s.cam i).loaded) = none := by
    rw [List.find?_eq_none]
    intro i hi
    simp [loaded i (List.mem_range.mp hi)]
  have conditions : s.camOrder.find? (fun c => !c.1) = none := by
    rw [List.find?_eq_none]
    intro c hc
    obtain ⟨i, hi, rfl⟩ := List.mem_iff_getElem.mp hc
    have := holds i hi
    rw [Shaft.camHolds, List.getD_eq_getElem _ _ hi] at this
    simp [this]
  rw [Shaft.camFault, all, camConditions_eq]
  simp [conditions]

theorem Shaft.camFault_of_fails {s : Shaft} {e : Nat} (h : s.camFails e) : s.camFault = some e := by
  rcases h with ⟨i, hi, unloaded, before, rfl⟩ | ⟨loaded, i, hi, fails, before, rfl⟩
  · have first : (List.range 11).find? (fun i => !(look s.cam i).loaded) = some e := by
      rw [List.find?_range_eq_some]
      refine ⟨by simp [unloaded], List.mem_range.mpr hi, fun j hj => by simp [before j hj]⟩
    rw [Shaft.camFault, first]
  · have all : (List.range 11).find? (fun i => !(look s.cam i).loaded) = none := by
      rw [List.find?_eq_none]
      intro i hi
      simp [loaded i (List.mem_range.mp hi)]
    have len : s.camOrder.length = 14 := rfl
    have first : s.camOrder.find? (fun c => !c.1) = some (s.camOrder.getD i (true, 0)) := by
      rw [List.find?_eq_some_iff_getElem]
      refine ⟨by simpa [Shaft.camHolds] using fails, i, by omega, (List.getD_eq_getElem _ _ (by omega)).symm, ?_⟩
      intro j hj
      have := before j hj
      rw [Shaft.camHolds, List.getD_eq_getElem _ _ (by omega)] at this
      simp [this]
    rw [Shaft.camFault, all, camConditions_eq, first]
    rfl

/-! ## PURGE (R159, R160) -/

/-- R159: the states in which a purge is taken. -/
def MachineState.rests (m : MachineState) : Prop := m = .stopped ∨ m = .waiting

theorem purgeObjection_of_ready (hm : b.shaft.machine.rests) (hd : b.alarm.demand < 3)
    (hc : b.board.phase = .none → b.shaft.camPasses) : purgeObjection b = none := by
  have state : ¬ (b.shaft.machine ≠ .stopped ∧ b.shaft.machine ≠ .waiting) :=
    fun h => hm.elim h.1 h.2
  unfold purgeObjection
  rw [if_neg state, if_neg (Nat.not_le.mpr hd)]
  split
  · next hb => rw [Shaft.camFault_of_passes (hc hb)]; rfl
  · rfl

theorem purgeObjection_of_state (hm : ¬ b.shaft.machine.rests) : purgeObjection b = some (.state, .none) := by
  have state : b.shaft.machine ≠ .stopped ∧ b.shaft.machine ≠ .waiting := not_or.mp hm
  rw [purgeObjection, if_pos state]

theorem purgeObjection_of_alarms (hm : b.shaft.machine.rests) (hd : 3 ≤ b.alarm.demand) :
    purgeObjection b = some (.alarmsOutstanding, .none) := by
  have state : ¬ (b.shaft.machine ≠ .stopped ∧ b.shaft.machine ≠ .waiting) :=
    fun h => hm.elim h.1 h.2
  rw [purgeObjection, if_neg state, if_pos hd]

theorem purgeObjection_of_cam {e : Nat} (hm : b.shaft.machine.rests) (hd : b.alarm.demand < 3)
    (hb : b.board.phase = .none) (hc : b.shaft.camFails e) : purgeObjection b = some (.config, .entry 0 e) := by
  have state : ¬ (b.shaft.machine ≠ .stopped ∧ b.shaft.machine ≠ .waiting) :=
    fun h => hm.elim h.1 h.2
  rw [purgeObjection, if_neg state, if_neg (Nat.not_le.mpr hd), if_pos hb, Shaft.camFault_of_fails hc]
  rfl

/-- R160: an OCCUPIED slot after the marks. -/
theorem Chain.marked_getElem? {c : Chain} {pitch : Nat} {o : Component} (h : c.slotOf pitch = .occupied o) :
    c.marked.slots[pitch]? = some (.occupied { o with
      disposition := if c.gateOffset ≤ c.offsetOf pitch then .divert else .strip, reason := some .purge }) := by
  unfold Chain.slotOf at h
  cases hs : c.slots[pitch]? with
  | none => rw [hs] at h; cases h
  | some s =>
    rw [hs] at h
    obtain rfl : s = .occupied o := h
    simp [Chain.marked, hs, markPurge]

theorem Chain.marked_getElem?_step {c : Chain} {q : Nat} {s : Slot} (h : c.marked.slots[q]? = some s) :
    q < c.slots.length ∧ s.step? = (c.slotOf q).step? := by
  have hq : q < c.slots.length := by simpa [Chain.marked] using (List.getElem?_eq_some_iff.mp h).1
  refine ⟨hq, ?_⟩
  simp only [Chain.marked, List.getElem?_mapIdx, List.getElem?_eq_getElem hq, Option.map_some, Option.some.injEq] at h
  rw [← h, markPurge_step, Chain.slotOf, List.getElem?_eq_getElem hq]
  rfl

/-- R160: what becomes of a step that one OCCUPIED slot alone names. -/
theorem markAllPurge_context_of_named {pitch : Nat} {o : Component} {c : StepContext}
    (hs : b.chain.slotOf pitch = .occupied o) (ho : o.step = some c.number)
    (hq : ∀ q, q < b.chain.slots.length → (b.chain.slotOf q).step? = some c.number → q = pitch)
    (hc : b.board.context? c.number = some c) :
    (markAllPurge b).board.context? c.number = some (if c.state = .resolved then c
      else if b.chain.gateOffset ≤ b.chain.offsetOf pitch then { c with state := .diverting }
      else { c with state := .stripping }) := by
  rw [markAllPurge_board, Board.context?_map (followMark_number _), hc, Option.map_some,
    followMark_of_named (Chain.marked_getElem? hs) ho fun q s h hstep => ?_]
  · by_cases offset : b.chain.gateOffset ≤ b.chain.offsetOf pitch <;> simp [offset]
  · obtain ⟨inside, same⟩ := Chain.marked_getElem?_step h
    exact hq q inside (same ▸ hstep)

/-- R160: a step that no slot names keeps its context. -/
theorem markAllPurge_context_of_unnamed {n : Nat} (h : ∀ slot ∈ b.chain.slots, slot.step? ≠ some n) :
    (markAllPurge b).board.context? n = b.board.context? n := by
  rw [markAllPurge_board, Board.context?_map (followMark_number _)]
  cases hc : b.board.context? n with
  | none => rfl
  | some c =>
    rw [Option.map_some, followMark_of_unnamed]
    intro s hs
    obtain ⟨q, hq⟩ := List.mem_iff_getElem?.mp hs
    obtain ⟨inside, same⟩ := Chain.marked_getElem?_step hq
    rw [same, Chain.slotOf, List.getElem?_eq_getElem inside, Board.context?_number hc]
    exact h _ (List.getElem_mem inside)

/-- R160: the blocks after a purge that marked a slot. -/
structure Blocks.Purging (b c : Blocks) : Prop where
  shaft : c.shaft = { b.shaft with machine := .purging, drive := .driving, parkRequested := false }
  freeze : c.planner.freeze = true
  chain : c.chain = { b.chain.marked with grant := b.chain.marked.headClear }
  alarm : c.alarm = b.alarm
  source : c.source = b.source
  lock : c.positioner.lock = b.positioner.lock
  board : c.board = (markAllPurge b).board

theorem purgeStart_purging (hn : b.board.nothingToPlan) (ho : b.chain.occupiedCount ≠ 0) (hd : b.alarm.demand < 3) :
    b.Purging (purgeStart b) := by
  obtain ⟨p, freeze, e⟩ := purgeStart_of_occupied hn ho hd
  rw [e]
  exact ⟨rfl, freeze, rfl, markAllPurge_alarm b, markAllPurge_source b, markAllPurge_lock b, rfl⟩

/-- R160: the blocks after a purge that marked no slot. -/
structure Blocks.Unpurged (b c : Blocks) : Prop where
  chain : c.chain = b.chain
  freeze : c.planner.freeze = false
  shaft : c.shaft = b.shaft
  alarm : c.alarm = b.alarm
  board : c.board = b.board

theorem purgeStart_unpurged (hn : b.board.nothingToPlan) (ho : b.chain.occupiedCount = 0) : b.Unpurged (purgeStart b) := by
  obtain ⟨p, freeze, e⟩ := purgeStart_of_unoccupied hn ho
  rw [e]
  exact ⟨(markAllPurge_chain b).trans (Chain.marked_of_unoccupied ho), freeze, markAllPurge_shaft b, markAllPurge_alarm b,
    markAllPurge_board_of_unoccupied ho⟩

theorem exec_purge (s : State) :
    exec .purge s = answerRow (.control 3) 2 (fun _ b => answerRequest (purgeObjection b) purgeStart b) s := rfl

theorem purgeKey_resting (headUp : Bool) (hm : b.shaft.machine.rests) :
    purgeKey headUp b = keyRequest (purgeObjection b) purgeStart b := by
  rcases hm with h | h <;> simp [purgeKey, h]

/-- R153: in the turning states the PURGE key is ignored. -/
theorem purgeKey_ignored (headUp : Bool) (hm : ¬ b.shaft.machine.rests) (hh : b.shaft.machine ≠ .halted) :
    purgeKey headUp b = b := by
  obtain ⟨hs, hw⟩ := not_or.mp hm
  cases e : b.shaft.machine <;> simp_all [purgeKey]

/-- Settles O58: by the objections of R159, and by the marks that a purge's start makes. -/
theorem purgeMarksTheChain : Obligations.PurgeMarksTheChain := by
  intro s sh rests standing marked purging quiet passes
  have hmarked : marked = s.blocks.chain.marked := by
    refine congrArg (fun f => { s.blocks.chain with slots := s.blocks.chain.slots.mapIdx f }) ?_
    funext pitch slot
    cases slot <;> rfl
  have none_of (h : passes) : purgeObjection s.blocks = none :=
    purgeObjection_of_ready h.1 h.2.1 fun hb => h.2.2.1 (not_not.mpr hb)
  have purges (h : passes) (ho : s.blocks.chain.occupiedCount ≠ 0) (t : State) (ht : t.blocks = purgeStart s.blocks) :
      purging t := by
    obtain ⟨shaft, freeze, chain, alarm, source, lock, board⟩ := purgeStart_purging h.2.2.2 ho h.2.1
    simp only [purging, ht, hmarked, board]
    exact ⟨shaft, freeze, chain, alarm, source, lock, fun pitch o c => markAllPurge_context_of_named,
      fun n => markAllPurge_context_of_unnamed⟩
  have leaves (h : passes) (ho : s.blocks.chain.occupiedCount = 0) (t : State) (ht : t.blocks = purgeStart s.blocks) :
      quiet t := by
    obtain ⟨chain, freeze, shaft, alarm, board⟩ := purgeStart_unpurged h.2.2.2 ho
    simp only [quiet, ht]
    exact ⟨chain, freeze, shaft, alarm, board⟩
  constructor
  · intro x rest offers refused
    have accepted (h : passes) : exec .purge s = .next (s.taken rest (purgeStart s.blocks)) := by
      rw [exec_purge]
      refine answerControl_accept (by decide) offers ?_
      rw [none_of h]
      rfl
    have refuses {reason : RefusalReason} {detail : Detail} (h : purgeObjection s.blocks = some (reason, detail)) :
        refused reason detail := by
      simp only [refused]
      rw [exec_purge]
      refine answerControl_refuse (by decide) offers ?_
      rw [h]
      rfl
    exact ⟨fun h ho => ⟨_, accepted h, purges h ho _ rfl, rfl⟩, fun h ho => ⟨_, accepted h, leaves h ho _ rfl, rfl⟩,
      fun h => refuses (purgeObjection_of_state h), fun h hd => refuses (purgeObjection_of_alarms h hd),
      fun e h hd hb hc => refuses (purgeObjection_of_cam h hd (not_not.mp hb) hc)⟩
  · intro headUp
    have pressed (h : passes) : purgeKey headUp s.blocks = purgeStart s.blocks := by
      rw [purgeKey_resting headUp h.1, none_of h, keyRequest]
    refine ⟨fun h ho => ⟨_, rfl, purges h ho _ (pressed h), rfl⟩, fun h ho => ⟨_, rfl, leaves h ho _ (pressed h), rfl⟩,
      fun e hr h => onlyBlocks_of_same (f := purgeKey headUp) ?_,
      fun h hh => onlyBlocks_of_same (f := purgeKey headUp) (purgeKey_ignored headUp h hh)⟩
    rw [purgeKey_resting headUp hr]
    by_cases hd : 3 ≤ s.blocks.alarm.demand
    · rw [purgeObjection_of_alarms hr hd, keyRequest]
    · obtain ⟨hb, hc⟩ := h.resolve_left hd
      rw [purgeObjection_of_cam hr (by omega) (not_not.mp hb) hc, keyRequest]

end Sys2Proof.Machine

end

section
/-! # The park event -/

namespace Sys2Proof.Machine

set_option Elab.async false

variable {a b : Blocks}

/-! ## A shaft at rest stays at rest (R8, R9) -/

/-- The shaft stands at angle `n`, at the park angle or past it, with no revolution live and no park asked for, and with no
purge asked for where `dropped` says so. -/
structure Shaft.idle (s : Shaft) (n : Nat) (dropped : Bool) : Prop where
  angle : s.angle = n
  past : s.parkAngle ≤ n
  still : s.live = false
  closed : s.opened = Vector.replicate 10 false
  unasked : s.parkRequested = false
  purge : dropped = true → s.purgeRequested = false

section

variable {n : Nat} {d : Bool}

theorem brake_idle (h : b.shaft.idle n d) : (brake b).shaft.idle n d := by
  rw [brake_shaft, h.still]
  exact ⟨h.angle, h.past, h.still, h.closed, rfl, h.purge⟩

theorem enterHalted_idle (h : b.shaft.idle n d) : (enterHalted b).shaft.idle n d := by
  rw [enterHalted_shaft]
  exact ⟨h.angle, h.past, h.still, h.closed, h.unasked, fun _ => rfl⟩

theorem enterStopped_idle (h : b.shaft.idle n d) : (enterStopped b).shaft.idle n d :=
  ⟨h.angle, h.past, h.still, h.closed, h.unasked, h.purge⟩

theorem startTurning_idle (m : MachineState) (h : b.shaft.idle n d) : (startTurning m b).shaft.idle n d :=
  ⟨h.angle, h.past, h.still, h.closed, rfl, h.purge⟩

theorem enter_idle (m : MachineState) (h : b.shaft.idle n d) :
    (b.onShaft fun s => { s with machine := m }).shaft.idle n d :=
  ⟨h.angle, h.past, h.still, h.closed, h.unasked, h.purge⟩

theorem settleWaiting_idle (h : b.shaft.idle n d) : (settleWaiting b).shaft.idle n d := by
  rcases settleWaiting_cases b with e | ⟨-, -, e⟩ | ⟨-, -, -, e⟩ <;> rw [e]
  · exact h
  · exact enterStopped_idle h
  · exact startTurning_idle _ h

theorem enterWaiting_idle (h : b.shaft.idle n d) : (enterWaiting b).shaft.idle n d :=
  settleWaiting_idle (enter_idle _ h)

theorem stopNow_idle (h : b.shaft.idle n d) : (stopNow b).shaft.idle n d := by
  rcases stopNow_cases b with ⟨-, e⟩ | ⟨-, e⟩ | ⟨-, e⟩ <;> rw [e]
  · exact enterHalted_idle (brake_idle h)
  · exact enterHalted_idle h
  · exact h

/-- R17: past the park angle no park is asked for. -/
theorem stopAtPark_idle (h : b.shaft.idle n d) : (stopAtPark b).shaft.idle n d := by
  have past : ¬ b.shaft.angle < b.shaft.parkAngle := by
    have := h.past
    have := h.angle
    omega
  have braked := enterHalted_idle (brake_idle h)
  unfold stopAtPark
  split
  · rw [if_neg past]
    exact braked
  · rw [if_neg past]
    exact braked
  · rw [if_neg fun park => past park.2]
    exact braked
  · rw [if_neg fun park => past park.2]
    exact braked
  · exact enterHalted_idle h
  · exact h
  · exact h

theorem reactRise_idle (before : Alarm) (h : b.shaft.idle n d) : (reactRise before b).shaft.idle n d := by
  unfold reactRise
  dsimp only
  have held : (if before.demand < 2 ∧ 2 ≤ b.alarm.demand then holdOnset b else b).shaft.idle n d := by
    split
    · rwa [holdOnset_shaft]
    · exact h
  split
  · exact stopNow_idle held
  · split
    · exact stopAtPark_idle held
    · exact held

theorem occur_idle (code : Nat) (c : AlarmContext) (h : b.shaft.idle n d) : (occur code c b).shaft.idle n d :=
  reactRise_idle _ (by rwa [raise_shaft])

theorem reserve_idle (step kind index source j : Nat) (h : b.shaft.idle n d) :
    (reserve step kind index source j b).shaft.idle n d := by
  unfold reserve
  refine settleWaiting_idle ?_
  rw [choose_shaft]
  split <;> exact h

theorem stopNoSource_idle (step kind : Nat) (h : b.shaft.idle n d) : (stopNoSource step kind b).shaft.idle n d := by
  unfold stopNoSource
  dsimp only
  split
  · exact h
  · exact occur_idle (b := Blocks.onSource _ _) _ _ h

theorem planPass_idle (l : List Nat) (h : b.shaft.idle n d) : (planPass l b).shaft.idle n d := by
  induction l generalizing b with
  | nil => exact h
  | cons step rest ih =>
    unfold planPass
    split
    · exact ih h
    · split
      · exact stopNoSource_idle _ _ h
      · split
        · exact stopNoSource_idle _ _ h
        · split
          · exact h
          · exact ih (reserve_idle _ _ _ _ _ h)

theorem planningEvent_idle (h : b.shaft.idle n d) : (planningEvent b).shaft.idle n d := by
  unfold planningEvent
  split
  · exact h
  · exact planPass_idle _ h

theorem purgeStart_idle (h : b.shaft.idle n d) : (purgeStart b).shaft.idle n d := by
  have marked : (noteBlocked (cancelFrom 0 ((markAllPurge b).onPlanner fun p => { p with freeze := true }))).shaft.idle n d := by
    simpa using h
  unfold purgeStart
  dsimp only
  split
  · exact startTurning_idle _ marked
  · refine planningEvent_idle ?_
    rw [Blocks.onPlanner_shaft]
    exact marked

theorem purgeFromHalt_idle (h : b.shaft.idle n d) : (purgeFromHalt b).shaft.idle n d := by
  have started := purgeStart_idle (enter_idle .waiting h)
  unfold purgeFromHalt
  dsimp only
  split
  · rwa [noteBlocked_shaft]
  · exact settleWaiting_idle started

/-- R9, R157: every park leaves the shaft at rest, and one that ends a recovery drops the purge asked for with it. -/
theorem afterPark_idle (h : b.shaft.idle n false) :
    (afterPark b).shaft.idle n (decide (b.shaft.machine = .recovering)) := by
  cases hm : b.shaft.machine <;> simp only [afterPark, hm, reduceCtorEq, decide_false, decide_true]
  case stopped => exact h
  case waiting => exact h
  case halted => exact h
  case homing =>
    split
    · exact enterHalted_idle h
    · split
      · exact enterStopped_idle h
      · exact enterWaiting_idle h
  case cycling =>
    split
    · exact enterHalted_idle h
    · split
      · exact enterStopped_idle h
      · exact enterWaiting_idle h
  case purging =>
    split
    · exact enterHalted_idle h
    · split
      · exact planningEvent_idle (enterStopped_idle h)
      · exact planningEvent_idle (enterWaiting_idle h)
  case recovering =>
    have dropped : (b.onShaft fun s => { s with purgeRequested := false }).shaft.idle n true :=
      ⟨h.angle, h.past, h.still, h.closed, h.unasked, fun _ => rfl⟩
    split
    · exact enterHalted_idle dropped
    · split
      · exact planningEvent_idle (enterStopped_idle dropped)
      · split
        · exact purgeFromHalt_idle dropped
        · exact planningEvent_idle (enterWaiting_idle dropped)

end

/-! ## What a park leads to (R12, R13, R14, R157, R161) -/

/-- The machine is in state `m` with its drive so, and the chain map is `c`. -/
def Blocks.Ends (b : Blocks) (m : MachineState) (d : Drive) (c : Chain) : Prop :=
  b.shaft.machine = m ∧ b.shaft.drive = d ∧ b.chain = c

/-- The machine is STOPPED and HELD, with no STOP pending, and the chain map is `c`. -/
def Blocks.Stops (b : Blocks) (c : Chain) : Prop := b.Ends .stopped .held c ∧ b.shaft.stopPending = false

/-- R13: `c` is what WAITING leads to from `b`. -/
def Blocks.Waits (b c : Blocks) : Prop :=
  if b.board.phase = .none then c.Stops b.chain
  else if b.chain.work = true then c.Ends .cycling .driving { b.chain with grant := b.chain.headClear }
  else c.Ends .waiting .held b.chain

theorem enterStopped_stops (hh : b.shaft.drive = .held) : (enterStopped b).Stops b.chain := ⟨⟨rfl, hh, rfl⟩, rfl⟩

theorem settleWaiting_waits (hm : b.shaft.machine = .waiting) (hh : b.shaft.drive = .held) (hd : b.alarm.demand < 3) :
    b.Waits (settleWaiting b) := by
  rw [settleWaiting_of_low hm hd]
  unfold Blocks.Waits
  split
  · exact ⟨⟨rfl, hh, rfl⟩, rfl⟩
  · split
    · exact ⟨rfl, rfl, rfl⟩
    · exact ⟨hm, hh, rfl⟩

theorem enterWaiting_waits (hh : b.shaft.drive = .held) (hd : b.alarm.demand < 3) : b.Waits (enterWaiting b) :=
  settleWaiting_waits (b := b.onShaft fun s => { s with machine := .waiting }) rfl hh hd

/-- R13: WAITING brings no step to be planned. -/
theorem enterWaiting_board (b : Blocks) : (enterWaiting b).board = b.board := by
  rcases settleWaiting_cases (b.onShaft fun s => { s with machine := .waiting }) with e | ⟨-, -, e⟩ | ⟨-, -, -, e⟩ <;>
    rw [enterWaiting, e] <;> rfl

/-- With nothing to plan a planning event changes neither the machine nor the chain. -/
theorem planningEvent_keeps (h : b.board.nothingToPlan) :
    (planningEvent b).shaft = b.shaft ∧ (planningEvent b).chain = b.chain := by
  obtain ⟨c, e⟩ := planningEvent_of_nothing h
  rw [e]
  exact ⟨rfl, rfl⟩

theorem Blocks.Stops.planned {c : Chain} (hs : b.Stops c) (h : b.board.nothingToPlan) : (planningEvent b).Stops c := by
  obtain ⟨shaft, chain⟩ := planningEvent_keeps h
  simp only [Blocks.Stops, Blocks.Ends, shaft, chain]
  exact hs

theorem Blocks.Waits.planned {c : Blocks} (hw : b.Waits c) (h : c.board.nothingToPlan) : b.Waits (planningEvent c) := by
  obtain ⟨shaft, chain⟩ := planningEvent_keeps h
  simp only [Blocks.Waits, Blocks.Stops, Blocks.Ends, shaft, chain]
  exact hw

/-- R157, R160: a purge asked for with a recovery that ends at park. -/
theorem purgeFromHalt_purging (hn : b.board.nothingToPlan) (ho : b.chain.occupiedCount ≠ 0) (hd : b.alarm.demand < 3) :
    (purgeFromHalt b).Ends .purging .driving { b.chain.marked with grant := b.chain.marked.headClear }
      ∧ (purgeFromHalt b).planner.freeze = true := by
  obtain ⟨p, freeze, e⟩ := purgeStart_of_occupied (b := b.onShaft fun s => { s with machine := .waiting }) hn ho hd
  obtain ⟨c, e'⟩ := noteBlocked_eq (purgeStart (b.onShaft fun s => { s with machine := .waiting }))
  have halts : purgeFromHalt b = setStopCause c (purgeStart (b.onShaft fun s => { s with machine := .waiting })) := by
    unfold purgeFromHalt
    dsimp only
    rw [Blocks.onShaft_chain, if_pos ho]
    exact e'
  rw [halts, e]
  exact ⟨⟨rfl, rfl, rfl⟩, freeze⟩

theorem purgeFromHalt_waits (hn : b.board.nothingToPlan) (ho : b.chain.occupiedCount = 0) (hh : b.shaft.drive = .held)
    (hd : b.alarm.demand < 3) : b.Waits (purgeFromHalt b) := by
  obtain ⟨chain, -, shaft, alarm, board⟩ :=
    purgeStart_unpurged (b := b.onShaft fun s => { s with machine := .waiting }) hn ho
  have halts : purgeFromHalt b = settleWaiting (purgeStart (b.onShaft fun s => { s with machine := .waiting })) := by
    unfold purgeFromHalt
    dsimp only
    rw [Blocks.onShaft_chain, if_neg (not_not.mpr ho)]
  have waits := settleWaiting_waits (b := purgeStart (b.onShaft fun s => { s with machine := .waiting }))
    (by rw [shaft]; rfl) (by rw [shaft]; exact hh) (by rw [alarm]; exact hd)
  rw [halts]
  simp only [Blocks.Waits, chain, board] at waits
  exact waits

/-- R12: under a demand of STOP-AT-PARK or STOP-NOW every park ends in HALTED. -/
theorem afterPark_halts (hm : b.shaft.machine.turning = true) (hd : 3 ≤ b.alarm.demand) :
    ∃ c : Blocks, afterPark b = enterHalted c ∧ c.shaft.drive = b.shaft.drive := by
  cases e : b.shaft.machine <;> simp only [e, MachineState.turning, Bool.false_eq_true] at hm
  case homing => exact ⟨b, by simp [afterPark, e, hd], rfl⟩
  case cycling => exact ⟨b, by simp [afterPark, e, hd], rfl⟩
  case purging => exact ⟨b, by simp [afterPark, e, hd], rfl⟩
  case recovering => exact ⟨b.onShaft fun s => { s with purgeRequested := false }, by simp [afterPark, e, hd], rfl⟩

section

variable (hh : b.shaft.drive = .held) (hd : b.alarm.demand < 3)
include hh hd

theorem afterPark_homing (hm : b.shaft.machine = .homing) :
    if b.shaft.stopPending = true then (afterPark b).Stops b.chain else b.Waits (afterPark b) := by
  have goes : afterPark b = if b.shaft.stopPending then enterStopped b else enterWaiting b := by
    simp [afterPark, hm, Nat.not_le.mpr hd]
  rw [goes]
  split
  · exact enterStopped_stops hh
  · exact enterWaiting_waits hh hd

theorem afterPark_cycling (hm : b.shaft.machine = .cycling) :
    if b.shaft.stopPending = true ∨ b.board.phase = .none then (afterPark b).Stops b.chain
    else b.Waits (afterPark b) := by
  have goes : afterPark b =
      if b.shaft.stopPending = true ∨ b.board.phase = .none then enterStopped b else enterWaiting b := by
    simp [afterPark, hm, Nat.not_le.mpr hd]
  rw [goes]
  split
  · exact enterStopped_stops hh
  · exact enterWaiting_waits hh hd

theorem afterPark_purging (hm : b.shaft.machine = .purging) (hn : b.board.nothingToPlan) :
    if b.shaft.stopPending = true ∨ b.board.phase = .none then (afterPark b).Stops b.chain
    else b.Waits (afterPark b) := by
  have goes : afterPark b = if b.shaft.stopPending = true ∨ b.board.phase = .none then planningEvent (enterStopped b)
      else planningEvent (enterWaiting b) := by
    simp [afterPark, hm, Nat.not_le.mpr hd]
  rw [goes]
  split
  · exact (enterStopped_stops hh).planned hn
  · exact (enterWaiting_waits hh hd).planned (by rwa [enterWaiting_board])

theorem afterPark_recovering (hm : b.shaft.machine = .recovering) (hn : b.board.nothingToPlan) :
    if b.shaft.stopPending = true then (afterPark b).Stops b.chain
    else if b.shaft.purgeRequested = true ∧ b.chain.occupiedCount ≠ 0 then
      (afterPark b).Ends .purging .driving { b.chain.marked with grant := b.chain.marked.headClear }
        ∧ (afterPark b).planner.freeze = true
    else b.Waits (afterPark b) := by
  have goes : afterPark b =
      if b.shaft.stopPending = true then planningEvent (enterStopped (b.onShaft fun s => { s with purgeRequested := false }))
      else if b.shaft.purgeRequested = true then purgeFromHalt (b.onShaft fun s => { s with purgeRequested := false })
      else planningEvent (enterWaiting (b.onShaft fun s => { s with purgeRequested := false })) := by
    simp [afterPark, hm, Nat.not_le.mpr hd]
  rw [goes]
  by_cases hs : b.shaft.stopPending = true
  · rw [if_pos hs, if_pos hs]
    exact Blocks.Stops.planned (enterStopped_stops (b := b.onShaft fun s => { s with purgeRequested := false }) hh) hn
  · rw [if_neg hs, if_neg hs]
    by_cases hp : b.shaft.purgeRequested = true
    · rw [if_pos hp]
      by_cases ho : b.chain.occupiedCount ≠ 0
      · rw [if_pos ⟨hp, ho⟩]
        exact purgeFromHalt_purging (b := b.onShaft fun s => { s with purgeRequested := false }) hn ho hd
      · rw [if_neg fun h => ho h.2]
        exact purgeFromHalt_waits (b := b.onShaft fun s => { s with purgeRequested := false }) hn (not_not.mp ho) hh hd
    · rw [if_neg hp, if_neg fun h => hp h.1]
      refine Blocks.Waits.planned (b := b.onShaft fun s => { s with purgeRequested := false })
        (enterWaiting_waits hh hd) ?_
      rw [enterWaiting_board]
      exact hn

end

/-- The blocks at a park event, before the state that it leads to is entered (R9, R84). -/
def Blocks.atParkEvent (b : Blocks) : Blocks :=
  (b.onShaft fun s => { s.endRevolution with drive := .held, parkRequested := false }).onChain fun c =>
    { c with grant := false }

theorem parkEvent_eq (b : Blocks) : parkEvent b = afterPark b.atParkEvent := rfl

/-- R7, R9: the sample that takes a park request, at an angle where no window has an event. -/
theorem forwardSample_park (station : Station) (hr : b.driven) (hp : b.shaft.parkRequested = true)
    (ha : b.shaft.angle + 1 = b.shaft.parkAngle) (hb : b.shaft.angle + 1 ≤ 1439) (hd : b.shaft.distance < 1440)
    (hw : b.shaft.noWindowAt (b.shaft.angle + 1)) :
    encoderSample true false station b = afterPark b.stepped.atParkEvent := by
  have quiet : sampleWindows station b.stepped = b.stepped :=
    sampleWindows_none fun w => Shaft.eventAt_of_away (s := b.stepped.shaft) (hw w)
  have parks : b.stepped.shaftRunLine = true ∧ b.stepped.shaft.parkRequested = true
      ∧ b.stepped.shaft.angle = b.stepped.shaft.parkAngle :=
    ⟨(shaftRunLine_iff b.stepped).mpr hr, hp, ha⟩
  rw [forwardSample_driven station hr hb hd, quiet, takePark, if_pos parks, parkEvent_eq]

/-- Settles O17: the sample is the park event, and the machine state it parks from says what it leads to. -/
theorem parkEnds : Obligations.ParkEnds := by
  rintro station s a hr hp rfl ha hb hd hw m chain ends stops waits marked hm
  have taken := forwardSample_park station hr hp ha hb hd hw
  generalize hP : s.blocks.stepped.atParkEvent = P at taken
  have machine : P.shaft.machine = m := by rw [← hP]; rfl
  have idle : P.shaft.idle (s.blocks.shaft.angle + 1) false := by
    rw [← hP]
    exact ⟨rfl, ha.ge, rfl, rfl, rfl, nofun⟩
  have held : P.shaft.drive = .held := by rw [← hP]; rfl
  have map : P.chain = chain := by rw [← hP]; rfl
  have board : P.board = s.blocks.board := by rw [← hP]; rfl
  have alarm : P.alarm = s.blocks.alarm := by rw [← hP]; rfl
  have pending : P.shaft.stopPending = s.blocks.shaft.stopPending := by rw [← hP]; rfl
  have asked : P.shaft.purgeRequested = s.blocks.shaft.purgeRequested := by rw [← hP]; rfl
  have hmarked : chain.marked = marked := by
    refine congrArg (fun f => { chain with slots := chain.slots.mapIdx f }) ?_
    funext pitch slot
    cases slot <;> rfl
  have rests := afterPark_idle idle
  refine ⟨{ s with blocks := afterPark P }, by rw [exec_encoderSample, taken], rests.angle, rests.still,
    fun w => Shaft.isOpen_of_replicate rests.closed w, rests.unasked, rfl,
    fun e => rests.purge (by rw [machine, e]; rfl), fun high => ?_, fun low => ?_⟩
  · have turning : P.shaft.machine.turning = true := by
      rw [machine]
      rcases hm with e | e | e | e <;> rw [e] <;> rfl
    obtain ⟨c, e, drive⟩ := afterPark_halts turning (by rw [alarm]; exact high)
    have shaft := enterHalted_shaft c
    have grant := enterHalted_grant c
    rw [e]
    generalize enterHalted c = halted at shaft grant ⊢
    exact ⟨by simp [shaft], by simp [shaft, drive, held], by simp [shaft], grant⟩
  · rw [← alarm] at low
    refine ⟨fun e => ?_, fun e => ?_, fun e nothing => ?_, fun e nothing => ?_⟩
    · have h := afterPark_homing held low (machine.trans e)
      rw [Blocks.Waits, pending, board, map] at h
      exact h
    · have h := afterPark_cycling held low (machine.trans e)
      rw [Blocks.Waits, pending, board, map] at h
      exact h
    · have h := afterPark_purging held low (machine.trans e) (by rwa [board])
      rw [Blocks.Waits, pending, board, map] at h
      exact h
    · have h := afterPark_recovering held low (machine.trans e) (by rwa [board])
      rw [Blocks.Waits, pending, asked, board, map, hmarked] at h
      exact h

end Sys2Proof.Machine

end

section
/-! # Which alarm codes an operation raises, and a rise of the demand to STOP-NOW -/

namespace Sys2Proof.Machine

set_option Elab.async false

variable {a b : Blocks}

/-! ## Which alarm codes an operation may raise (R28, R75, R171) -/

/-- R171: a report raises the COUNTER LIMIT codes alone. -/
theorem takeEach_codes (events : Vector EventCounter 4) (f : EventCounter → EventCounter × Bool) :
    ∀ code ∈ (takeEach events f).2, 28 ≤ code := by
  simp only [takeEach, List.mem_map]
  rintro code ⟨n, -, rfl⟩
  omega

section

variable {code : Nat}

/-- R138, R171: occurrences one after another leave a code that is none of theirs and no COUNTER LIMIT. -/
theorem raiseAll_spares (hc : code < 28) (fuel : Nat) (l : List (Nat × AlarmContext)) (hl : ∀ p ∈ l, p.1 ≠ code) (b : Blocks) :
    look (raiseAll fuel l b).alarm.codes code = look b.alarm.codes code := by
  induction fuel generalizing l b with
  | zero => rfl
  | succ fuel ih =>
    cases l with
    | nil => rfl
    | cons p rest =>
      obtain ⟨first, context⟩ := p
      unfold raiseAll
      dsimp only
      rw [ih]
      · simpa using Alarm.occur_other (hl _ List.mem_cons_self) context
      · intro q hq
        rcases List.mem_append.mp hq with hq | hq
        · obtain ⟨n, hn, rfl⟩ := List.mem_map.mp hq
          have := takeEach_codes _ _ n hn
          dsimp only
          omega
        · exact hl q (List.mem_cons_of_mem _ hq)

theorem raise_spares (hc : code < 28) {other : Nat} (h : other ≠ code) (context : AlarmContext) (b : Blocks) :
    look (raise other context b).alarm.codes code = look b.alarm.codes code :=
  raiseAll_spares hc _ _ (by simpa using h) b

theorem raiseLimits_spares (hc : code < 28) (l : List Nat) (hl : ∀ n ∈ l, 28 ≤ n) (b : Blocks) :
    look (raiseLimits l b).alarm.codes code = look b.alarm.codes code := by
  refine raiseAll_spares hc _ _ (fun p hp => ?_) b
  obtain ⟨n, hn, rfl⟩ := List.mem_map.mp hp
  have := hl n hn
  dsimp only
  omega

theorem countEvent_spares (hc : code < 28) (event : CountEvent) (carry : Carry) (b : Blocks) :
    look (countEvent event carry b).alarm.codes code = look b.alarm.codes code := by
  unfold countEvent
  exact raiseLimits_spares hc _ (takeEach_codes _ _) _

/-- R138: the entry of the code itself after its occurrence. -/
theorem raise_look (hc : code < 28) (context : AlarmContext) (b : Blocks) :
    look (raise code context b).alarm.codes code = (look b.alarm.codes code).struck context := by
  unfold raise raiseAll
  dsimp only
  rw [raiseAll_spares hc]
  · simp [Alarm.occur_look (show code < 32 by omega), AlarmEntry.struck]
  · intro q hq
    simp only [List.append_nil, List.mem_map] at hq
    obtain ⟨n, hn, rfl⟩ := hq
    have := takeEach_codes _ _ n hn
    dsimp only
    omega

/-- R75: the return of a step raises STEP FAILED and COUNTER LIMIT alone. -/
theorem returnStep_spares (hc : code < 28) (hf : code ≠ 18) (n : Nat) (why : Return) (b : Blocks) :
    look (returnStep n why b).1.alarm.codes code = look b.alarm.codes code := by
  unfold returnStep
  split
  · rfl
  · split
    · simp
    · split
      · split
        · simp [countEvent_spares hc]
        · rw [raise_spares hc hf.symm]
          simp
      · simp

/-- R83: so does a departure from the chain. -/
theorem depart_spares (hc : code < 28) (hf : code ≠ 18) (gate : Bool) (pitch : Nat) (b : Blocks) :
    look (depart gate pitch b).1.alarm.codes code = look b.alarm.codes code := by
  unfold depart
  split
  · next o _ =>
    dsimp only
    rw [choose_alarm, settlePurge_alarm, countEvent_spares hc]
    have returned : ∀ c : Blocks, look (match o.step with
        | some n => returnStep n (.slot o.reason) c
        | none => (c, false)).1.alarm.codes code = look c.alarm.codes code := fun c => by
      split
      · exact returnStep_spares hc hf _ _ c
      · rfl
    split
    · split
      · rw [clearProving_alarm]
        exact returned _
      · exact returned _
    · exact returned _
  · rfl

theorem cutOffStrip_spares (hc : code < 28) (hf : code ≠ 18) (b : Blocks) :
    look (cutOffStrip b).alarm.codes code = look b.alarm.codes code := by
  unfold cutOffStrip
  split
  · rfl
  · split
    · exact depart_spares hc hf _ _ _
    · rfl

theorem cutOffGate_spares (hc : code < 28) (hf : code ≠ 18) (b : Blocks) :
    look (cutOffGate b).alarm.codes code = look b.alarm.codes code := by
  unfold cutOffGate
  split
  · rfl
  · exact depart_spares hc hf _ _ _

/-- R8: a brake raises STEP FAILED and COUNTER LIMIT alone. -/
theorem brake_spares (hc : code < 28) (hf : code ≠ 18) (b : Blocks) :
    look (brake b).alarm.codes code = look b.alarm.codes code := by
  unfold brake cutShort
  split
  · dsimp only
    rw [Blocks.onShaft_alarm, interruptInsertion_alarm, orderReports_alarm, cutOffGate_spares hc hf]
    change look (cutOffStrip _).alarm.codes code = _
    rw [cutOffStrip_spares hc hf]
    rfl
  · rfl

@[simp] theorem enterHalted_alarm (b : Blocks) : (enterHalted b).alarm = b.alarm := by simp [enterHalted]

theorem stopNow_spares (hc : code < 28) (hf : code ≠ 18) (b : Blocks) :
    look (stopNow b).alarm.codes code = look b.alarm.codes code := by
  rcases stopNow_cases b with ⟨-, e⟩ | ⟨-, e⟩ | ⟨-, e⟩ <;> rw [e]
  · rw [enterHalted_alarm, brake_spares hc hf]
  · rw [enterHalted_alarm]

theorem stopAtPark_spares (hc : code < 28) (hf : code ≠ 18) (b : Blocks) :
    look (stopAtPark b).alarm.codes code = look b.alarm.codes code := by
  rcases stopAtPark_cases b with ⟨-, e | e | e⟩ | ⟨-, e⟩ | ⟨-, e⟩ <;> rw [e]
  · rw [enterHalted_alarm, brake_spares hc hf]
  · rfl
  · rw [enterHalted_alarm]

/-- R144: and so does all that a rise of the demand asks for. -/
theorem reactRise_spares (hc : code < 28) (hf : code ≠ 18) (before : Alarm) (b : Blocks) :
    look (reactRise before b).alarm.codes code = look b.alarm.codes code := by
  unfold reactRise
  dsimp only
  have held : look (if before.demand < 2 ∧ 2 ≤ b.alarm.demand then holdOnset b else b).alarm.codes code
      = look b.alarm.codes code := by
    split
    · rw [holdOnset_alarm]
    · rfl
  split
  · rw [stopNow_spares hc hf, held]
  · split
    · rw [stopAtPark_spares hc hf, held]
    · exact held

/-- R138: an occurrence strikes its own entry. -/
theorem occur_look (hc : code < 28) (hf : code ≠ 18) (context : AlarmContext) (b : Blocks) :
    look (occur code context b).alarm.codes code = (look b.alarm.codes code).struck context := by
  rw [occur, reactRise_spares hc hf, raise_look hc]

end

/-! ## A rise of the demand to STOP-NOW (R16, R144) -/

/-- R144: a standing code of class STOP-NOW makes the demand STOP-NOW. -/
theorem Alarm.demand_of_stopNow {a : Alarm} {code : Nat} (h : code < 32) (hs : (look a.codes code).state ≠ .idle)
    (hc : (look a.codes code).cls = .stopNow) : a.demand = 4 := by
  have level : a.levelOf code = 4 := by simp [Alarm.levelOf, AlarmEntry.standing, hs, hc, AlarmClass.level]
  have low := a.levelOf_le_demand h
  have high := a.demand_le_four
  omega

/-- R16, R72: the demand's rise to STOP-NOW is acted on after any hold onset. -/
theorem reactRise_to_stopNow {before : Alarm} (hb : before.demand < 4) (hn : b.alarm.demand = 4) :
    reactRise before b = stopNow (if before.demand < 2 then holdOnset b else b) := by
  unfold reactRise
  dsimp only
  rw [if_pos ⟨hn, .inl hb⟩]
  by_cases h : before.demand < 2
  · rw [if_pos h, if_pos ⟨h, by omega⟩]
  · rw [if_neg h, if_neg fun x => h x.1]

theorem AlarmEntry.struck_standing (e : AlarmEntry) (c : AlarmContext) : (e.struck c).state ≠ .idle := by
  unfold AlarmEntry.struck
  split
  · exact nofun
  · assumption

theorem AlarmEntry.struck_cls (e : AlarmEntry) (c : AlarmContext) : (e.struck c).cls = e.cls := by
  unfold AlarmEntry.struck
  split <;> rfl

/-- R16, R138: the occurrence of a code of class STOP-NOW under a lower demand: the shaft monitor acts on it, the shaft being
as before. -/
theorem occur_to_stopNow {code : Nat} (hc : code < 28) (context : AlarmContext)
    (hcls : (look b.alarm.codes code).cls = .stopNow) (hd : b.alarm.demand < 4) :
    ∃ c : Blocks, occur code context b = stopNow c ∧ c.shaft = b.shaft := by
  have entry := raise_look hc context b
  have now : (raise code context b).alarm.demand = 4 := by
    refine Alarm.demand_of_stopNow (code := code) (by omega) ?_ ?_ <;> rw [entry]
    · exact AlarmEntry.struck_standing _ _
    · rw [AlarmEntry.struck_cls, hcls]
  refine ⟨_, reactRise_to_stopNow hd now, ?_⟩
  split
  · rw [holdOnset_shaft, raise_shaft]
  · rw [raise_shaft]

/-! ## A machine that is stopped at once (R8, R9, R16, R134) -/

theorem undoReservation_record (n : Nat) (b : Blocks) : (undoReservation n b).1.head.record = b.head.record := by
  unfold undoReservation
  split
  · rfl
  · split
    · simp
    · rfl

theorem cancelFrom_record (k : Nat) (b : Blocks) : (cancelFrom k b).head.record = b.head.record :=
  foldl_leaves (fun c : Blocks => c.head.record) cancelStep (fun c n => undoReservation_record n c) _ b

theorem enterHalted_record (b : Blocks) : (enterHalted b).head.record = b.head.record := by
  simp [enterHalted, cancelFrom_record]

theorem interruptInsertion_record (b : Blocks) : (interruptInsertion b).head.record = none := by
  unfold interruptInsertion
  split
  · assumption
  · rfl

/-- R134: a brake leaves no insertion record of a live revolution. -/
theorem brake_record (h : b.shaft.live = true) : (brake b).head.record = none := by
  have live : ((b.onShaft fun s => { s with drive := .held, parkRequested := false }).onChain fun c =>
      { c with grant := false }).shaft.live = true := h
  unfold brake cutShort
  rw [if_pos live]
  exact interruptInsertion_record _

/-- The machine is HALTED and HELD, with no revolution live and every window closed. -/
structure Blocks.Halted (b : Blocks) : Prop where
  machine : b.shaft.machine = .halted
  held : b.shaft.drive = .held
  still : b.shaft.live = false
  closed : ∀ w : Window, b.shaft.isOpen w = false
  stop : b.shaft.stopPending = false
  grant : b.chain.grant = false

theorem enterHalted_halted (h : b.shaft.parked) : (enterHalted b).Halted := by
  have shaft := enterHalted_shaft b
  have grant := enterHalted_grant b
  generalize enterHalted b = c at shaft grant ⊢
  exact ⟨by rw [shaft], by rw [shaft]; exact h.held, by rw [shaft]; exact h.still,
    fun w => by rw [shaft]; exact h.closed w, by rw [shaft], grant⟩

/-- R16: a sound machine that turns is braked and HALTED. -/
theorem stopNow_turning (hs : b.shaft.sound) (hm : b.shaft.machine.turning = true) :
    (stopNow b).Halted ∧ (b.shaft.live = true → (stopNow b).head.record = none) := by
  rcases stopNow_cases b with ⟨-, e⟩ | ⟨hw, -⟩ | ⟨hw, -⟩
  · have parked := (brake_braked (.refl b)).parked hs
    have record := enterHalted_record (brake b)
    have halted := enterHalted_halted parked
    rw [e]
    exact ⟨halted, fun hl => record.trans (brake_record hl)⟩
  · rw [hw] at hm
    cases hm
  · rcases hw with hw | hw <;> rw [hw] at hm <;> cases hm

/-! ## Registration faults (R2, R3, R134) -/

/-- R2, R3: the fault of a moved shaft. -/
theorem registrationFault_strikes (b : Blocks) :
    look (registrationFault b).alarm.codes 1 = (look b.alarm.codes 1).struck ⟨none, none, none⟩ := by
  unfold registrationFault
  exact occur_look (by decide) (by decide) _ b

theorem registrationFault_position (b : Blocks) : (registrationFault b).shaft.position = b.shaft.position :=
  (registrationFault_settled b).steady.position

/-- R16: a registration fault stops a sound machine that turns. -/
theorem registrationFault_turning (hs : b.shaft.sound) (hm : b.shaft.machine.turning = true)
    (hcls : (look b.alarm.codes 1).cls = .stopNow) (hd : b.alarm.demand < 4) :
    (registrationFault b).Halted ∧ (b.shaft.live = true → (registrationFault b).head.record = none) := by
  obtain ⟨c, e, shaft⟩ := occur_to_stopNow (code := 1) (by decide) ⟨none, none, none⟩ hcls hd
  have stops := stopNow_turning (b := c) (by rw [shaft]; exact hs) (by rw [shaft]; exact hm)
  rw [shaft] at stops
  rw [registrationFault, e]
  exact stops

end Sys2Proof.Machine

end

section
/-! # Hand-jogged samples and registration faults -/

namespace Sys2Proof.Machine

set_option Elab.async false

variable {a b : Blocks}

/-! ## Samples that are no more than a count, and those that fault (R1, R2, R3) -/

theorem Shaft.countForward_eq (s : Shaft) : s.countForward =
    { s with angle := s.countForward.angle, distance := s.countForward.distance } := rfl

theorem Shaft.countForward_angle {s : Shaft} (h : s.angle ≤ 1439) :
    s.countForward.angle = if s.angle = 1439 then 0 else s.angle + 1 := by
  simp only [Shaft.countForward, Config.lastAngle]
  split_ifs <;> omega

theorem Shaft.countForward_distance (s : Shaft) : s.countForward.distance = min (s.distance + 1) 1441 := rfl

theorem Shaft.missesIndex_iff (s : Shaft) : s.missesIndex = true ↔ s.distance = 1440 := by
  simp only [Shaft.missesIndex, Config.missingIndexDistance, decide_eq_true_eq]
  omega

theorem Shaft.crossingFault_iff (s : Shaft) : s.crossingFault = true ↔ s.registered = true ∧ s.distance ≠ 1439 := by
  simp only [Shaft.crossingFault, Config.missingIndexDistance, Config.countsPerRevolution, Bool.and_eq_true,
    decide_eq_true_eq]
  refine and_congr_right fun _ => not_congr ?_
  omega

/-- R1: a forward sample that is not driven and does not miss the index. -/
theorem forwardSample_undriven (station : Station) (hr : b.shaftRunLine = false) (hd : b.shaft.distance ≠ 1440) :
    encoderSample true false station b
      = b.movedTo b.shaft.countForward.angle b.shaft.countForward.distance b.shaft.registered := by
  have seen : ¬ b.shaft.missesIndex = true := fun h => hd (b.shaft.missesIndex_iff.mp h)
  simp only [encoderSample, forwardCount, if_true, Bool.false_eq_true, if_false, if_neg seen, hr]
  rfl

/-- R3: a forward sample that misses the index. -/
theorem forwardSample_misses (station : Station) (hd : b.shaft.distance = 1440) :
    encoderSample true false station b
      = registrationFault (b.movedTo b.shaft.countForward.angle b.shaft.countForward.distance false) := by
  have missed : b.shaft.missesIndex = true := b.shaft.missesIndex_iff.mpr hd
  simp only [encoderSample, forwardCount, if_true, Bool.false_eq_true, if_false, missed]
  rfl

/-- R2: a crossing that is not driven and raises no fault. -/
theorem crossing_undriven (station : Station) (hr : b.shaftRunLine = false)
    (h : b.shaft.registered = false ∨ b.shaft.distance = 1439) :
    encoderSample true true station b = b.movedTo 0 0 true := by
  have sound : ¬ b.shaft.crossingFault = true := fun fault => by
    obtain ⟨registered, distance⟩ := b.shaft.crossingFault_iff.mp fault
    rcases h with h | h
    · rw [h] at registered
      cases registered
    · exact distance h
  simp only [encoderSample, forwardCrossing, if_true, if_neg sound, hr, Bool.false_eq_true, if_false]
  rfl

/-- R2: a crossing of a REGISTERED shaft whose count is not 1440. -/
theorem crossing_faults (station : Station) (hr : b.shaft.registered = true) (hd : b.shaft.distance ≠ 1439) :
    encoderSample true true station b = registrationFault (b.movedTo 0 0 true) := by
  have fault : b.shaft.crossingFault = true := b.shaft.crossingFault_iff.mpr ⟨hr, hd⟩
  simp only [encoderSample, forwardCrossing, if_true, fault]
  rfl

/-- The angle and the index distance after a reverse sample (R1, R2). -/
def Shaft.reversed (s : Shaft) (mark : Bool) : Nat × Int :=
  if mark then (1439, 1439) else (s.countReverse.angle, s.countReverse.distance)

/-- R1, R2: a reverse sample moves the shaft, and under drive it is a fault. -/
theorem reverseSample_eq (mark : Bool) (station : Station) (b : Blocks) :
    encoderSample false mark station b =
      let moved := b.movedTo (b.shaft.reversed mark).1 (b.shaft.reversed mark).2 b.shaft.registered
      if b.shaftRunLine then registrationFault moved else moved := by
  cases mark <;> rfl

theorem reverseSample_driven (mark : Bool) (station : Station) (hr : b.driven) :
    encoderSample false mark station b
      = registrationFault (b.movedTo (b.shaft.reversed mark).1 (b.shaft.reversed mark).2 b.shaft.registered) := by
  rw [reverseSample_eq, (shaftRunLine_iff b).mpr hr]
  exact if_pos rfl

theorem Shaft.reversed_bounds {s : Shaft} (h : s.sound) (mark : Bool) :
    (s.reversed mark).1 ≤ 1439 ∧ -1439 ≤ (s.reversed mark).2 ∧ (s.reversed mark).2 ≤ 1441 := by
  cases mark
  · exact h.countReverse_bounds
  · simp [Shaft.reversed]

/-! ## A hand-jogged shaft (R1, R2, R3, R16) -/

/-- R16: the fault of a shaft at rest: a STOPPED machine stays STOPPED. -/
theorem registrationFault_stopped (hm : b.shaft.machine = .stopped) : (registrationFault b).shaft.machine = .stopped := by
  have raised : (raise 1 ⟨none, none, none⟩ b).shaft.machine = .stopped := by rw [raise_shaft, hm]
  rw [registrationFault, occur, reactRise_resting_shaft (.inl raised), raised]

/-- R16: a WAITING machine is HALTED. -/
theorem registrationFault_waiting (hm : b.shaft.machine = .waiting) (hcls : (look b.alarm.codes 1).cls = .stopNow)
    (hd : b.alarm.demand < 4) : (registrationFault b).shaft.machine = .halted := by
  obtain ⟨c, e, shaft⟩ := occur_to_stopNow (code := 1) (by decide) ⟨none, none, none⟩ hcls hd
  have halts : stopNow c = enterHalted c := by simp [stopNow, shaft, hm]
  rw [registrationFault, e, halts, enterHalted_machine]

/-- Settles O13: with SHAFT RUN negated every sample is a move of the shaft, and the two faults are occurrences on the moved
shaft. -/
theorem handJogCounts : Obligations.HandJogCounts := by
  intro station s hr ha a d moved r was faulted
  have angle := Shaft.countForward_angle ha
  have faults {i : Instr} {angle : Nat} {distance : Int} {registered : Bool}
      (h : exec i s = .next { s with blocks := registrationFault (s.blocks.movedTo angle distance registered) }) :
      faulted i angle distance registered := by
    have position := registrationFault_position (s.blocks.movedTo angle distance registered)
    have strikes := registrationFault_strikes (s.blocks.movedTo angle distance registered)
    have stopped := registrationFault_stopped (b := s.blocks.movedTo angle distance registered)
    have waiting := registrationFault_waiting (b := s.blocks.movedTo angle distance registered)
    generalize registrationFault (s.blocks.movedTo angle distance registered) = c at h position strikes stopped waiting
    simp only [Shaft.position, Prod.mk.injEq] at position
    obtain ⟨angle', distance', registered'⟩ := position
    exact ⟨_, h, angle', distance', registered', strikes, stopped, fun hcls hd hm => waiting hm hcls hd, rfl⟩
  refine ⟨fun hd => ?_, ?_, ?_, fun h => ?_, fun hd => ?_, fun hreg hd => ?_⟩
  · rw [exec_encoderSample, forwardSample_undriven station hr hd, angle]
    rfl
  · rw [exec_encoderSample, reverseSample_eq, hr]
    rfl
  · rw [exec_encoderSample, reverseSample_eq, hr]
    rfl
  · rw [exec_encoderSample, crossing_undriven station hr h]
    rfl
  · have far : s.blocks.shaft.countForward.distance = 1441 := by
      have : s.blocks.shaft.distance = 1440 := hd
      rw [Shaft.countForward_distance, this]
      rfl
    refine faults ?_
    rw [exec_encoderSample, forwardSample_misses station hd, angle, far]
  · refine faults ?_
    rw [exec_encoderSample, crossing_faults station hreg hd]

/-! ## A registration fault under drive (R2, R3, R16, R134) -/

/-- Settles O14: each of the three samples is a fault on the moved shaft, which turns and so is stopped at once. -/
theorem registrationFaultHalts : Obligations.RegistrationFaultHalts := by
  intro forward mark station s sound driven hcls hd h
  have turning : s.blocks.shaft.machine.turning = true := by
    obtain ⟨-, -, -, drive, -⟩ := sound
    exact drive.mp driven.1
  have faults {angle : Nat} {distance : Int} {registered : Bool}
      (bounds : angle ≤ 1439 ∧ -1439 ≤ distance ∧ distance ≤ 1441)
      (e : encoderSample forward mark station s.blocks
        = registrationFault (s.blocks.movedTo angle distance registered))
      (hreg : registered = (s.blocks.shaft.registered && !(forward && !mark))) :
      ∃ t, exec (.encoderSample forward mark station) s = .next t ∧ t.blocks.shaft.machine = .halted
        ∧ t.blocks.shaft.drive = .held ∧ t.blocks.shaft.live = false ∧ (∀ w : Window, t.blocks.shaft.isOpen w = false)
        ∧ t.blocks.shaft.stopPending = false ∧ t.blocks.chain.grant = false
        ∧ (s.blocks.shaft.live = true → t.blocks.head.record = none)
        ∧ look t.blocks.alarm.codes 1 = (look s.blocks.alarm.codes 1).struck ⟨none, none, none⟩
        ∧ (t.blocks.shaft.registered = (s.blocks.shaft.registered && !(forward && !mark))) := by
    obtain ⟨halted, record⟩ := registrationFault_turning (b := s.blocks.movedTo angle distance registered)
      (Blocks.movedTo_sound sound bounds) turning hcls hd
    have position := registrationFault_position (s.blocks.movedTo angle distance registered)
    have strikes := registrationFault_strikes (s.blocks.movedTo angle distance registered)
    rw [exec_encoderSample, e]
    generalize registrationFault (s.blocks.movedTo angle distance registered) = c at halted record position strikes ⊢
    simp only [Shaft.position, Prod.mk.injEq] at position
    exact ⟨_, rfl, halted.machine, halted.held, halted.still, halted.closed, halted.stop, halted.grant, record, strikes,
      position.2.2.trans hreg⟩
  cases forward
  · exact faults (Shaft.reversed_bounds sound mark) (reverseSample_driven mark station driven) (by simp)
  · rcases h with h | ⟨rfl, hd⟩ | ⟨rfl, hreg, hd⟩
    · cases h
    · exact faults sound.countForward_bounds (forwardSample_misses station hd) (by simp)
    · exact faults (by decide) (crossing_faults station hreg hd) (by simp [hreg])

end Sys2Proof.Machine

end

section
/-! # Emergency stop -/

namespace Sys2Proof.Machine

set_option Elab.async false

variable {a b : Blocks}

/-! ## Emergency stop (R16, R152, R166) -/

/-- R16: what a STOP-NOW demand leaves of a sound shaft. -/
theorem stopNow_sound (hs : b.shaft.sound) : (stopNow b).shaft.drive = .held ∧ (stopNow b).shaft.live = false
    ∧ (stopNow b).shaft.machine = if b.shaft.machine = .stopped then .stopped else .halted := by
  rcases stopNow_cases b with ⟨hm, -⟩ | ⟨hm, e⟩ | ⟨hm, e⟩
  · obtain ⟨halted, -⟩ := stopNow_turning hs hm
    refine ⟨halted.held, halted.still, ?_⟩
    rw [halted.machine, if_neg]
    rintro stopped
    rw [stopped] at hm
    cases hm
  · have halted := enterHalted_halted (hs.parked (by rw [hm]; rfl))
    rw [e]
    exact ⟨halted.held, halted.still, by rw [halted.machine, hm]; rfl⟩
  · have parked := hs.parked (by rcases hm with h | h <;> rw [h] <;> rfl)
    rw [e]
    refine ⟨parked.held, parked.still, ?_⟩
    rcases hm with h | h <;> rw [h] <;> rfl

/-- R139: the entry of a LEVEL code that was not ACTIVE, after its appearance. -/
theorem appear_look {code : Nat} (hc : code < 28) (hs : (look b.alarm.codes code).state ≠ .active) :
    look (appear code b).alarm.codes code = { (look b.alarm.codes code).appeared with noticePending := true } := by
  unfold appear
  rw [if_neg hs, countEvent_spares hc, Blocks.onAlarm_alarm, Alarm.appear_look (by omega)]

/-- R16, R166: the appearance of a code of class STOP-NOW under a lower demand is acted on by the shaft monitor, and plans
nothing. -/
theorem conditionAppears_to_stopNow {code : Nat} (hc : code < 28) (hf : code ≠ 18)
    (hs : (look b.alarm.codes code).state ≠ .active) (hcls : (look b.alarm.codes code).cls = .stopNow)
    (hd : b.alarm.demand < 4) :
    ∃ c : Blocks, conditionAppears code b = stopNow c ∧ c.shaft = b.shaft
      ∧ (look (stopNow c).alarm.codes code).state = .active := by
  have entry := appear_look hc hs
  have now : (appear code b).alarm.demand = 4 :=
    Alarm.demand_of_stopNow (code := code) (by omega) (by rw [entry]; exact nofun) (by rw [entry]; exact hcls)
  have reacts := reactRise_to_stopNow hd now
  have same := reactRise_spares hc hf b.alarm (appear code b)
  rw [entry] at same
  have still : (reactRise b.alarm (appear code b)).alarm.demand = 4 :=
    Alarm.demand_of_stopNow (code := code) (by omega) (by rw [same]; exact nofun) (by rw [same]; exact hcls)
  refine ⟨_, ?_, ?_, by rw [← reacts, same]; rfl⟩
  · unfold conditionAppears concludeDemand
    dsimp only
    rw [still, ← reacts]
    simp [planIf]
  · split
    · rw [holdOnset_shaft, appear_shaft]
    · rw [appear_shaft]

/-- R139: a clearing raises no demand. -/
theorem Alarm.clear_demand_le (a : Alarm) {code : Nat} (h : code < 32) : (a.clear code).demand ≤ a.demand := by
  by_cases hs : (look a.codes code).state = .active
  · refine ((a.clear code).demand_le_iff _).mpr fun other ho => ?_
    refine le_trans ?_ (a.levelOf_le_demand ho)
    by_cases e : code = other
    · subst e
      unfold Alarm.levelOf AlarmEntry.standing
      rw [Alarm.clear_look h hs]
      simp only [AlarmEntry.cleared, hs]
      split <;> simp
    · have same : look (a.clear code).codes other = look a.codes other := by
        rw [Alarm.clear, if_pos hs, Alarm.makeNotice_other e]
        exact look_adjust_of_ne _ _ e
      simp [Alarm.levelOf, same]
  · rw [Alarm.clear, if_neg hs]

/-- R16, R60, R139: a clearing in HALTED reaches the alarm table and the stop cause alone. -/
theorem conditionClears_halted {code : Nat} (hc : code < 32) (hm : b.shaft.machine = .halted) :
    ∃ p, conditionClears code b = { b with alarm := b.alarm.clear code, planner := p } := by
  have fall := b.alarm.clear_demand_le hc
  have quiet : reactRise b.alarm (b.onAlarm fun a => a.clear code) = b.onAlarm fun a => a.clear code := by
    rw [reactRise_resting (b := b.onAlarm fun a => a.clear code) (.inr hm), if_neg]
    rintro ⟨low, high⟩
    rw [Blocks.onAlarm_alarm] at high
    omega
  unfold conditionClears concludeDemand
  dsimp only
  rw [quiet]
  unfold planIf
  split
  · obtain ⟨c, e⟩ := planningEvent_halted (b := b.onAlarm fun a => a.clear code) hm
    exact ⟨_, e⟩
  · exact ⟨_, rfl⟩

theorem exec_eStopAsserted (s : State) : exec .eStopAsserted s =
    .next (if s.levels.eStop then s
      else { s with levels := { s.levels with eStop := true }, blocks := stopAppears s.blocks }) := rfl

theorem exec_eStopNegated (s : State) : exec .eStopNegated s =
    .next (if s.levels.eStop then { s with levels := { s.levels with eStop := false }, blocks := stopClears s.blocks }
      else s) := rfl

/-- R166: with code 0 ACTIVE every actuator output is held released. -/
theorem outputs_released (h : (look b.alarm.codes 0).state = .active) : b.shaftRunLine = false ∧ b.shaftBrakeLine = true
    ∧ b.headInhibitLine = true ∧ b.gateFireLine = false ∧ b.measureDriveLine = none ∧ b.profileLines = 0 := by
  have active : b.alarm.eStopActive = true := by simp [Alarm.eStopActive, h]
  simp [Blocks.shaftRunLine, Blocks.shaftBrakeLine, Blocks.headInhibitLine, Blocks.gateFireLine, Blocks.measureDriveLine,
    Blocks.profileLines, active]

/-- Settles O34: the appearance is acted on by the shaft monitor, and the clearing in HALTED reaches nothing but the alarm
table. -/
theorem emergencyStopActs : Obligations.EmergencyStopActs := by
  refine ⟨fun s hl hs hcls hd sound => ?_, fun s => ⟨fun hl => ?_, fun hl => ?_, fun hl hm hs => ?_⟩⟩
  · obtain ⟨c, e, shaft, active⟩ := conditionAppears_to_stopNow (code := 0) (by decide) (by decide) hs hcls hd
    obtain ⟨held, still, machine⟩ := stopNow_sound (b := c) (by rw [shaft]; exact sound)
    rw [shaft] at machine
    rw [exec_eStopAsserted, hl, stopAppears, e]
    generalize stopNow c = d at active held still machine
    obtain ⟨run, brake, inhibit, fire, measure, profile⟩ :=
      outputs_released (b := d.onHead fun h => { h with ready := false }) active
    exact ⟨_, rfl, rfl, rfl, active, run, brake, inhibit, fire, measure, profile, rfl, held, still, machine⟩
  · rw [exec_eStopAsserted, hl]
    rfl
  · rw [exec_eStopNegated, hl]
    rfl
  · obtain ⟨p, e⟩ := conditionClears_halted (code := 0)
      (b := s.blocks.onHead fun h => { h with driven := h.driven || h.output.isSome }) (by decide) hm
    rw [exec_eStopNegated, hl, stopClears, e]
    refine ⟨_, rfl, rfl, rfl, ?_, rfl, rfl⟩
    exact congrArg AlarmEntry.state (Alarm.clear_look (a := s.blocks.alarm) (by decide) hs)

end Sys2Proof.Machine

end

section
/-! # The index of an advance -/

namespace Sys2Proof.Machine

set_option Elab.async false

variable {a b : Blocks}

/-! ## The index (R85) -/

/-- R85: what becomes of the slot that leaves V. -/
def Slot.leftVerify : Slot → Slot
  | .occupied o =>
    if o.verify = .unmeasured ∧ o.disposition = .insert then
      .occupied { o with verify := .failed, disposition := .divert, reason := some .verify, unjudged := true }
    else .occupied o
  | s => s

/-- R85: what becomes of the step named by the slot `s` that leaves V. -/
def StepContext.leftVerify (s : Slot) (c : StepContext) : StepContext :=
  match s with
  | .occupied o =>
    if o.verify = .unmeasured ∧ o.disposition = .insert ∧ o.step = some c.number then { c with state := .diverting } else c
  | _ => c

/-- R85: what becomes of the slot that leaves G. -/
def Slot.leftGate : Slot → Slot
  | .occupied o => if o.disposition = .divert then .occupied { o with disposition := .strip } else .occupied o
  | s => s

/-- R85: what becomes of the step named by the slot `s` that leaves G. -/
def StepContext.leftGate (s : Slot) (c : StepContext) : StepContext :=
  match s with
  | .occupied o =>
    if o.disposition = .divert ∧ o.step = some c.number ∧ c.state = .diverting then { c with state := .stripping } else c
  | _ => c

/-- A slot and its step's context changed, and nothing else. -/
def Blocks.turn (b : Blocks) (pitch : Nat) (f : Slot → Slot) (g : Slot → StepContext → StepContext) : Blocks :=
  { b with
    chain := { b.chain with slots := b.chain.slots.set pitch (f (b.chain.slotOf pitch)) }
    board := { b.board with window := b.board.window.map (g (b.chain.slotOf pitch)) } }

/-- A turn that changes neither. -/
theorem Blocks.turn_same {pitch : Nat} {f : Slot → Slot} {g : Slot → StepContext → StepContext}
    (hf : f (b.chain.slotOf pitch) = b.chain.slotOf pitch) (hg : ∀ c, g (b.chain.slotOf pitch) c = c) :
    b.turn pitch f g = b := by
  have slots : b.chain.slots.set pitch (b.chain.slotOf pitch) = b.chain.slots := by
    by_cases h : pitch < b.chain.slots.length
    · simp [Chain.slotOf, h]
    · exact List.set_eq_of_length_le (by omega)
  have window : b.board.window.map (g (b.chain.slotOf pitch)) = b.board.window := by
    rw [show g (b.chain.slotOf pitch) = id from funext hg, List.map_id]
  rw [Blocks.turn, hf, slots, window]

/-- Two turns at different pitches. -/
theorem Blocks.turn_turn {p q : Nat} (h : q ≠ p) (f f' : Slot → Slot) (g g' : Slot → StepContext → StepContext) :
    (b.turn p f g).turn q f' g' = { b with
      chain := { b.chain with slots := (b.chain.slots.set p (f (b.chain.slotOf p))).set q (f' (b.chain.slotOf q)) }
      board := { b.board with
        window := b.board.window.map fun c => g' (b.chain.slotOf q) (g (b.chain.slotOf p) c) } } := by
  have other : (b.turn p f g).chain.slotOf q = b.chain.slotOf q := by
    simp [Blocks.turn, Chain.slotOf, List.getElem?_set_ne h.symm]
  rw [Blocks.turn, other]
  simp [Blocks.turn, Function.comp_def]

theorem leaveVerify_eq (b : Blocks) :
    leaveVerify b = b.turn (b.chain.pitchAt (b.chain.verifyOffset - 1)) Slot.leftVerify StepContext.leftVerify := by
  unfold leaveVerify
  generalize b.chain.pitchAt (b.chain.verifyOffset - 1) = pitch
  dsimp only
  cases hs : b.chain.slotOf pitch with
  | empty => exact (Blocks.turn_same (by rw [hs]; rfl) (fun c => by rw [hs]; rfl)).symm
  | reserved n d => exact (Blocks.turn_same (by rw [hs]; rfl) (fun c => by rw [hs]; rfl)).symm
  | occupied o =>
    dsimp only
    by_cases h : o.verify = .unmeasured ∧ o.disposition = .insert
    · rw [if_pos h, Blocks.turn, hs]
      cases ho : o.step with
      | none =>
        have unnamed : StepContext.leftVerify (.occupied o) = id := funext fun c => by simp [StepContext.leftVerify, ho]
        simp [Slot.leftVerify, unnamed, h, ho, Blocks.setSlot, Blocks.onChain]
      | some n =>
        simp [Slot.leftVerify, StepContext.leftVerify, h, ho, Blocks.setSlot, Blocks.onChain, Blocks.onStep,
          Blocks.onBoard, eq_comm]
    · rw [if_neg h]
      refine (Blocks.turn_same ?_ fun c => ?_).symm
      · rw [hs]
        exact if_neg h
      · rw [hs]
        exact if_neg fun g => h ⟨g.1, g.2.1⟩

theorem leaveGate_eq (b : Blocks) :
    leaveGate b = b.turn (b.chain.pitchAt (b.chain.gateOffset - 1)) Slot.leftGate StepContext.leftGate := by
  unfold leaveGate
  generalize b.chain.pitchAt (b.chain.gateOffset - 1) = pitch
  dsimp only
  cases hs : b.chain.slotOf pitch with
  | empty => exact (Blocks.turn_same (by rw [hs]; rfl) (fun c => by rw [hs]; rfl)).symm
  | reserved n d => exact (Blocks.turn_same (by rw [hs]; rfl) (fun c => by rw [hs]; rfl)).symm
  | occupied o =>
    dsimp only
    by_cases h : o.disposition = .divert
    · rw [if_pos h, Blocks.turn, hs]
      cases ho : o.step with
      | none =>
        have unnamed : StepContext.leftGate (.occupied o) = id := funext fun c => by simp [StepContext.leftGate, ho]
        simp [Slot.leftGate, unnamed, h, ho, Blocks.setSlot, Blocks.onChain]
      | some n =>
        have stepped : ∀ c : StepContext,
            (if c.number = n then if c.state = .diverting then { c with state := .stripping } else c else c)
              = StepContext.leftGate (.occupied o) c := fun c => by
          by_cases hn : c.number = n
          · by_cases hc : c.state = .diverting <;> simp [StepContext.leftGate, h, ho, hn, hc]
          · simp [StepContext.leftGate, h, ho, hn, Ne.symm hn]
        simp [Slot.leftGate, h, ho, Blocks.setSlot, Blocks.onChain, Blocks.onStep, Blocks.onBoard, ← stepped]
    · rw [if_neg h]
      refine (Blocks.turn_same ?_ fun c => ?_).symm
      · rw [hs]
        exact if_neg h
      · rw [hs]
        exact if_neg fun g => h g.1

/-! ### Pitches across the index (5.2, R85) -/

/-- R79: the facts of a loaded geometry. -/
structure Chain.Laid (c : Chain) : Prop where
  slots : c.slots.length = c.length
  pointer : c.pointer < c.length
  long : 64 ≤ c.length
  verify : 2 ≤ c.verifyOffset ∧ c.verifyOffset ≤ 15
  gate : 1 ≤ c.gateOffset ∧ c.gateOffset < c.verifyOffset

theorem Chain.sound.laid {c : Chain} (h : c.sound) (hl : c.loaded = true) : c.Laid := by
  rw [Chain.sound, if_pos hl] at h
  obtain ⟨slots, pointer, long, -, v2, v15, g1, gv⟩ := h
  exact ⟨slots, pointer, long, ⟨v2, v15⟩, ⟨g1, gv⟩⟩

/-- R85: the chain map with the pointer moved on, before what left V and G is turned. -/
def Chain.moved (c : Chain) : Chain :=
  { c with
    pointer := (c.pointer + 1) % c.length, indexSeen := false, gateDone := false
    stripPending := if (c.slotAt 0).isOccupied then some (c.pitchAt 0) else none }

/-- R85: what stood at an offset stands one lower after the index. -/
theorem Chain.moved_pitchAt (c : Chain) {j : Nat} (h : 1 ≤ j) : c.moved.pitchAt (j - 1) = c.pitchAt j := by
  have e : c.pointer + 1 + (j - 1) = c.pointer + j := by omega
  simp [Chain.pitchAt, Chain.moved, Nat.mod_add_mod, e]

theorem Chain.Laid.pitchAt_lt {c : Chain} (h : c.Laid) (j : Nat) : c.pitchAt j < c.slots.length := by
  rw [h.slots]
  exact Nat.mod_lt _ (by have := h.long; omega)

/-- R79: V and G are different pitches. -/
theorem Chain.Laid.gate_ne_verify {c : Chain} (h : c.Laid) : c.pitchAt c.gateOffset ≠ c.pitchAt c.verifyOffset := by
  obtain ⟨-, pointer, long, ⟨-, v15⟩, -, gv⟩ := h
  intro e
  have offsets : c.gateOffset % c.length = c.verifyOffset % c.length :=
    Nat.ModEq.add_left_cancel' c.pointer e
  rw [Nat.mod_eq_of_lt (by omega), Nat.mod_eq_of_lt (by omega)] at offsets
  omega

/-- R85: a slot after the index. -/
def Chain.turned (c : Chain) (pitch : Nat) (s : Slot) : Slot :=
  if pitch = c.pitchAt c.verifyOffset then s.leftVerify
  else if pitch = c.pitchAt c.gateOffset then s.leftGate
  else s

/-- R85: the chain map after the index. -/
def Chain.indexed (c : Chain) : Chain := { c.moved with slots := c.slots.mapIdx c.turned }

/-- R85: the board after the index. -/
def Board.carried (d : Board) (c : Chain) : Board :=
  { d with window := d.window.map fun e => (e.leftVerify (c.slotAt c.verifyOffset)).leftGate (c.slotAt c.gateOffset) }

/-- R85: the two turns of an index, at V and at G. -/
theorem Chain.turned_slots {c : Chain} (h : c.Laid) :
    ((c.slots.set (c.pitchAt c.verifyOffset) (c.slotAt c.verifyOffset).leftVerify).set (c.pitchAt c.gateOffset)
      (c.slotAt c.gateOffset).leftGate) = c.slots.mapIdx c.turned := by
  have verify := h.pitchAt_lt c.verifyOffset
  have gate := h.pitchAt_lt c.gateOffset
  have apart := h.gate_ne_verify
  refine List.ext_getElem (by simp) fun i hi _ => ?_
  have hi' : i < c.slots.length := by simpa using hi
  rw [List.getElem_mapIdx, Chain.turned, List.getElem_set, List.getElem_set]
  by_cases hv : i = c.pitchAt c.verifyOffset
  · subst hv
    simp [apart, Chain.slotAt, Chain.slotOf, verify]
  · by_cases hg : i = c.pitchAt c.gateOffset
    · subst hg
      simp [hv, Chain.slotAt, Chain.slotOf, gate]
    · simp [hv, hg, Ne.symm hv, Ne.symm hg]

/-- R85: the index, but for the choice of the candidate. -/
theorem indexOpen_eq (h : b.chain.Laid) :
    indexOpen b = choose { b with chain := b.chain.indexed, board := b.board.carried b.chain } := by
  have some_slot : b.chain.slots.isEmpty = false := by
    rw [List.isEmpty_eq_false_iff, ← List.length_pos_iff, h.slots]
    have := h.long
    omega
  have apart := h.gate_ne_verify
  have verifyPitch := b.chain.moved_pitchAt (j := b.chain.verifyOffset) (by have := h.verify.1; omega)
  have gatePitch := b.chain.moved_pitchAt h.gate.1
  unfold indexOpen
  rw [some_slot]
  simp only [Bool.false_eq_true, if_false]
  congr 1
  rw [leaveVerify_eq, leaveGate_eq]
  change (({ b with chain := b.chain.moved } : Blocks).turn (b.chain.moved.pitchAt (b.chain.verifyOffset - 1))
    Slot.leftVerify StepContext.leftVerify).turn (b.chain.moved.pitchAt (b.chain.gateOffset - 1))
    Slot.leftGate StepContext.leftGate = _
  rw [verifyPitch, gatePitch, Blocks.turn_turn apart, Chain.indexed, ← Chain.turned_slots h]
  rfl

end Sys2Proof.Machine

end

section
/-! # A true crossing -/

namespace Sys2Proof.Machine

set_option Elab.async false

variable {a b : Blocks}

/-! ## A true crossing (R2, R6, R173) -/

/-- R144: with the alarm table as it was, nothing more is asked of the other blocks. -/
theorem reactRise_same (b : Blocks) : reactRise b.alarm b = b := by
  have quiet : struckNow b.alarm b.alarm = false := by
    rw [struckNow, List.any_eq_false]
    intro code _
    by_cases standing : (look b.alarm.codes code).state = .idle
    · simp [Alarm.levelOf, AlarmEntry.standing, standing]
    · cases cls : (look b.alarm.codes code).cls <;>
        simp [Alarm.levelOf, AlarmEntry.standing, standing, cls, AlarmClass.level]
  unfold reactRise
  dsimp only
  rw [if_neg (show ¬ (b.alarm.demand < 2 ∧ 2 ≤ b.alarm.demand) by omega), if_neg, if_neg (by omega)]
  rintro ⟨top, low | struck⟩
  · omega
  · rw [quiet] at struck
    cases struck

/-- R6, R173: the blocks as a live revolution begins, before the candidate is chosen and the windows of angle 0 open. -/
def Blocks.begun (b : Blocks) : Blocks :=
  { b with
    shaft := { b.shaft with
      angle := 0, distance := 0, live := true, advance := b.chain.grant, opened := Vector.replicate 10 false
      decided := false, continues := false, offerTaken := false }
    chain := { b.chain with grant := false }
    counters := { b.counters with residency := { b.counters.residency with
      dwell := if b.chain.grant then b.counters.residency.dwell else bump b.counters.residency.dwell } } }

/-- R6, R173: with no counter enabled the report of the revolution is a dwell's count alone. -/
theorem reportRevolution_quiet (h : b.counters.quiet) :
    reportRevolution b = if b.shaft.advance then b else bumpDwell b := by
  unfold reportRevolution
  split
  · exact countEvent_quiet h _ _
  · exact countEvent_quiet (b := bumpDwell b) h _ _

theorem begun_alarm (h : b.counters.quiet) (hr : b.shaft.registered = true) :
    reportRevolution (beginLive ((b.onShaft Shaft.cross).onShaft Shaft.endRevolution)) = b.begun := by
  rw [reportRevolution_quiet (by exact h)]
  have crossed : b.shaft.cross = { b.shaft with angle := 0, distance := 0 } := by
    rw [Shaft.cross, ← hr]
  cases hg : b.chain.grant <;>
    simp [beginLive, Blocks.onShaft, Blocks.onChain, crossed, hg, Shaft.endRevolution, bumpDwell, Blocks.onCounters,
      Blocks.begun]

/-- R2, R6: a true crossing under drive, in CYCLING or PURGING. -/
theorem crossing_begins (station : Station) (hr : b.driven) (hm : b.shaft.machine = .cycling ∨ b.shaft.machine = .purging)
    (hreg : b.shaft.registered = true) (hd : b.shaft.distance = 1439) (hq : b.counters.quiet) :
    encoderSample true true station b = windowEvents station 0 (choose b.begun) := by
  have true_count : ¬ b.shaft.crossingFault = true := fun fault => (b.shaft.crossingFault_iff.mp fault).2 hd
  have turns : ((b.onShaft Shaft.cross).onShaft Shaft.endRevolution).shaft.machine = .cycling
      ∨ ((b.onShaft Shaft.cross).onShaft Shaft.endRevolution).shaft.machine = .purging := hm
  have same := reactRise_same b.begun
  have alarm : b.begun.alarm = ((b.onShaft Shaft.cross).onShaft Shaft.endRevolution).alarm := rfl
  simp only [encoderSample, forwardCrossing, if_true, if_neg true_count, (shaftRunLine_iff b).mpr hr, crossDriven, hreg,
    if_pos turns, startRevolution, begun_alarm hq hreg, ← alarm, same]

/-- What a revolution's beginning and an index keep (R6, R85). -/
structure Blocks.Keeps (b c : Blocks) : Prop where
  alarm : c.alarm = b.alarm
  source : c.source = b.source
  planner : c.planner = b.planner
  lock : c.positioner.lock = b.positioner.lock
  record : c.head.record = b.head.record

theorem choose_keeps (b : Blocks) : b.Keeps (choose b) := ⟨by simp, by simp, by simp, by simp, by simp⟩

theorem Blocks.Keeps.trans {c : Blocks} (h : a.Keeps b) (h' : b.Keeps c) : a.Keeps c :=
  ⟨h'.alarm.trans h.alarm, h'.source.trans h.source, h'.planner.trans h.planner, h'.lock.trans h.lock,
    h'.record.trans h.record⟩

/-- R85: INDEX open, in an advance and in a dwell revolution. -/
theorem indexEvent_eq (station : Station) (hl : b.chain.Laid) :
    ∃ c, windowEvent station .index true b = c ∧ b.Keeps c ∧ c.shaft = b.shaft ∧ c.counters = b.counters
      ∧ c.chain = (if b.shaft.advance then b.chain.indexed else b.chain)
      ∧ c.board = if b.shaft.advance then b.board.carried b.chain else b.board := by
  refine ⟨_, rfl, ?_⟩
  cases ha : b.shaft.advance
  · have still : windowEvent station .index true b = b := by simp [windowEvent, ha]
    rw [still]
    exact ⟨⟨rfl, rfl, rfl, rfl, rfl⟩, rfl, rfl, rfl, rfl⟩
  · have indexes : windowEvent station .index true b
        = choose { b with chain := b.chain.indexed, board := b.board.carried b.chain } := by
      rw [← indexOpen_eq hl]
      simp [windowEvent, ha]
    rw [indexes]
    refine ⟨Blocks.Keeps.trans ?_ (choose_keeps _), choose_shaft _, choose_counters _, ?_, ?_⟩
    · exact ⟨rfl, rfl, rfl, rfl, rfl⟩
    · rw [choose_chain]
      rfl
    · rw [choose_board]
      rfl

theorem put_replicate_false : put (Vector.replicate 10 false) 0 false = Vector.replicate 10 false := by decide

/-- Settles O15: the crossing begins the revolution, and the windows of the sample's angle follow. -/
theorem crossingBeginsLiveRevolution : Obligations.CrossingBeginsLiveRevolution := by
  unfold Obligations.CrossingBeginsLiveRevolution
  intro turned indexed leftV leftG carried begun kept
  have hturned {c : Chain} (hc : c.Laid) : turned c = c.turned := by
    funext pitch slot
    cases slot with
    | empty => simp [turned, Chain.turned, Slot.leftVerify, Slot.leftGate]
    | reserved n d => simp [turned, Chain.turned, Slot.leftVerify, Slot.leftGate]
    | occupied o =>
      by_cases hv : pitch = c.pitchAt c.verifyOffset
      · simp [turned, Chain.turned, Slot.leftVerify, hv, hc.gate_ne_verify.symm]
      · by_cases hg : pitch = c.pitchAt c.gateOffset <;>
          simp [turned, Chain.turned, Slot.leftGate, hv, hg, hc.gate_ne_verify]
  have hindexed {c : Chain} (hc : c.Laid) : indexed c = c.indexed := by
    have strip : (match c.slotAt 0 with
        | .occupied _ => some (c.pitchAt 0) | .reserved _ _ => none | .empty => none) = c.moved.stripPending := by
      unfold Chain.moved
      cases c.slotAt 0 <;> rfl
    simp only [indexed, hturned hc]
    exact congrArg (fun p => { c.indexed with stripPending := p }) strip
  have hcarried (c : Chain) (d : Board) : carried c d = d.carried c := by
    refine congrArg (fun f => { d with window := d.window.map f }) (funext fun e => ?_)
    have atV : leftV c e = e.leftVerify (c.slotAt c.verifyOffset) := by
      simp only [leftV]
      cases c.slotAt c.verifyOffset <;> rfl
    have atG (e : StepContext) : leftG c e = e.leftGate (c.slotAt c.gateOffset) := by
      simp only [leftG]
      cases c.slotAt c.gateOffset <;> rfl
    rw [atV, atG]
  have keeps {s t : State} (h : s.blocks.Keeps t.blocks) (hl : t.link = s.link) : kept s t :=
    ⟨h.alarm, h.source, h.planner, h.lock, h.record, hl⟩
  refine ⟨fun station s driven hm hreg hd hq => ⟨fun hw => ?_, fun loaded start others sound hl => ?_⟩,
    fun station s h sound hl => ?_, fun station w opens s hw h ha => ?_⟩
  · have none : ∀ w, (choose s.blocks.begun).shaft.eventAt 0 w = none := fun w => by
      rw [choose_shaft]
      exact Shaft.eventAt_of_away (s := s.blocks.begun.shaft) (hw w)
    rw [exec_encoderSample, crossing_begins station driven hm hreg hd hq, windowEvents_none none]
    refine ⟨_, rfl, ⟨?_, ?_⟩, keeps (Blocks.Keeps.trans ?_ (choose_keeps _)) rfl, choose_chain _, choose_board _⟩
    · rw [choose_shaft, put_replicate_false]
      rfl
    · rw [choose_counters]
      rfl
    · exact ⟨rfl, rfl, rfl, rfl, rfl⟩
  · have shaft := choose_shaft s.blocks.begun
    have event : (choose s.blocks.begun).shaft.eventAt 0 .index = some true := by
      have arc : s.blocks.begun.shaft.arc .index = s.blocks.shaft.arc .index := rfl
      simp [Shaft.eventAt, arc, loaded, start, actsOnlyInAdvance]
    have live : (choose s.blocks.begun).shaft.live = true := by rw [shaft]; rfl
    have once : ∀ v : Window, v ≠ .index → ((choose s.blocks.begun).shaft.arc v).loaded = true →
        ((choose s.blocks.begun).shaft.arc v).start ≠ 0 ∧ ((choose s.blocks.begun).shaft.arc v).stop ≠ 0 := by
      rw [shaft]
      exact others
    have laid : ({ s.blocks.chain with grant := false } : Chain).Laid := by
      obtain ⟨slots, pointer, long, verify, gate⟩ := sound.laid hl
      exact ⟨slots, pointer, long, verify, gate⟩
    have chosen := choose_keeps s.blocks.begun
    have chain := choose_chain s.blocks.begun
    have board := choose_board s.blocks.begun
    have counters := choose_counters s.blocks.begun
    rw [exec_encoderSample, crossing_begins station driven hm hreg hd hq, windowEvents_one live event once]
    generalize choose s.blocks.begun = x at shaft chosen chain board counters
    have laidx : (x.onShaft fun h => { h with opened := put h.opened 0 true }).chain.Laid := by
      rw [Blocks.onShaft_chain, chain]
      exact laid
    obtain ⟨c, e, keep, shaft', counters', chain', board'⟩ := indexEvent_eq station laidx
    have opened : takeWindow station .index true x = c := e
    have advance : (x.onShaft fun h => { h with opened := put h.opened 0 true }).shaft.advance = s.blocks.chain.grant := by
      rw [Blocks.onShaft_shaft, shaft]
      rfl
    have kept' : s.blocks.Keeps c :=
      ⟨keep.alarm.trans chosen.alarm, keep.source.trans chosen.source, keep.planner.trans chosen.planner,
        keep.lock.trans chosen.lock, keep.record.trans chosen.record⟩
    rw [opened]
    refine ⟨_, rfl, ⟨?_, ?_⟩, keeps kept' rfl, ?_, ?_⟩
    · rw [shaft', Blocks.onShaft_shaft, shaft]
      rfl
    · rw [counters', Blocks.onShaft_counters, counters]
      rfl
    · rw [chain', advance, Blocks.onShaft_chain, chain, hindexed laid]
      rfl
    · rw [board', advance, Blocks.onShaft_chain, Blocks.onShaft_board, chain, board, hcarried]
      rfl
  · have laid := sound.laid hl
    obtain ⟨c, e, keep, shaft, -, chain, board⟩ := indexEvent_eq (b := s.blocks.counted .index true) station laid
    rw [exec_encoderSample, forwardSample_meets station h nofun, e]
    refine ⟨_, rfl, shaft, keeps ⟨keep.alarm, keep.source, keep.planner, keep.lock, keep.record⟩ rfl, ?_, ?_⟩
    · rw [hindexed laid]
      exact chain
    · rw [hcarried]
      exact board
  · have mute : actsOnlyInAdvance w = true := by
      simp only [List.mem_cons, List.not_mem_nil, or_false] at hw
      rcases hw with rfl | rfl | rfl <;> rfl
    rw [exec_encoderSample, forwardSample_mute station h mute ha]
    rfl

end Sys2Proof.Machine

end

section
/-! # READ of the tables -/

namespace Sys2Proof.Machine

set_option Elab.async false

variable {b : Blocks} {l : LinkPort}

/-! ## Bytes of a READ REPLY (R176, 11.8) -/

theorem byteOf_add (m n : Nat) : byteOf (m + n) = byteOf m + byteOf n := BitVec.ofNat_add m n

/-- A flag's byte is the weight of its bit, or 0. -/
theorem byteOf_flag (set : Bool) (n : Nat) : byteOf (flag set n) = if set then byteOf (2 ^ n) else 0#8 := by
  cases set <;> rfl

theorem toNat_byteOf_of_lt {n : Nat} (h : n < 256) : (byteOf n).toNat = n := Nat.mod_eq_of_lt h

theorem readRecord_byteAt_table {table index : Nat} (h : table < 256) : byteAt [byteOf table, byteOf index] 0 = table :=
  toNat_byteOf_of_lt h

theorem readRecord_byteAt_index {table index : Nat} (h : index < 256) : byteAt [byteOf table, byteOf index] 1 = index :=
  toNat_byteOf_of_lt h

theorem VerifyState.byteOf_code (v : VerifyState) :
    byteOf v.code = match v with | .unmeasured => 0#8 | .passed => 1#8 | .failed => 2#8 := by cases v <;> rfl

theorem Disposition.byteOf_code (d : Disposition) :
    byteOf d.code = match d with | .insert => 0#8 | .divert => 1#8 | .strip => 2#8 := by cases d <;> rfl

/-! ## READ at the dispatcher (R183) -/

section

variable {s : State} {rest : List Record} {table index : Nat}

theorem exec_read (s : State) : exec .read s = answerRow .read 2 (fun p b => takeRead p s.link b) s := rfl

/-- R183: a READ of an entry that exists is answered by the entry's reply. -/
theorem exec_read_of_entry {contents : List Byte} (h : s.offers ⟨0x11#8, [byteOf table, byteOf index]⟩ rest)
    (ht : table ≤ 17) (hi : index < 256) (hs : index < tableSize table s.blocks)
    (he : readEntry table index s.blocks s.link = ⟨0x85#8, byteOf table :: byteOf index :: contents⟩) :
    exec .read s = .next (s.answered rest ⟨0x85#8, byteOf table :: byteOf index :: contents⟩) := by
  rw [exec_read]
  refine answerRow_reply h (takeable_of_not_stream rfl _ _) rfl ?_
  simp only [takeRead]
  rw [readRecord_byteAt_table (by omega), readRecord_byteAt_index hi, if_neg (by omega), if_neg (by omega), he]

theorem exec_read_of_table (h : s.offers ⟨0x11#8, [byteOf table, byteOf index]⟩ rest) (ht : table < 256)
    (high : 17 < table) : exec .read s = .next (s.answered rest (refusal 0x11#8 .range (.number table))) := by
  rw [exec_read]
  refine answerRow_refuse h (takeable_of_not_stream rfl _ _) rfl ?_
  simp only [takeRead]
  rw [readRecord_byteAt_table ht, if_pos high]

theorem exec_read_of_index (h : s.offers ⟨0x11#8, [byteOf table, byteOf index]⟩ rest) (ht : table ≤ 17)
    (hi : index < 256) (hs : tableSize table s.blocks ≤ index) :
    exec .read s = .next (s.answered rest (refusal 0x11#8 .range (.number index))) := by
  rw [exec_read]
  refine answerRow_refuse h (takeable_of_not_stream rfl _ _) rfl ?_
  simp only [takeRead]
  rw [readRecord_byteAt_table (by omega), readRecord_byteAt_index hi, if_neg (by omega), if_pos hs]

end

/-! ## The entries of the tables -/

/-- R183: the reply for a table with a loaded flag. -/
theorem readEntry_loaded {table : Nat} (h : table ≤ 7) (i : Nat) :
    readEntry table i b l = readReply table i (readLoaded table i b).1 (readLoaded table i b).2 := if_pos h

/-- R183: the reply for a table of states, its loaded bit set. -/
theorem readEntry_state {table : Nat} (h : 7 < table) (h17 : table ≠ 17) (i : Nat) :
    readEntry table i b l = readReply table i true (readState table i b) :=
  (if_neg (Nat.not_le.mpr h)).trans (if_neg h17)

theorem readReply_of_contents {table i : Nat} {loaded : Bool} {contents bytes : List Byte}
    (h : byteOf (flag loaded 0) :: contents = bytes) :
    readReply table i loaded contents = ⟨0x85#8, byteOf table :: byteOf i :: bytes⟩ := by
  rw [← h]; rfl

/-- R183: a READ of a table with a loaded flag is answered by its bytes. -/
theorem exec_read_of_loaded {s : State} {rest : List Record} {table index : Nat} {bytes : List Byte}
    (h : s.offers ⟨0x11#8, [byteOf table, byteOf index]⟩ rest) (ht : table ≤ 7) (hi : index < 256)
    (hs : index < tableSize table s.blocks)
    (he : byteOf (flag (readLoaded table index s.blocks).1 0) :: (readLoaded table index s.blocks).2 = bytes) :
    exec .read s = .next (s.answered rest ⟨0x85#8, byteOf table :: byteOf index :: bytes⟩) :=
  exec_read_of_entry h (by omega) hi hs ((readEntry_loaded ht index).trans (readReply_of_contents he))

/-- R183: a READ of a table of states is answered by its bytes. -/
theorem exec_read_of_state {s : State} {rest : List Record} {table index : Nat} {bytes : List Byte}
    (h : s.offers ⟨0x11#8, [byteOf table, byteOf index]⟩ rest) (ht : 7 < table ∧ table < 17) (hi : index < 256)
    (hs : index < tableSize table s.blocks) (he : readState table index s.blocks = bytes) :
    exec .read s = .next (s.answered rest ⟨0x85#8, byteOf table :: byteOf index :: 1#8 :: bytes⟩) :=
  exec_read_of_entry h (by omega) hi hs
    ((readEntry_state ht.1 (by omega) index).trans (readReply_of_contents (by rw [he]; rfl)))

/-- Table 11-16, id 8: the codes without a line. -/
theorem notLevelCode (code : Nat) :
    (!isLevelCode code) = (decide (code ≠ 0) && decide (code ≠ 20) && decide (code ≠ 21) && decide (code ≠ 22)) := by
  simp [isLevelCode, Bool.and_assoc]

/-- Table 11-16, id 14: the four counters in order. -/
theorem events_toList (events : Vector EventCounter 4) : events.toList = (List.range 4).map (look events) := by
  refine List.ext_getElem (by simp) fun i h _ => ?_
  have hi : i < 4 := by simpa using h
  simp [look, Vector.getElem?_eq_getElem hi]

/-- Settles O53, table by table: each entry's bytes are those of its layout. -/
theorem readsReply : Obligations.ReadsReply := by
  unfold Obligations.ReadsReply
  intro table index rest s ht hi h reply bit r
  refine ⟨?_, ?_, ?_, ?_, ?_, ?_, ?_, ?_, ?_, ?_, ?_, ?_, ?_, ?_, ?_, ?_, ?_, ?_, ?_⟩
  · rintro rfl hs
    refine exec_read_of_loaded h (by decide) hi hs ?_
    simp only [readLoaded, byteOf_flag]
    rfl
  · rintro rfl rfl
    refine exec_read_of_state h (by decide) hi (by decide : 0 < 1) ?_
    simp only [readState]
    cases s.blocks.shaft.resumeChoice <;> rfl
  · rintro rfl rfl
    exact exec_read_of_state h (by decide) hi (by decide : 0 < 1) rfl
  · rintro rfl rfl
    exact exec_read_of_entry h (by decide) hi (by decide : 0 < 1) rfl
  · rintro rfl rfl
    refine exec_read_of_loaded h (by decide) hi (by decide : 0 < 1) ?_
    simp only [readLoaded, byteOf_flag]
    rfl
  · rintro rfl
    refine exec_read_of_loaded h (by decide) hi hi ?_
    simp only [readLoaded]
    cases s.blocks.source.kind? index with
    | none => rfl
    | some k =>
      simp only [Kind.bytes, byteOf_flag]
      cases k.policy <;> cases k.selection <;> rfl
  · rintro rfl hs
    refine exec_read_of_loaded h (by decide) hi hs ?_
    simp only [readLoaded, flagByte, byteOf_flag]
    rfl
  · rintro rfl hs
    refine exec_read_of_loaded h (by decide) hi hs ?_
    simp only [readLoaded, byteOf_flag]
    rfl
  · rintro rfl hs
    refine exec_read_of_loaded h (by decide) hi hs ?_
    simp only [readLoaded, flagByte, byteOf_flag]
    rfl
  · rintro rfl rfl
    refine exec_read_of_loaded h (by decide) hi (by decide : 0 < 1) ?_
    simp only [readLoaded, byteOf_flag]
    rfl
  · rintro rfl hs
    refine exec_read_of_loaded h (by decide) hi hs ?_
    simp only [readLoaded]
    cases look s.blocks.head.profiles index with
    | none => rfl
    | some v => obtain ⟨direction, cut⟩ := v; cases direction <;> rfl
  · rintro rfl hs
    refine exec_read_of_state h (by decide) hi hs ?_
    simp only [readState, AlarmEntry.readBytes, notLevelCode, byteOf_add, byteOf_flag]
    generalize look s.blocks.alarm.codes index = e
    obtain ⟨state, cls, count, context, pending, notice⟩ := e
    cases state <;> cases cls <;> rfl
  · rintro rfl hs
    refine exec_read_of_state h (by decide) hi hs ?_
    simp only [readState, EventCounter.bytes, byteOf_add, byteOf_flag]
    rfl
  · rintro rfl hs
    refine exec_read_of_state h (by decide) hi hs ?_
    simp only [readState, Dispenser.readBytes, byteOf_add, byteOf_flag]
    cases (look s.blocks.source.dispensers index).reel <;>
      cases (look s.blocks.source.dispensers index).condition <;> rfl
  · rintro rfl
    refine exec_read_of_state h (by decide) hi hi ?_
    simp only [readState, KindEntry.readBytes, byteOf_flag, Source.availableSources]
    cases (look s.blocks.source.kinds index).entry <;> rfl
  · rintro rfl hs pitch
    refine (exec_read_of_state h (by decide) hi hs rfl).trans ?_
    simp only [readState]
    cases s.blocks.chain.slotAt index with
    | empty => rfl
    | reserved n d => rfl
    | occupied o =>
      simp only [Slot.readBytes, byteOf_add, byteOf_flag]
      obtain ⟨step, source, kind, verify, disposition, reason⟩ := o
      rw [VerifyState.byteOf_code, Disposition.byteOf_code]
      rcases reason with _ | (_ | _) <;> rfl
  · rintro rfl rfl
    refine exec_read_of_state h (by decide) hi (by decide : 0 < 1) ?_
    simp only [readState, events_toList, List.flatMap_map, EventCounter.readBytes, byteOf_add, byteOf_flag]
    rfl
  · exact exec_read_of_table h ht
  · intro entries mem hs
    simp only [List.mem_cons, Prod.mk.injEq, List.not_mem_nil, or_false] at mem
    rcases mem with ⟨rfl, rfl⟩ | ⟨rfl, rfl⟩ | ⟨rfl, rfl⟩ | ⟨rfl, rfl⟩ | ⟨rfl, rfl⟩ | ⟨rfl, rfl⟩ | ⟨rfl, rfl⟩ | ⟨rfl, rfl⟩
      | ⟨rfl, rfl⟩ | ⟨rfl, rfl⟩ | ⟨rfl, rfl⟩ | ⟨rfl, rfl⟩ | ⟨rfl, rfl⟩ | ⟨rfl, rfl⟩ | ⟨rfl, rfl⟩ | ⟨rfl, rfl⟩
    all_goals exact exec_read_of_index h (by decide) hi hs

end Sys2Proof.Machine

end

section
/-! # LOAD of the tables -/

namespace Sys2Proof.Machine

set_option Elab.async false

variable {b : Blocks} {p : List Byte} {i n : Nat}

/-! ## Fields of a payload (R176) -/

theorem byteAt_of_byte {x : Byte} (h : p[i]? = some x) : byteAt p i = x.toNat := by simp [byteAt, h]

theorem bitAt_of_byte {x : Byte} (h : p[i]? = some x) (k : Nat) : bitAt p i k = x.getLsbD k := by simp [bitAt, h]

theorem byteAt_of_byteOf (h : p[i]? = some (byteOf n)) (hn : n < 256) : byteAt p i = n :=
  (byteAt_of_byte h).trans (toNat_byteOf_of_lt hn)

theorem u16At_of_be16 (h0 : p[i]? = some (byteOf (n / 256))) (h1 : p[i + 1]? = some (byteOf n)) (hn : n < 65536) :
    u16At p i = n := by
  rw [u16At, byteAt_of_byte h0, byteAt_of_byte h1, byteOf_toNat, byteOf_toNat]
  omega

theorem u24At_of_be24 (h0 : p[i]? = some (byteOf (n / 65536))) (h1 : p[i + 1]? = some (byteOf (n / 256)))
    (h2 : p[i + 2]? = some (byteOf n)) (hn : n < 16777216) : u24At p i = n := by
  rw [u24At, u16At, byteAt_of_byte h0, byteAt_of_byte h1, byteAt_of_byte h2, byteOf_toNat, byteOf_toNat, byteOf_toNat]
  omega

theorem u32At_of_be32 (h0 : p[i]? = some (byteOf (n / 16777216))) (h1 : p[i + 1]? = some (byteOf (n / 65536)))
    (h2 : p[i + 2]? = some (byteOf (n / 256))) (h3 : p[i + 3]? = some (byteOf n)) (hn : n < 4294967296) :
    u32At p i = n := by
  rw [u32At, u16At, u16At, byteAt_of_byte h0, byteAt_of_byte h1, byteAt_of_byte h2, byteAt_of_byte h3, byteOf_toNat,
    byteOf_toNat, byteOf_toNat, byteOf_toNat]
  omega

/-- A number sent in two's complement is read back. -/
theorem signedOf_mod (half : Nat) {x : Int} (h : 0 < half) (low : -(half : Int) ≤ x) (high : x < half) :
    signedOf half (x % (2 * half : Nat)).toNat = x := by
  rcases Int.lt_or_le x 0 with neg | nonneg
  · have e : x % (2 * half : Nat) = x + 2 * half := by
      rw [← Int.add_emod_right]
      exact Int.emod_eq_of_lt (by omega) (by omega)
    rw [e, signedOf, if_neg (by omega)]
    omega
  · rw [Int.emod_eq_of_lt nonneg (by omega), signedOf, if_pos (by omega)]
    omega

theorem s16At_of_be16 {x : Int} (h0 : p[i]? = some (byteOf ((x % 65536).toNat / 256)))
    (h1 : p[i + 1]? = some (byteOf (x % 65536).toNat)) (low : -32768 ≤ x) (high : x < 32768) : s16At p i = x := by
  rw [s16At, u16At_of_be16 h0 h1 (by omega)]
  exact signedOf_mod 32768 (by decide) low high

theorem s32At_of_beSigned32 {x : Int} (h0 : p[i]? = some (byteOf ((x % 4294967296).toNat / 16777216)))
    (h1 : p[i + 1]? = some (byteOf ((x % 4294967296).toNat / 65536)))
    (h2 : p[i + 2]? = some (byteOf ((x % 4294967296).toNat / 256)))
    (h3 : p[i + 3]? = some (byteOf (x % 4294967296).toNat)) (low : -2147483648 ≤ x) (high : x ≤ 2147483647) :
    s32At p i = x := by
  rw [s32At, u32At_of_be32 h0 h1 h2 h3 (by omega)]
  exact signedOf_mod 2147483648 (by decide) low (by omega)

/-! ## LOAD records at the dispatcher (R180, R181) -/

theorem loadRecord_row {table : Nat} (h : table ≤ 10) (index : Nat) (contents : List Byte) :
    (loadRecord table index contents).row = .load table := by
  have byte : byteAt (byteOf table :: byteOf index :: contents) 0 = table :=
    byteAt_of_byteOf rfl (by omega)
  simp [loadRecord, Record.row, typeBoardStart, typeStep, typeBoardEnd, typeBadImage, typeLoad, byte, h]

theorem answerLoad_accept {s : State} {rest : List Record} {table index : Nat} {contents : List Byte}
    {f : List Byte → Blocks → Answer} {c : Blocks} (ht : table ≤ 10)
    (h : s.offers (loadRecord table index contents) rest)
    (hf : f (byteOf table :: byteOf index :: contents) s.blocks = .accept c) :
    answerLoad table (contents.length + 2) f s = .next (s.taken rest c) :=
  answerRow_accept h (takeable_of_not_stream (by simp [Record.isStream, loadRecord_row ht]) _ _)
    (loadRecord_row ht index contents) hf

/-! ## What each LOAD leaves -/

theorem look_put {α : Type} [Inhabited α] {n : Nat} (t : Vector α n) {i : Nat} (x : α) (h : i < n) (q : Nat) :
    look (put t i x) q = if q = i then x else look t q := by
  split
  · next e => rw [e, look_put_self t x h]
  · next ne => exact look_put_of_ne t x (Ne.symm ne)

theorem Board.not_standing {d : Board} (h : d.phase = .none) : d.standing = false := by simp [Board.standing, h]

theorem camBusy_of_idle (hb : b.board.phase = .none) (hm : b.shaft.machine.turning = false) : camBusy b = false := by
  simp [camBusy, Board.not_standing hb, hm]

/-- R4: a window's entry. -/
theorem takeLoadCam_window {e a z : Nat} (he : byteAt p 1 = e) (ha : u16At p 2 = a) (hz : u16At p 4 = z)
    (free : camBusy b = false) (window : e < 10) (order : a < z) (last : z ≤ 1439) :
    takeLoadCam p b = .accept { b with shaft := { b.shaft with cam := put b.shaft.cam e ⟨true, a, z⟩ } } := by
  have range : ¬ (10 < e ∨ camAnglesBad p = true) := by
    simp [camAnglesBad, he, ha, hz, Config.lastAngle]; omega
  rw [takeLoadCam, he, if_neg (by simp [free]), if_neg range, camEntryOf, he, if_neg (by omega), ha, hz]
  rfl

/-- R4: the park angle's entry. -/
theorem takeLoadCam_park {a : Nat} (he : byteAt p 1 = 10) (ha : u16At p 2 = a) (free : camBusy b = false)
    (last : a ≤ 1439) :
    takeLoadCam p b = .accept { b with shaft := { b.shaft with cam := put b.shaft.cam 10 ⟨true, a, 0⟩ } } := by
  have range : ¬ (10 < 10 ∨ camAnglesBad p = true) := by
    simp [camAnglesBad, he, ha, Config.lastAngle]; omega
  rw [takeLoadCam, he, if_neg (by simp [free]), if_neg range, camEntryOf, he, if_pos rfl, ha]
  rfl

/-- R79: the geometry of an empty chain. -/
theorem takeLoadGeometry_of_fits {l v g : Nat} (hi : byteAt p 1 = 0) (hl : byteAt p 2 = l) (hv : byteAt p 3 = v)
    (hg : byteAt p 4 = g) (length : 64 ≤ l ∧ l ≤ 240) (verify : 2 ≤ v ∧ v ≤ 15) (gate : 1 ≤ g ∧ g < v)
    (hb : b.board.phase = .none) (empty : b.chain.work = false) :
    takeLoadGeometry p b = .accept { b with chain := { b.chain with
      loaded := true, length := l, verifyOffset := v, gateOffset := g, slots := List.replicate l .empty
      pointer := 0 } } := by
  simp only [takeLoadGeometry, hi, hl, hv, hg]
  rw [if_neg (by decide), if_neg (by omega), if_neg (by omega), if_neg (by omega),
    if_neg (by simp [Board.not_standing hb, empty])]
  rfl

/-- R102: an image's entry. -/
theorem takeLoadImage_of_fits {ox oy : Nat} {installed : Bool} (hi : byteAt p 1 = i)
    (hn : byteAt p 2 = if installed then 1 else 0) (hx : u16At p 3 = ox) (hy : u16At p 5 = oy) (table : i < 16)
    (fx : ox ≤ 60000) (fy : oy ≤ 60000) (hb : b.board.phase = .none) :
    takeLoadImage p b = .accept { b with positioner := { b.positioner with
      images := put b.positioner.images i ⟨installed, ox, oy⟩ } } := by
  have flags : byteAt p 2 ≤ 1 := by rw [hn]; split <;> decide
  have same : decide (byteAt p 2 = 1) = installed := by rw [hn]; cases installed <;> rfl
  simp only [takeLoadImage, hi, hx, hy, same]
  rw [if_neg (by omega), if_neg (by omega), if_neg (by omega), if_neg (by omega), if_neg (by simp [Board.not_standing hb])]
  rfl

/-- R103: the table configuration, its fields within Table 6-2. -/
theorem takeLoadTableConfiguration_of_fits {kx ky hx hy rx ry wf wc : Nat} {x₀ x₁ y₀ y₁ : Int} (hi : byteAt p 1 = 0)
    (hkx : u16At p 2 = kx) (hky : u16At p 4 = ky) (hhx : u16At p 6 = hx) (hhy : u16At p 8 = hy) (hrx : u16At p 10 = rx)
    (hry : u16At p 12 = ry) (hx₀ : s32At p 14 = x₀) (hx₁ : s32At p 18 = x₁) (hy₀ : s32At p 22 = y₀)
    (hy₁ : s32At p 26 = y₁) (hwf : byteAt p 30 = wf) (hwc : byteAt p 31 = wc) (scale : 1 ≤ kx ∧ 1 ≤ ky)
    (limits : x₀ ≤ x₁ ∧ y₀ ≤ y₁) (windows : 1 ≤ wf ∧ 1 ≤ wc) (hb : b.board.phase = .none) :
    takeLoadTableConfiguration p b = .accept { b with positioner := { b.positioner with
      config := ⟨true, kx, ky, hx, hy, rx, ry, x₀, x₁, y₀, y₁, wf, max wc wf⟩ } } := by
  obtain ⟨kx0, ky0⟩ := scale
  obtain ⟨x01, y01⟩ := limits
  obtain ⟨wf0, wc0⟩ := windows
  have fits : tableConfigFault p = none := by
    simp [tableConfigFault, hkx, hky, hx₀, hx₁, hy₀, hy₁, hwf, hwc]
    omega
  rw [takeLoadTableConfiguration, hi, fits, if_neg (by decide)]
  simp only [Board.not_standing hb, tableConfigOfBytes, hkx, hky, hhx, hhy, hrx, hry, hx₀, hx₁, hy₀, hy₁, hwf, hwc]
  rfl

theorem CountEvent.countEventOf_code (e : CountEvent) : countEventOf e.code = e := by cases e <;> rfl

theorem CountEvent.code_le (e : CountEvent) : e.code ≤ 14 := by cases e <;> decide

/-- R167: an event counter's entry. -/
theorem takeLoadCounter_of_fits {event : CountEvent} {x y t limit : Nat} {invert edge enable : Bool}
    (hi : byteAt p 1 = i) (he : byteAt p 2 = event.code) (hx : byteAt p 3 = x) (hy : byteAt p 4 = y)
    (ht : byteAt p 5 = t) (hn : bitAt p 6 2 = invert) (hd : bitAt p 6 1 = edge) (ha : bitAt p 6 0 = enable)
    (hl : u32At p 7 = limit) (table : i < 4) :
    takeLoadCounter p b = .accept { b with counters := { b.counters with
      events := put b.counters.events i
        ⟨event, x, y, t, invert, edge, limit, enable, 0, false, false, false⟩ } } := by
  have code := event.code_le
  rw [takeLoadCounter, hi, he, if_neg (by omega), if_neg (by omega), counterOfBytes, he, hx, hy, ht, hn, hd, ha, hl,
    CountEvent.countEventOf_code]
  rfl

theorem Direction.directionOf_index (d : Direction) : directionOf d.index = d := by cases d <;> rfl

theorem Direction.index_le (d : Direction) : d.index ≤ 2 := by cases d <;> decide

/-- R120: the blocks with a clinch profile's entry replaced. -/
def Blocks.loadedProfile (b : Blocks) (i : Nat) (entry : Option Profile) : Blocks :=
  b.onHead fun h => { h with profiles := put h.profiles i entry }

/-- R120: a clinch profile's entry, compared again at once (R121). -/
theorem takeLoadProfile_of_fits {entry : Option Profile} (hi : byteAt p 1 = i) (hu : bitAt p 2 0 = entry.isNone)
    (hv : ∀ v, entry = some v → byteAt p 3 = v.direction.index ∧ byteAt p 4 = v.cut ∧ v.cut < 4) (table : i < 16) :
    takeLoadProfile p b = .accept (recompare (b.loadedProfile i entry)) := by
  have bound : ¬ 15 < i := by omega
  cases entry with
  | none => simp [takeLoadProfile, Blocks.loadedProfile, profileFieldFault, hi, hu, bound]
  | some v =>
    obtain ⟨direction, cut, fits⟩ := hv v rfl
    have known := v.direction.index_le
    simp [takeLoadProfile, Blocks.loadedProfile, profileFieldFault, hi, hu, bound, direction, cut, Direction.directionOf_index,
      Nat.not_lt.mpr known, Nat.not_lt.mpr (Nat.le_of_lt_succ fits)]

/-! ## The comparison of the profile outputs (R121) -/

theorem recompare_of_locked (h : b.positioner.lock ≠ none) : recompare b = b := by
  unfold recompare
  split
  · next hl _ => exact absurd hl h
  · rfl

theorem recompare_of_not_handed (h : b.head.handed = none) : recompare b = b := by
  unfold recompare
  split
  · next hq => rw [h] at hq; cases hq
  · rfl

theorem recompare_head_of_free {q : Nat} (hl : b.positioner.lock = none) (hq : b.head.handed = some q) :
    (recompare b).head = b.head.compareProfile q := by
  simp only [recompare, hl, hq]
  rfl

theorem Head.compareProfile_of_presented {h : Head} {q : Nat} {v : Profile} (hv : look h.profiles q = some v)
    (ho : h.output = some ⟨q, v⟩) : h.compareProfile q = h := by
  simp only [Head.compareProfile, hv, if_pos ho]

theorem Head.compareProfile_of_other {h : Head} {q : Nat} {v : Profile} (hv : look h.profiles q = some v)
    (ho : h.output ≠ some ⟨q, v⟩) :
    h.compareProfile q = { h with output := some ⟨q, v⟩, ready := false, driven := true } := by
  simp only [Head.compareProfile, hv, if_neg ho]

theorem Head.compareProfile_of_unloaded {h : Head} {q : Nat} (hv : look h.profiles q = none) :
    h.compareProfile q = { h with output := none, ready := false } := by
  simp only [Head.compareProfile, hv]

/-- R121: a comparison changes the outputs alone. -/
theorem Head.compareProfile_frame (h : Head) (q : Nat) :
    h.compareProfile q = { h with
      output := (h.compareProfile q).output, ready := (h.compareProfile q).ready
      driven := (h.compareProfile q).driven } := by
  cases hv : look h.profiles q with
  | none => rw [Head.compareProfile_of_unloaded hv]
  | some v =>
    by_cases ho : h.output = some ⟨q, v⟩
    · rw [Head.compareProfile_of_presented hv ho]
    · rw [Head.compareProfile_of_other hv ho]

theorem recompare_frame (b : Blocks) :
    recompare b = { b with head := { b.head with
      output := (recompare b).head.output, ready := (recompare b).head.ready
      driven := (recompare b).head.driven } } := by
  unfold recompare
  split
  · next q _ _ => exact congrArg (fun h => { b with head := h }) (b.head.compareProfile_frame q)
  · rfl

/-- Settles O48, table by table: the fields read back from the record pass their owner's tests. -/
theorem loadsReplaceEntries : Obligations.LoadsReplaceEntries := by
  unfold Obligations.LoadsReplaceEntries
  intro rest s
  refine ⟨?_, ?_, ?_, ?_, ?_, ?_, ?_⟩
  · intro e a z window order last hb hm h
    exact answerLoad_accept (by decide) h (takeLoadCam_window (byteAt_of_byteOf rfl (by omega))
      (u16At_of_be16 rfl rfl (by omega)) (u16At_of_be16 rfl rfl (by omega)) (camBusy_of_idle hb hm) window order last)
  · intro a x last hx hb hm h
    exact answerLoad_accept (by decide) h (takeLoadCam_park (byteAt_of_byteOf rfl (by omega))
      (u16At_of_be16 rfl rfl (by omega)) (camBusy_of_idle hb hm) last)
  · intro l v g l0 l1 v0 v1 g0 g1 hb empty h
    exact answerLoad_accept (by decide) h (takeLoadGeometry_of_fits (byteAt_of_byteOf rfl (by omega))
      (byteAt_of_byteOf rfl (by omega)) (byteAt_of_byteOf rfl (by omega)) (byteAt_of_byteOf rfl (by omega))
      ⟨l0, l1⟩ ⟨v0, v1⟩ ⟨g0, g1⟩ hb empty)
  · intro i ox oy installed table fx fy hb h
    refine answerLoad_accept (by decide) h (takeLoadImage_of_fits (byteAt_of_byteOf rfl (by omega)) ?_
      (u16At_of_be16 rfl rfl (by omega)) (u16At_of_be16 rfl rfl (by omega)) table fx fy hb)
    cases installed <;> rfl
  · intro kx ky hx hy rx ry wf wc x₀ x₁ y₀ y₁ kx0 kx1 ky0 ky1 hx1 hy1 rx1 ry1 wf0 wf1 wc0 wc1 x0 x01 x1 y0 y01 y1 hb h
    refine answerLoad_accept (f := takeLoadTableConfiguration) (by decide) h ?_
    simp only [be16, beSigned32, be32, List.cons_append, List.nil_append]
    exact takeLoadTableConfiguration_of_fits rfl (u16At_of_be16 rfl rfl kx1) (u16At_of_be16 rfl rfl ky1)
      (u16At_of_be16 rfl rfl hx1) (u16At_of_be16 rfl rfl hy1) (u16At_of_be16 rfl rfl rx1) (u16At_of_be16 rfl rfl ry1)
      (s32At_of_beSigned32 rfl rfl rfl rfl x0 (by omega)) (s32At_of_beSigned32 rfl rfl rfl rfl (by omega) x1)
      (s32At_of_beSigned32 rfl rfl rfl rfl y0 (by omega)) (s32At_of_beSigned32 rfl rfl rfl rfl (by omega) y1)
      (byteAt_of_byteOf rfl wf1) (byteAt_of_byteOf rfl wc1) ⟨kx0, ky0⟩ ⟨x01, y01⟩ ⟨wf0, wc0⟩ hb
  · intro i entry x y table cuts h
    have taken : exec .loadClinchProfile s = .next (s.taken rest (recompare (s.blocks.loadedProfile i entry))) := by
      cases entry with
      | none =>
        exact answerLoad_accept (by decide) h (takeLoadProfile_of_fits (byteAt_of_byteOf rfl (by omega))
          ((bitAt_of_byte rfl 0).trans (by simp)) (by nofun) table)
      | some v =>
        have direction := v.direction.index_le
        have cut := cuts v rfl
        exact answerLoad_accept (by decide) h (takeLoadProfile_of_fits (byteAt_of_byteOf rfl (by omega))
          ((bitAt_of_byte rfl 0).trans (by simp)) (fun w hw => by
            cases hw
            exact ⟨byteAt_of_byteOf rfl (by omega), byteAt_of_byteOf rfl (by omega), cut⟩) table)
    have held : ∀ q, look (s.blocks.loadedProfile i entry).head.profiles q
        = if q = i then entry else look s.blocks.head.profiles q := look_put _ _ table
    refine ⟨_, _, _, taken.trans (congrArg (fun c => Host.Outcome.next (s.taken rest c)) (recompare_frame _)),
      fun locked => ?_, fun free => ⟨fun unhanded => ?_, fun q v hq hv ho => ?_, fun q v hq hv ho => ?_, fun q hq hv => ?_⟩⟩
    · rw [recompare_of_locked (b := s.blocks.loadedProfile i entry) locked]
      exact ⟨rfl, rfl, rfl⟩
    · rw [recompare_of_not_handed (b := s.blocks.loadedProfile i entry) unhanded]
      exact ⟨rfl, rfl, rfl⟩
    · rw [recompare_head_of_free (b := s.blocks.loadedProfile i entry) free hq,
        Head.compareProfile_of_presented ((held q).trans hv) ho]
      exact ⟨rfl, rfl, rfl⟩
    · rw [recompare_head_of_free (b := s.blocks.loadedProfile i entry) free hq,
        Head.compareProfile_of_other ((held q).trans hv) ho]
      exact ⟨rfl, rfl, rfl⟩
    · rw [recompare_head_of_free (b := s.blocks.loadedProfile i entry) free hq,
        Head.compareProfile_of_unloaded ((held q).trans hv)]
      exact ⟨rfl, rfl, rfl⟩
  · intro n event x y t limit invert edge enable table hx hy ht hl h
    have code := event.code_le
    refine answerLoad_accept (by decide) h (takeLoadCounter_of_fits (byteAt_of_byteOf rfl (by omega))
      (byteAt_of_byteOf rfl (by omega)) (byteAt_of_byteOf rfl hx) (byteAt_of_byteOf rfl hy) (byteAt_of_byteOf rfl ht)
      ?_ ?_ ?_ (u32At_of_be32 rfl rfl rfl rfl hl) table)
    all_goals
      refine (bitAt_of_byte rfl _).trans ?_
      cases invert <;> cases edge <;> cases enable <;> decide

end Sys2Proof.Machine

end

section
/-! # BOARD START and BOARD END -/

namespace Sys2Proof.Machine

set_option Elab.async false

variable {b : Blocks} {p : List Byte}

/-! ## The cross-table checks (R21, Table 2-2) -/

theorem firstIndex_eq_none {n : Nat} {test : Nat → Bool} {P : Nat → Prop} (e : ∀ i, i < n → (test i = false ↔ P i))
    (h : ∀ i, i < n → P i) : firstIndex n test = none := by
  rw [firstIndex, List.find?_eq_none]
  intro i hi
  have hi := List.mem_range.mp hi
  simp [(e i hi).mpr (h i hi)]

theorem firstIndex_eq_some {n i : Nat} {test : Nat → Bool} {P : Nat → Prop} (e : ∀ i, i < n → (test i = false ↔ P i))
    (hi : i < n) (fails : ¬ P i) (before : ∀ j, j < i → P j) : firstIndex n test = some i := by
  rw [firstIndex, List.find?_range_eq_some]
  refine ⟨?_, List.mem_range.mpr hi, fun j hj => ?_⟩
  · exact (Bool.not_eq_false _).mp fun h => fails ((e i hi).mp h)
  · simp [(e j (by omega)).mpr (before j hj)]

/-- Table 2-2, check 3, of one dispenser. -/
def Blocks.placed (b : Blocks) (d : Nat) : Prop :=
  (look b.source.dispensers d).installed = true →
    b.chain.verifyOffset + 1 ≤ (look b.source.dispensers d).offset
      ∧ (look b.source.dispensers d).offset + 2 ≤ b.chain.length

/-- Table 2-2, check 4, of one kind. -/
def Blocks.sourced (b : Blocks) (id : Nat) : Prop :=
  ∀ k, b.source.kind? id = some k →
    (∀ d ∈ k.sources, (look b.source.dispensers d).installed = true) ∧ ∀ i, k.pin = some i → i < k.sources.length

/-- Table 2-2, check 5, of one kind. -/
def Blocks.banded (b : Blocks) (id : Nat) : Prop :=
  ∀ k, b.source.kind? id = some k → k.bandStart + k.bandCount ≤ 128 ∧ b.verifier.bandsPass k

/-- Table 2-2, check 6, of one image. -/
def Blocks.shown (b : Blocks) (mask i : Nat) : Prop :=
  mask.testBit i = true → (look b.positioner.images i).installed = true

theorem offsetBad_eq_false (d : Nat) : offsetBad b.chain (look b.source.dispensers d) = false ↔ b.placed d := by
  simp [offsetBad, Blocks.placed]

theorem loadedAnd_eq_false {test : Kind → Bool} (id : Nat) :
    loadedAnd test (look b.source.kinds id) = false ↔ ∀ k, b.source.kind? id = some k → test k = false := by
  unfold loadedAnd Source.kind?
  cases (look b.source.kinds id).entry <;> simp

theorem sourcesBad_eq_false (k : Kind) :
    sourcesBad b.source k = false ↔
      (∀ d ∈ k.sources, (look b.source.dispensers d).installed = true) ∧ ∀ i, k.pin = some i → i < k.sources.length := by
  unfold sourcesBad
  cases k.pin <;> simp

/-- R38: the band check finds no fault exactly when the set passes. -/
theorem Verifier.bandFault_eq_none (v : Verifier) (k : Kind) : v.bandFault k = none ↔ v.bandsPass k := by
  unfold Verifier.bandFault Verifier.bandsPass
  dsimp only
  rw [Option.map_eq_none_iff, List.find?_eq_none]
  refine forall_congr' fun n => ?_
  rw [List.mem_range]
  refine imp_congr_right fun _ => ?_
  cases n with
  | zero => cases look v.bands (k.bandStart + 0) <;> simp
  | succ n =>
    rw [show k.bandStart + (n + 1) - 1 = k.bandStart + (n + 1 - 1) by omega]
    cases look v.bands (k.bandStart + (n + 1)) <;> simp

theorem bandsBad_eq_false (k : Kind) :
    bandsBad b.verifier k = false ↔ k.bandStart + k.bandCount ≤ 128 ∧ b.verifier.bandsPass k := by
  simp [bandsBad, Verifier.bandFault_eq_none]

theorem sourced_iff (id : Nat) : loadedAnd (sourcesBad b.source) (look b.source.kinds id) = false ↔ b.sourced id := by
  simp only [loadedAnd_eq_false, sourcesBad_eq_false, Blocks.sourced]

theorem banded_iff (id : Nat) : loadedAnd (bandsBad b.verifier) (look b.source.kinds id) = false ↔ b.banded id := by
  simp only [loadedAnd_eq_false, bandsBad_eq_false, Blocks.banded]

theorem shown_iff (mask : Nat) {i : Nat} (hi : i < 16) :
    ((BitVec.ofNat 16 mask).getLsbD i && !(look b.positioner.images i).installed) = false ↔ b.shown mask i := by
  rw [BitVec.getLsbD_ofNat]
  simp [Blocks.shown, hi]

/-- Table 2-2, checks 1 to 3: the cam table, the geometry and the dispensers' places. -/
structure Blocks.ReelsPass (b : Blocks) : Prop where
  cams : b.shaft.camPasses
  geometry : b.chain.loaded = true
  placed : ∀ d, d < 96 → b.placed d

/-- Table 2-2, checks 1 to 5: those and the kinds' sources and bands. -/
structure Blocks.KindsPass (b : Blocks) : Prop where
  reels : b.ReelsPass
  sourced : ∀ id, id < 256 → b.sourced id
  banded : ∀ id, id < 256 → b.banded id

theorem crossFault_cam {e : Nat} (mask : BitVec 16) (h : b.shaft.camFails e) : crossFault b mask = some (0, e) := by
  simp [crossFault, Shaft.camFault_of_fails h]

theorem crossFault_geometry (mask : BitVec 16) (cams : b.shaft.camPasses) (h : b.chain.loaded = false) :
    crossFault b mask = some (1, 0) := by
  simp [crossFault, Shaft.camFault_of_passes cams, h]

theorem crossFault_place {d : Nat} (mask : BitVec 16) (cams : b.shaft.camPasses) (geometry : b.chain.loaded = true)
    (hd : d < 96) (fails : ¬ b.placed d) (before : ∀ e, e < d → b.placed e) : crossFault b mask = some (3, d) := by
  have first := firstIndex_eq_some (fun d _ => offsetBad_eq_false d) hd fails before
  simp [crossFault, Shaft.camFault_of_passes cams, geometry, first]

theorem Blocks.ReelsPass.crossFault_source {id : Nat} (h : b.ReelsPass) (mask : BitVec 16) (hi : id < 256)
    (fails : ¬ b.sourced id) (before : ∀ k, k < id → b.sourced k) : crossFault b mask = some (2, id) := by
  have places := firstIndex_eq_none (fun d _ => offsetBad_eq_false d) h.placed
  have first := firstIndex_eq_some (fun id _ => sourced_iff id) hi fails before
  simp [crossFault, Shaft.camFault_of_passes h.cams, h.geometry, places, first]

theorem Blocks.ReelsPass.crossFault_band {id : Nat} (h : b.ReelsPass) (mask : BitVec 16)
    (sources : ∀ k, k < 256 → b.sourced k) (hi : id < 256) (fails : ¬ b.banded id) (before : ∀ k, k < id → b.banded k) :
    crossFault b mask = some (2, id) := by
  have places := firstIndex_eq_none (fun d _ => offsetBad_eq_false d) h.placed
  have sources := firstIndex_eq_none (fun id _ => sourced_iff id) sources
  have first := firstIndex_eq_some (fun id _ => banded_iff id) hi fails before
  simp [crossFault, Shaft.camFault_of_passes h.cams, h.geometry, places, sources, first]

/-- Table 2-2: with the kinds' checks passed, the images and the table configuration are left to check. -/
theorem Blocks.KindsPass.crossFault_eq (h : b.KindsPass) (mask : BitVec 16) :
    crossFault b mask = (firstIndex 16 fun i => mask.getLsbD i && !(look b.positioner.images i).installed).elim
      (if b.positioner.config.loaded then none else some (6, 0)) fun i => some (5, i) := by
  have places := firstIndex_eq_none (fun d _ => offsetBad_eq_false d) h.reels.placed
  have sources := firstIndex_eq_none (fun id _ => sourced_iff id) h.sourced
  have bands := firstIndex_eq_none (fun id _ => banded_iff id) h.banded
  cases hm : firstIndex 16 fun i => mask.getLsbD i && !(look b.positioner.images i).installed with
  | some i =>
    simp [crossFault, Shaft.camFault_of_passes h.reels.cams, h.reels.geometry, places, sources, bands, hm]
  | none =>
    cases hc : b.positioner.config.loaded <;>
      simp [crossFault, Shaft.camFault_of_passes h.reels.cams, h.reels.geometry, places, sources, bands, hm, hc]

theorem Blocks.KindsPass.crossFault_image {mask i : Nat} (h : b.KindsPass) (hi : i < 16) (fails : ¬ b.shown mask i)
    (before : ∀ j, j < i → b.shown mask j) : crossFault b (BitVec.ofNat 16 mask) = some (5, i) := by
  rw [h.crossFault_eq, firstIndex_eq_some (fun i hi => shown_iff mask hi) hi fails before, Option.elim_some]

theorem Blocks.KindsPass.crossFault_config {mask : Nat} (h : b.KindsPass) (images : ∀ i, i < 16 → b.shown mask i) :
    crossFault b (BitVec.ofNat 16 mask) = if b.positioner.config.loaded then none else some (6, 0) := by
  rw [h.crossFault_eq, firstIndex_eq_none (fun i hi => shown_iff mask hi) images, Option.elim_none]

/-! ## BOARD START at the board manager (R20) -/

/-- Table 11-9: the payload of a BOARD START. -/
def startPayload (id mask count : Nat) (dx dy : Int) (counted : Bool) : List Byte :=
  be32 id ++ be16 mask ++ be16 (dx % 65536).toNat ++ be16 (dy % 65536).toNat ++ [if counted then 1#8 else 0#8]
    ++ be24 count

/-- The fields read back from the payload of a BOARD START. -/
structure StartFields (p : List Byte) (id mask count : Nat) (dx dy : Int) (counted : Bool) : Prop where
  id : u32At p 0 = id
  mask : u16At p 4 = mask
  dx : s16At p 6 = dx
  dy : s16At p 8 = dy
  counted : bitAt p 10 0 = counted
  count : u24At p 11 = count

theorem startPayload_fields {id mask count : Nat} {dx dy : Int} {counted : Bool} (hi : id < 4294967296)
    (hm : mask < 65536) (hc : count < 16777216) (x0 : -32768 ≤ dx) (x1 : dx < 32768) (y0 : -32768 ≤ dy)
    (y1 : dy < 32768) : StartFields (startPayload id mask count dx dy counted) id mask count dx dy counted := by
  simp only [startPayload, be32, be24, be16, List.cons_append, List.nil_append]
  refine ⟨u32At_of_be32 rfl rfl rfl rfl hi, u16At_of_be16 rfl rfl hm, s16At_of_be16 rfl rfl x0 x1,
    s16At_of_be16 rfl rfl y0 y1, (bitAt_of_byte rfl 0).trans ?_, u24At_of_be24 rfl rfl rfl hc⟩
  cases counted <;> decide

/-- R20: a correction outside its values. -/
def correctionOutside (v : Int) : Prop := v < -2000 ∨ 2000 < v

theorem correctionBad_of_outside {v : Int} (h : correctionOutside v) : correctionBad v = true := by
  simpa [correctionBad, correctionOutside] using h

theorem correctionBad_of_not_outside {v : Int} (h : ¬ correctionOutside v) : correctionBad v = false := by
  simpa [correctionBad, correctionOutside, not_or] using h

section

variable {id mask count : Nat} {dx dy : Int} {counted : Bool}

theorem takeBoardStart_of_standing (h : b.board.phase ≠ .none) :
    takeBoardStart p b = .refuse .boardOpen (.number b.board.id) b := by
  simp [takeBoardStart, Board.standing, h]

theorem StartFields.take_of_dx (f : StartFields p id mask count dx dy counted) (h : b.board.phase = .none)
    (x : correctionOutside dx) : takeBoardStart p b = .refuse .range (.field 6) b := by
  simp [takeBoardStart, Board.not_standing h, f.dx, correctionBad_of_outside x]

theorem StartFields.take_of_dy (f : StartFields p id mask count dx dy counted) (h : b.board.phase = .none)
    (x : ¬ correctionOutside dx) (y : correctionOutside dy) : takeBoardStart p b = .refuse .range (.field 8) b := by
  simp [takeBoardStart, Board.not_standing h, f.dx, f.dy, correctionBad_of_not_outside x, correctionBad_of_outside y]

theorem StartFields.take_of_count (f : StartFields p id mask count dx dy counted) (h : b.board.phase = .none)
    (x : ¬ correctionOutside dx) (y : ¬ correctionOutside dy) (above : counted = true ∧ 65536 < count) :
    takeBoardStart p b = .refuse .range (.field 11) b := by
  simp [takeBoardStart, Board.not_standing h, f.dx, f.dy, f.counted, f.count, correctionBad_of_not_outside x,
    correctionBad_of_not_outside y, above, Config.maxSteps]

/-- R20, R21: with its fields within their values, the record is answered by the cross-table checks. -/
theorem StartFields.take_of_fits (f : StartFields p id mask count dx dy counted) (h : b.board.phase = .none)
    (x : ¬ correctionOutside dx) (y : ¬ correctionOutside dy) (above : ¬ (counted = true ∧ 65536 < count)) :
    takeBoardStart p b = (crossFault b (BitVec.ofNat 16 mask)).elim (.accept (b.onBoard fun d => d.start p))
      fun fault => .refuse .config (.entry fault.1 fault.2) b := by
  rw [takeBoardStart, Board.not_standing h, f.dx, f.dy, f.counted, f.count, f.mask, correctionBad_of_not_outside x,
    correctionBad_of_not_outside y, if_neg Bool.false_ne_true, if_neg Bool.false_ne_true, if_neg Bool.false_ne_true,
    if_neg above]
  cases crossFault b (BitVec.ofNat 16 mask) <;> rfl

/-- R20: the board that the record opens. -/
theorem StartFields.start_eq (f : StartFields p id mask count dx dy counted) (d : Board) :
    d.start p = { d with
      phase := .opened, id := id, goodMask := BitVec.ofNat 16 mask, dx := dx, dy := dy
      expectedCount := if counted then some count else none, expectedStep := 0, lastTier := 0
      endStatus := .complete, tallies := ⟨0, 0, 0, 0, 0, 0, 0⟩ } := by
  rw [Board.start, f.id, f.mask, f.dx, f.dy, f.counted, f.count]

end

/-! ## BOARD END at the board manager (R33) -/

theorem endPayload_count {n : Nat} (h : n < 16777216) : u24At (be24 n) 0 = n := u24At_of_be24 rfl rfl rfl h

theorem takeBoardEnd_of_none (h : b.board.phase = .none) : takeBoardEnd p b = .refuse .noBoard .none b := by
  simp only [takeBoardEnd, h]

theorem takeBoardEnd_of_closing (h : b.board.phase = .closing) : takeBoardEnd p b = .refuse .state .none b := by
  simp only [takeBoardEnd, h]

theorem takeBoardEnd_of_step (h : b.board.phase = .opened) (hn : u24At p 0 ≠ b.board.expectedStep) :
    takeBoardEnd p b = .refuse .countMismatch (.number b.board.expectedStep) b := by
  simp only [takeBoardEnd, h, if_pos hn]

theorem takeBoardEnd_of_count {m : Nat} (h : b.board.phase = .opened) (hn : u24At p 0 = b.board.expectedStep)
    (hc : b.board.expectedCount = some m) (hm : m ≠ u24At p 0) :
    takeBoardEnd p b = .refuse .countMismatch (.number m) b := by
  simp only [takeBoardEnd, h, if_neg (not_not.mpr hn), hc, Option.filter_some, decide_eq_true hm, if_true]

theorem takeBoardEnd_of_match (h : b.board.phase = .opened) (hn : u24At p 0 = b.board.expectedStep)
    (hc : ∀ m, b.board.expectedCount = some m → m = u24At p 0) :
    takeBoardEnd p b = .accept { b with board := { b.board with phase := .closing } } := by
  have none : b.board.expectedCount.filter (fun m => decide (m ≠ u24At p 0)) = none := by
    rw [Option.filter_eq_none_iff]
    intro m hm
    simp [hc m hm]
  simp only [takeBoardEnd, h, if_neg (not_not.mpr hn), none]
  rfl

/-! ## The two records at the dispatcher (R180, R181) -/

section

variable {s : State} {rest : List Record} {c : Blocks} {reason : RefusalReason} {detail : Detail}

theorem exec_boardStart_accept (h : s.offers ⟨0x01#8, p⟩ rest) (len : p.length = 14)
    (hf : takeBoardStart p s.blocks = .accept c) : exec .boardStart s = .next (s.taken rest c) :=
  (congrArg (fun n => answerRow .boardStart n takeBoardStart s) len.symm).trans (answerRow_accept h rfl rfl hf)

theorem exec_boardStart_refuse (h : s.offers ⟨0x01#8, p⟩ rest) (len : p.length = 14)
    (hf : takeBoardStart p s.blocks = .refuse reason detail s.blocks) :
    exec .boardStart s = .next (s.answered rest (refusal 0x01#8 reason detail)) :=
  (congrArg (fun n => answerRow .boardStart n takeBoardStart s) len.symm).trans (answerRow_refuse h rfl rfl hf)

theorem exec_boardEnd_accept (h : s.offers ⟨0x03#8, p⟩ rest) (len : p.length = 3)
    (hf : takeBoardEnd p s.blocks = .accept c) : exec .boardEnd s = .next (s.taken rest c) :=
  (congrArg (fun n => answerRow .boardEnd n takeBoardEnd s) len.symm).trans (answerRow_accept h rfl rfl hf)

theorem exec_boardEnd_refuse (h : s.offers ⟨0x03#8, p⟩ rest) (len : p.length = 3)
    (hf : takeBoardEnd p s.blocks = .refuse reason detail s.blocks) :
    exec .boardEnd s = .next (s.answered rest (refusal 0x03#8 reason detail)) :=
  (congrArg (fun n => answerRow .boardEnd n takeBoardEnd s) len.symm).trans (answerRow_refuse h rfl rfl hf)

end

/-- Settles O42: the checks of Table 2-2 are the model's cross-table checks, one by one in their order. -/
theorem boardsOpenAndClose : Obligations.BoardsOpenAndClose := by
  unfold Obligations.BoardsOpenAndClose
  refine ⟨?_, ?_⟩
  · intro id mask count dx dy counted rest s hi hm hc x0 x1 y0 y1 h
    have f := startPayload_fields (counted := counted) hi hm hc x0 x1 y0 y1
    change s.offers ⟨0x01#8, startPayload id mask count dx dy counted⟩ rest at h
    refine ⟨fun hb => exec_boardStart_refuse h rfl (takeBoardStart_of_standing hb), fun hb => ?_⟩
    intro outside above range
    refine ⟨fun x => exec_boardStart_refuse h rfl (f.take_of_dx hb x),
      fun x y => exec_boardStart_refuse h rfl (f.take_of_dy hb x y),
      fun x y a => exec_boardStart_refuse h rfl (f.take_of_count hb x y a), fun x y a => ?_⟩
    intro chain reel image placed sourced banded shown cams reels kinds images refused
    have fits := f.take_of_fits hb x y a
    have passes : kinds → s.blocks.KindsPass := fun ⟨⟨cams, geometry, placed⟩, sourced, banded⟩ =>
      ⟨⟨cams, geometry, placed⟩, sourced, banded⟩
    have faulty : ∀ table index, crossFault s.blocks (BitVec.ofNat 16 mask) = some (table, index) → refused table index :=
      fun table index e => exec_boardStart_refuse h rfl (by rw [fits, e, Option.elim_some])
    refine ⟨fun ⟨hk, hs⟩ config => ?_, fun e he => faulty 0 e (crossFault_cam _ he),
      fun cams hl => faulty 1 0 (crossFault_geometry _ cams hl),
      fun d hd cams hl fails before => faulty 3 d (crossFault_place _ cams hl hd fails before),
      fun id hi ⟨cams, hl, placed⟩ fails before =>
        faulty 2 id (Blocks.ReelsPass.crossFault_source ⟨cams, hl, placed⟩ _ hi fails before),
      fun id hi ⟨cams, hl, placed⟩ sourced fails before =>
        faulty 2 id (Blocks.ReelsPass.crossFault_band ⟨cams, hl, placed⟩ _ sourced hi fails before),
      fun i hi hk fails before => faulty 5 i ((passes hk).crossFault_image hi fails before),
      fun ⟨hk, hs⟩ config => faulty 6 0 ?_⟩
    · have clear := (passes hk).crossFault_config hs
      rw [config] at clear
      refine exec_boardStart_accept h rfl (fits.trans ?_)
      rw [clear]
      exact congrArg (fun d => Answer.accept { s.blocks with board := d }) (f.start_eq _)
    · have clear := (passes hk).crossFault_config hs
      rw [config] at clear
      exact clear
  · intro n rest s hn h d
    have count := endPayload_count hn
    refine ⟨fun hp => exec_boardEnd_refuse h rfl (takeBoardEnd_of_none hp),
      fun hp => exec_boardEnd_refuse h rfl (takeBoardEnd_of_closing hp), fun hp ne => ?_, fun m hp e hc ne => ?_,
      fun hp e hc => ?_⟩
    · exact exec_boardEnd_refuse h rfl (takeBoardEnd_of_step hp (by rwa [count]))
    · exact exec_boardEnd_refuse h rfl (takeBoardEnd_of_count hp (by rwa [count]) hc (by rwa [count]))
    · exact exec_boardEnd_accept h rfl (takeBoardEnd_of_match hp (by rwa [count]) (by rwa [count]))

end Sys2Proof.Machine

end

section
/-! # The outline of the step window -/

/-! Which steps stand in the window, and the board's own fields: what no operation changes but a BOARD START, a STEP, a BOARD
END, a BAD IMAGE, an ABORT BOARD, a placement and a reset (R20, R24, R29, R33, R34, R36, R163, R165). -/

namespace Sys2Proof.Machine

set_option Elab.async false

/-- The numbers of the contexts in the window, and what the board's own records set: every field but the contexts, the
report order and the tallies. -/
def Board.outline (d : Board) : List Nat × Board :=
  (d.window.map StepContext.number, { d with window := [], reportOrder := [], tallies := default })

theorem Board.numbers_of_outline {d e : Board} (h : e.outline = d.outline) :
    e.window.map StepContext.number = d.window.map StepContext.number := congrArg Prod.fst h

theorem Board.phase_of_outline {d e : Board} (h : e.outline = d.outline) : e.phase = d.phase :=
  congrArg (fun o : List Nat × Board => o.2.phase) h

theorem Board.expectedStep_of_outline {d e : Board} (h : e.outline = d.outline) : e.expectedStep = d.expectedStep :=
  congrArg (fun o : List Nat × Board => o.2.expectedStep) h

theorem Board.lastTier_of_outline {d e : Board} (h : e.outline = d.outline) : e.lastTier = d.lastTier :=
  congrArg (fun o : List Nat × Board => o.2.lastTier) h

theorem Board.goodMask_of_outline {d e : Board} (h : e.outline = d.outline) : e.goodMask = d.goodMask :=
  congrArg (fun o : List Nat × Board => o.2.goodMask) h

/-- The soundness of the window is a matter of its outline. -/
theorem Board.sound_of_outline {d e : Board} (h : e.outline = d.outline) (hs : d.sound) : e.sound := by
  have hw := Board.numbers_of_outline h
  obtain ⟨hsorted, hbelow, hlength, hnone⟩ := hs
  have hlen : e.window.length = d.window.length := by simpa using congrArg List.length hw
  refine ⟨hw ▸ hsorted, fun c hc => ?_, by omega, fun hp => ?_⟩
  · have hc' : c.number ∈ d.window.map StepContext.number := hw ▸ List.mem_map_of_mem hc
    obtain ⟨c', hc', e'⟩ := List.mem_map.mp hc'
    rw [Board.expectedStep_of_outline h, ← e']
    exact hbelow c' hc'
  · exact List.length_eq_zero_iff.mp (by simp [hlen, hnone (Board.phase_of_outline h ▸ hp)])

variable (b : Blocks)

/-! ## Contexts, reports and reservations -/

/-- A change of a step's context that keeps its number. -/
theorem onStep_outline (n : Nat) {f : StepContext → StepContext} (hf : ∀ c, (f c).number = c.number) :
    (b.onStep n f).board.outline = b.board.outline := by
  have h : StepContext.number ∘ (fun c => if c.number = n then f c else c) = StepContext.number := by
    funext c
    by_cases hc : c.number = n <;> simp [hc, hf]
  simp [Blocks.onStep, Board.outline, h]

@[simp] theorem StepContext.requeue_number (c : StepContext) : c.requeue.number = c.number := rfl

@[simp] theorem resolve_outline (n : Nat) (o : StepOutcome) : (resolve n o b).board.outline = b.board.outline := by
  unfold resolve
  split
  · rfl
  · split
    · rfl
    · exact onStep_outline b n fun _ => rfl

@[simp] theorem orderReports_outline (a : Blocks) : (orderReports a b).board.outline = b.board.outline := rfl

@[simp] theorem resolveBadImage_outline (n : Nat) : (resolveBadImage n b).board.outline = b.board.outline := by
  simp [resolveBadImage, onStep_outline]

@[simp] theorem undoReservation_outline (n : Nat) : (undoReservation n b).1.board.outline = b.board.outline := by
  unfold undoReservation
  (repeat' split) <;> simp [onStep_outline]

@[simp] theorem cancelStep_outline (n : Nat) : (cancelStep b n).board.outline = b.board.outline :=
  undoReservation_outline b n

@[simp] theorem cancelFrom_outline (k : Nat) : (cancelFrom k b).board.outline = b.board.outline :=
  foldl_leaves (fun b => b.board.outline) cancelStep (fun b n => cancelStep_outline b n) _ b

@[simp] theorem settleDispenser_outline (before : Source) (d : Nat) :
    (settleDispenser before d b).1.board.outline = b.board.outline := by
  simp only [settleDispenser]
  split <;> simp

@[simp] theorem returnStep_outline (n : Nat) (w : Return) : (returnStep n w b).1.board.outline = b.board.outline := by
  unfold returnStep
  (repeat' split) <;> simp [onStep_outline b n StepContext.requeue_number, onStep_outline]

@[simp] theorem depart_outline (g : Bool) (p : Nat) : (depart g p b).1.board.outline = b.board.outline := by
  unfold depart
  (repeat' split) <;> simp

/-! ## What the stop demand asks (R8, R16, R17, R72, R144, R152) -/

@[simp] theorem interruptInsertion_outline : (interruptInsertion b).board.outline = b.board.outline := by
  unfold interruptInsertion
  split
  · rfl
  · exact onStep_outline b _ fun c => by split <;> rfl

@[simp] theorem cutOffStrip_outline : (cutOffStrip b).board.outline = b.board.outline := by
  unfold cutOffStrip
  (repeat' split) <;> simp

@[simp] theorem cutOffGate_outline : (cutOffGate b).board.outline = b.board.outline := by
  unfold cutOffGate
  split <;> simp

@[simp] theorem cutShort_outline : (cutShort b).board.outline = b.board.outline := by
  unfold cutShort
  split <;> simp [endMeasurement, dropFireFrame]

@[simp] theorem brake_outline : (brake b).board.outline = b.board.outline := by simp [brake]

@[simp] theorem holdOnset_outline : (holdOnset b).board.outline = b.board.outline := by simp [holdOnset]

@[simp] theorem enterHalted_outline : (enterHalted b).board.outline = b.board.outline := by simp [enterHalted]

@[simp] theorem stopNow_outline : (stopNow b).board.outline = b.board.outline := by
  unfold stopNow
  split <;> simp

@[simp] theorem stopAtPark_outline : (stopAtPark b).board.outline = b.board.outline := by
  unfold stopAtPark
  (repeat' split) <;> simp

@[simp] theorem reactRise_outline (before : Alarm) : (reactRise before b).board.outline = b.board.outline := by
  simp only [reactRise]
  (repeat' split) <;> simp

@[simp] theorem occur_outline (code : Nat) (c : AlarmContext) : (occur code c b).board.outline = b.board.outline := by
  simp [occur]

/-! ## Planning (4.2) -/

@[simp] theorem startTurning_board (m : MachineState) : (startTurning m b).board = b.board := rfl

@[simp] theorem enterStopped_board : (enterStopped b).board = b.board := rfl

@[simp] theorem settleWaiting_board : (settleWaiting b).board = b.board := by
  unfold settleWaiting
  (repeat' split) <;> simp

@[simp] theorem reserve_outline (n kind index d j : Nat) :
    (reserve n kind index d j b).board.outline = b.board.outline := by
  simp only [reserve]
  split <;> simp [onStep_outline]

@[simp] theorem setStopCause_board (cause : StopCause) : (setStopCause cause b).board = b.board := rfl

@[simp] theorem stopNoSource_outline (n kind : Nat) : (stopNoSource n kind b).board.outline = b.board.outline := by
  simp only [stopNoSource]
  split <;> simp

@[simp] theorem planPass_outline (l : List Nat) : (planPass l b).board.outline = b.board.outline := by
  induction l generalizing b with
  | nil => rfl
  | cons n rest ih =>
    unfold planPass
    (repeat' split) <;> simp [ih]

@[simp] theorem planningEvent_outline : (planningEvent b).board.outline = b.board.outline := by
  unfold planningEvent
  split <;> simp

@[simp] theorem planIf_outline (due : Bool) : (planIf due b).board.outline = b.board.outline := by
  unfold planIf
  split <;> simp

@[simp] theorem conclude_outline (r : Blocks × Bool) : (conclude b r).board.outline = r.1.board.outline := by
  simp [conclude]

@[simp] theorem concludeDemand_outline (before : Alarm) : (concludeDemand before b).board.outline = b.board.outline := by
  simp [concludeDemand]

/-! ## Purges and parks -/

@[simp] theorem markAllPurge_outline : (markAllPurge b).board.outline = b.board.outline := by
  simp [markAllPurge, Board.outline, followMark_number]

@[simp] theorem purgeStart_outline : (purgeStart b).board.outline = b.board.outline := by
  simp only [purgeStart]
  split <;> simp

@[simp] theorem enterWaiting_outline : (enterWaiting b).board.outline = b.board.outline := by simp [enterWaiting]

@[simp] theorem purgeFromHalt_outline : (purgeFromHalt b).board.outline = b.board.outline := by
  simp only [purgeFromHalt]
  split <;> simp

@[simp] theorem afterPark_outline : (afterPark b).board.outline = b.board.outline := by
  simp only [afterPark]
  (repeat' split) <;> simp

@[simp] theorem parkEvent_outline : (parkEvent b).board.outline = b.board.outline := by simp [parkEvent]

@[simp] theorem startRunToPark_outline (m : MachineState) : (startRunToPark m b).board.outline = b.board.outline := by
  simp only [startRunToPark]
  split <;> simp

/-! ## The windows of a revolution (Table 1-4) -/

@[simp] theorem leaveVerify_outline : (leaveVerify b).board.outline = b.board.outline := by
  simp only [leaveVerify]
  (repeat' split) <;> simp [onStep_outline]

@[simp] theorem leaveGate_outline : (leaveGate b).board.outline = b.board.outline := by
  simp only [leaveGate]
  (repeat' split) <;> simp [onStep_outline, apply_ite StepContext.number]

@[simp] theorem indexOpen_outline : (indexOpen b).board.outline = b.board.outline := by
  simp only [indexOpen]
  split <;> simp

@[simp] theorem countCompletion_board : (countCompletion b).board = b.board := by simp [countCompletion]

@[simp] theorem judgeIndex_board : (judgeIndex b).board = b.board := by
  unfold judgeIndex
  split <;> simp

@[simp] theorem judgeRunout_outline : (judgeRunout b).1.board.outline = b.board.outline := by
  unfold judgeRunout
  split <;> simp

@[simp] theorem indexClose_outline : (indexClose b).board.outline = b.board.outline := by simp [indexClose]

@[simp] theorem fireSlot_outline (f : Nat × Fire) : (fireSlot b f).board.outline = b.board.outline := by
  simp [fireSlot, onStep_outline]

@[simp] theorem sendFireFrame_board (l : List Fire) : (sendFireFrame l b).board = b.board := rfl

@[simp] theorem settleDispensers_outline (before : Source) (ds : List Nat) :
    (settleDispensers before ds b).board.outline = b.board.outline :=
  foldl_leaves (fun b => b.board.outline) _ (fun b d => by simp) ds b

theorem foldl_fireSlot_outline (l : List (Nat × Fire)) : (l.foldl fireSlot b).board.outline = b.board.outline :=
  foldl_leaves (fun b => b.board.outline) fireSlot (fun b f => fireSlot_outline b f) l b

theorem foldl_fireReel_board (l : List Nat) : (l.foldl fireReel b).board = b.board :=
  foldl_leaves (fun b => b.board) fireReel (fun b d => fireReel_board b d) l b

@[simp] theorem fireOpen_outline : (fireOpen b).board.outline = b.board.outline := by
  simp [fireOpen, foldl_fireReel_board, foldl_fireSlot_outline]

@[simp] theorem jam_board (d : Nat) : (jam d b).board = b.board := rfl

@[simp] theorem silence_board (f : FireFrame) (bank : Nat) : (silence f b bank).board = b.board := by
  unfold silence
  split <;> simp

theorem foldl_silence_board (f : FireFrame) (l : List Nat) : (l.foldl (silence f) b).board = b.board :=
  foldl_leaves (fun b => b.board) (silence f) (fun b bank => silence_board b f bank) l b

@[simp] theorem fireClose_outline : (fireClose b).board.outline = b.board.outline := by
  unfold fireClose
  split <;> simp [foldl_silence_board, dropFireFrame]

@[simp] theorem judgeDispenser_outline (d : Nat) (r : VerifyResult) (step kind : Option Nat) :
    (judgeDispenser d r step kind b).1.board.outline = b.board.outline := by
  simp only [judgeDispenser]
  (repeat' split) <;> simp

@[simp] theorem extendFaultRun_board (r : VerifyResult) (source : Option Nat) :
    (extendFaultRun r source b).board = b.board := by
  simp only [extendFaultRun]
  (repeat' split) <;> simp

@[simp] theorem giveResult_outline (pitch : Nat) (v : VerifyRecord) :
    (giveResult pitch v b).board.outline = b.board.outline := by
  unfold giveResult
  (repeat' split) <;> simp [onStep_outline, StepContext.measured]

@[simp] theorem findStray_board (pitch : Nat) : (findStray pitch b).board = b.board := by simp [findStray]

@[simp] theorem verifyOpen_outline (station : Station) : (verifyOpen station b).board.outline = b.board.outline := by
  simp only [verifyOpen]
  (repeat' split) <;> simp [startMeasurement]

@[simp] theorem endPhase_outline (m : Measurement) (r : Reading) (count : Nat) :
    (endPhase m r count b).board.outline = b.board.outline := by
  unfold endPhase
  split <;> simp [endMeasurement]

@[simp] theorem verifyClose_outline (ticks : Nat) : (verifyClose ticks b).board.outline = b.board.outline := by
  unfold verifyClose
  (repeat' split) <;> simp [endMeasurement]

@[simp] theorem gateOpen_board : (gateOpen b).board = b.board := by
  simp only [gateOpen]
  (repeat' split) <;> simp

@[simp] theorem failGate_outline (pitch : Nat) : (failGate pitch b).board.outline = b.board.outline := by
  unfold failGate
  (repeat' split) <;> simp [onStep_outline, apply_ite StepContext.number]

@[simp] theorem gateClose_outline : (gateClose b).board.outline = b.board.outline := by
  unfold gateClose
  split <;> simp

@[simp] theorem reportGrant_board (granted : Bool) : (reportGrant granted b).board = b.board := rfl

@[simp] theorem judgeDwell_outline (n : Nat) : (judgeDwell n b).board.outline = b.board.outline := by
  unfold judgeDwell
  (repeat' split) <;> simp [onStep_outline]

@[simp] theorem waitAtHead_outline (n : Nat) : (waitAtHead n b).board.outline = b.board.outline := by
  simp [waitAtHead, onStep_outline]

@[simp] theorem tierStrip_outline (pitch : Nat) (o : Component) (n : Nat) :
    (tierStrip pitch o n b).board.outline = b.board.outline := by
  simp [tierStrip, onStep_outline]

@[simp] theorem grantInsert_outline (station : Station) (pitch : Nat) (c : StepContext) :
    (grantInsert station pitch c b).board.outline = b.board.outline := by
  simp [grantInsert, onStep_outline]

@[simp] theorem judgeOffer_outline (station : Station) : (judgeOffer station b).board.outline = b.board.outline := by
  simp only [judgeOffer]
  (repeat' split) <;> simp

@[simp] theorem transferOpen_outline (station : Station) : (transferOpen station b).board.outline = b.board.outline := by
  simp [transferOpen]

@[simp] theorem judgeLine_outline (seen : InsertionRecord → Bool) (code : Nat) :
    (judgeLine seen code b).board.outline = b.board.outline := by
  unfold judgeLine
  (repeat' split) <;> simp

@[simp] theorem senseClose_outline : (senseClose b).board.outline = b.board.outline := by
  unfold senseClose
  (repeat' split) <;> simp

@[simp] theorem seeUp_board : (seeUp b).board = b.board := by
  unfold seeUp
  (repeat' split) <;> simp

@[simp] theorem retractClose_outline : (retractClose b).board.outline = b.board.outline := by
  simp only [retractClose]
  (repeat' split) <;> simp

@[simp] theorem windowEvent_outline (station : Station) (w : Window) (opens : Bool) :
    (windowEvent station w opens b).board.outline = b.board.outline := by
  cases w <;> cases opens <;> simp only [windowEvent] <;> (repeat' split) <;> simp [decisionOpen, decisionClose]

@[simp] theorem windowEvents_outline (station : Station) (angle : Nat) :
    (windowEvents station angle b).board.outline = b.board.outline := by
  refine foldl_leaves (fun b => b.board.outline) _ (fun b w => ?_) _ b
  (repeat' split) <;> simp [takeWindow]

end Sys2Proof.Machine
end

section
/-! # Every step keeps the step window sound -/

namespace Sys2Proof.Machine

set_option Elab.async false

variable (b : Blocks)

/-! ## Encoder samples and the lines -/

@[simp] theorem registrationFault_outline : (registrationFault b).board.outline = b.board.outline := by
  simp [registrationFault]

@[simp] theorem reportRevolution_board : (reportRevolution b).board = b.board := by
  unfold reportRevolution
  split <;> simp [bumpDwell]

@[simp] theorem startRevolution_outline (station : Station) :
    (startRevolution station b).board.outline = b.board.outline := by
  simp [startRevolution, beginLive]

@[simp] theorem requestAfterRegistering_board : (requestAfterRegistering b).board = b.board := by
  unfold requestAfterRegistering
  split <;> simp

@[simp] theorem forwardCrossing_outline (station : Station) :
    (forwardCrossing station b).board.outline = b.board.outline := by
  simp only [forwardCrossing, crossDriven]
  (repeat' split) <;> simp

@[simp] theorem takePark_outline : (takePark b).board.outline = b.board.outline := by
  unfold takePark
  split <;> simp

@[simp] theorem sampleWindows_outline (station : Station) : (sampleWindows station b).board.outline = b.board.outline := by
  unfold sampleWindows
  split <;> simp

@[simp] theorem forwardCount_outline (station : Station) : (forwardCount station b).board.outline = b.board.outline := by
  simp only [forwardCount]
  (repeat' split) <;> simp

@[simp] theorem reverseSample_outline (mark : Bool) : (reverseSample mark b).board.outline = b.board.outline := by
  simp only [reverseSample]
  (repeat' split) <;> simp

@[simp] theorem encoderSample_outline (forward mark : Bool) (station : Station) :
    (encoderSample forward mark station b).board.outline = b.board.outline := by
  unfold encoderSample
  (repeat' split) <;> simp

@[simp] theorem measureTrip_outline (ticks : Nat) : (measureTrip ticks b).board.outline = b.board.outline := by
  unfold measureTrip
  split <;> simp

@[simp] theorem phaseLimit_outline : (phaseLimit b).board.outline = b.board.outline := by
  simp only [phaseLimit]
  (repeat' split) <;> simp

@[simp] theorem gateLeaves_board : (gateLeaves b).board = b.board := by
  unfold gateLeaves
  split <;> simp

@[simp] theorem gateReturns_outline : (gateReturns b).board.outline = b.board.outline := by
  unfold gateReturns
  (repeat' split) <;> simp

@[simp] theorem chainPulse_outline : (chainPulse b).board.outline = b.board.outline := by
  unfold chainPulse
  split <;> simp

@[simp] theorem stripPulse_outline : (stripPulse b).board.outline = b.board.outline := by
  unfold stripPulse
  split <;> simp

@[simp] theorem seeInWindow_board (w : Window) (f : InsertionRecord → InsertionRecord) :
    (seeInWindow w f b).board = b.board := by
  unfold seeInWindow
  split <;> simp

@[simp] theorem clearAwaited_board : (clearAwaited b).board = b.board := by simp [clearAwaited]

@[simp] theorem headUpRises_board : (headUpRises b).board = b.board := by
  simp only [headUpRises]
  (repeat' split) <;> simp

@[simp] theorem dwellJudgment_outline : (dwellJudgment b).board.outline = b.board.outline := by
  unfold dwellJudgment
  split <;> simp

@[simp] theorem judgeSlip_outline (was : Settle) : (judgeSlip was b).board.outline = b.board.outline := by
  unfold judgeSlip
  (repeat' split) <;> simp [onStep_outline, apply_ite StepContext.number]

@[simp] theorem takeSample_outline (n : Nat) (x y : Int) (stage : Stage) :
    (takeSample n x y stage b).board.outline = b.board.outline := by
  unfold takeSample
  split <;> simp

@[simp] theorem reportSilence_board (t : Target) : (reportSilence t b).board = b.board := by
  unfold reportSilence
  split <;> simp

@[simp] theorem driveSilent_outline : (driveSilent b).board.outline = b.board.outline := by
  unfold driveSilent
  split <;> simp

@[simp] theorem resendTarget_board : (resendTarget b).board = b.board := by
  unfold resendTarget
  split <;> simp

@[simp] theorem pollBanks_board : (pollBanks b).board = b.board := by
  unfold pollBanks
  split <;> simp

@[simp] theorem judgeHome_outline (bank : Nat) (home : BitVec 8) (f : FireFrame) :
    (judgeHome bank home f b).board.outline = b.board.outline := by
  unfold judgeHome
  (repeat' split) <;> simp

@[simp] theorem takeHome_outline (bank frame : Nat) (home : BitVec 8) :
    (takeHome bank frame home b).board.outline = b.board.outline := by
  unfold takeHome
  (repeat' split) <;> simp

@[simp] theorem takeEmptySense_outline (d : Nat) : (takeEmptySense d b).board.outline = b.board.outline := by
  unfold takeEmptySense
  split <;> simp

@[simp] theorem takePress_outline (d : Nat) : (takePress d b).board.outline = b.board.outline := by
  simp only [takePress]
  (repeat' split) <;> simp

@[simp] theorem takePosition_outline (bank : Nat) (loaded empties : BitVec 8) (p : Nat) :
    (takePosition bank loaded empties b p).board.outline = b.board.outline := by
  simp only [takePosition]
  (repeat' split) <;> simp

@[simp] theorem takeReply_outline (bank frame : Nat) (home loaded empties : BitVec 8) :
    (takeReply bank frame home loaded empties b).board.outline = b.board.outline := by
  have positions (b : Blocks) (l : List Nat) :
      (l.foldl (takePosition bank loaded empties) b).board.outline = b.board.outline :=
    foldl_leaves (fun b => b.board.outline) _ (fun b p => takePosition_outline b bank loaded empties p) l b
  simp [takeReply, positions]

@[simp] theorem conditionAppears_outline (code : Nat) : (conditionAppears code b).board.outline = b.board.outline := by
  simp [conditionAppears]

@[simp] theorem conditionClears_outline (code : Nat) : (conditionClears code b).board.outline = b.board.outline := by
  simp [conditionClears]

@[simp] theorem stopAppears_outline : (stopAppears b).board.outline = b.board.outline := by simp [stopAppears]

@[simp] theorem stopClears_outline : (stopClears b).board.outline = b.board.outline := by simp [stopClears]

@[simp] theorem haltedTick_board : (haltedTick b).board = b.board := by
  unfold haltedTick
  split <;> simp

/-! ## Keys and requests -/

@[simp] theorem takeRun_outline : (takeRun b).board.outline = b.board.outline := by
  unfold takeRun
  split <;> simp

@[simp] theorem takeStop_outline : (takeStop b).board.outline = b.board.outline := by
  unfold takeStop
  (repeat' split) <;> simp [setStopPending]

@[simp] theorem decideUncertain_outline (choice : ResumeChoice) :
    (decideUncertain choice b).board.outline = b.board.outline := by
  unfold decideUncertain
  (repeat' split) <;> simp [markOperator, onStep_outline]

@[simp] theorem releaseAtResume_board (headUp : Bool) : (releaseAtResume headUp b).board = b.board := by
  unfold releaseAtResume
  split <;> simp

@[simp] theorem leaveHalted_outline (purge : Bool) : (leaveHalted purge b).board.outline = b.board.outline := by
  unfold leaveHalted
  (repeat' split) <;> simp

@[simp] theorem takeResume_outline (headUp : Bool) (choice : ResumeChoice) (purge : Bool) :
    (takeResume headUp choice purge b).board.outline = b.board.outline := by
  simp [takeResume]

/-- A request keeps the outline when what it asks for does. -/
theorem answerRequest_outline {take : Blocks → Blocks} (ht : (take b).board.outline = b.board.outline) (o : Objection) :
    (answerRequest o take b).blocks.board.outline = b.board.outline := by
  cases o
  · exact ht
  · rfl

theorem keyRequest_outline {take : Blocks → Blocks} (ht : (take b).board.outline = b.board.outline) (o : Objection) :
    (keyRequest o take b).board.outline = b.board.outline := by
  cases o
  · exact ht
  · rfl

@[simp] theorem resumeByKey_outline (headUp purge : Bool) : (resumeByKey headUp purge b).board.outline = b.board.outline :=
  keyRequest_outline b (takeResume_outline b _ _ _) _

@[simp] theorem startKey_outline (headUp : Bool) : (startKey headUp b).board.outline = b.board.outline := by
  unfold startKey
  split <;> simp [keyRequest_outline]

@[simp] theorem purgeKey_outline (headUp : Bool) : (purgeKey headUp b).board.outline = b.board.outline := by
  unfold purgeKey
  split <;> simp [keyRequest_outline]

@[simp] theorem acknowledge_outline (code : Nat) : (acknowledge code b).board.outline = b.board.outline := by
  simp [acknowledge]

@[simp] theorem ackKey_outline : (ackKey b).board.outline = b.board.outline := by
  unfold ackKey
  split <;> simp

/-! ## Records that leave the outline -/

@[simp] theorem deselect_outline (n : Nat) : (deselect n b).board.outline = b.board.outline := by
  unfold deselect
  (repeat' split) <;> simp [onStep_outline]

@[simp] theorem dropStep_outline (acc : Blocks × Bool) (c : StepContext) :
    (dropStep acc c).1.board.outline = acc.1.board.outline := by
  unfold dropStep
  split <;> simp [flagBadImage, onStep_outline]

@[simp] theorem dropImage_outline (image : Nat) : (dropImage image b).1.board.outline = b.board.outline := by
  have dropped (l : List StepContext) (acc : Blocks × Bool) :
      (l.foldl dropStep acc).1.board.outline = acc.1.board.outline :=
    foldl_leaves (fun acc : Blocks × Bool => acc.1.board.outline) dropStep dropStep_outline l acc
  simp only [dropImage]
  split <;> simp [dropped]

@[simp] theorem orphanStep_board (n : Nat) : (orphanStep n b).board = b.board := by
  unfold orphanStep
  (repeat' split) <;> simp

@[simp] theorem abortStep_outline (acc : Blocks × Bool) (c : StepContext) :
    (abortStep acc c).1.board.outline = acc.1.board.outline := by
  unfold abortStep
  split <;> simp

theorem takeResumeRecord_outline (headUp : Bool) (p : List Byte) :
    (takeResumeRecord headUp p b).blocks.board.outline = b.board.outline := by
  simp only [takeResumeRecord]
  split <;> simp [answerRequest_outline]

theorem takeAcknowledge_outline (p : List Byte) : (takeAcknowledge p b).blocks.board.outline = b.board.outline := by
  simp only [takeAcknowledge]
  (repeat' split) <;> simp

theorem takeRead_board (p : List Byte) (l : LinkPort) : (takeRead p l b).blocks.board = b.board := by
  simp only [takeRead]
  (repeat' split) <;> rfl

/-! ## LOADs -/

theorem takeLoadCam_board (p : List Byte) : (takeLoadCam p b).blocks.board = b.board := by
  simp only [takeLoadCam]
  (repeat' split) <;> simp

theorem takeLoadGeometry_board (p : List Byte) : (takeLoadGeometry p b).blocks.board = b.board := by
  simp only [takeLoadGeometry]
  (repeat' split) <;> simp

theorem takeLoadKind_board (p : List Byte) : (takeLoadKind p b).blocks.board = b.board := by
  simp only [takeLoadKind]
  (repeat' split) <;> simp

theorem takeLoadDispenser_outline (p : List Byte) :
    (takeLoadDispenser p b).blocks.board.outline = b.board.outline := by
  simp only [takeLoadDispenser]
  (repeat' split) <;> simp [loadDispenser]

theorem takeLoadBand_board (p : List Byte) : (takeLoadBand p b).blocks.board = b.board := by
  simp only [takeLoadBand]
  (repeat' split) <;> simp

theorem takeLoadImage_board (p : List Byte) : (takeLoadImage p b).blocks.board = b.board := by
  simp only [takeLoadImage]
  (repeat' split) <;> simp

theorem takeLoadTableConfiguration_board (p : List Byte) : (takeLoadTableConfiguration p b).blocks.board = b.board := by
  simp only [takeLoadTableConfiguration]
  (repeat' split) <;> simp

theorem takeLoadProfile_board (p : List Byte) : (takeLoadProfile p b).blocks.board = b.board := by
  simp only [takeLoadProfile, recompare]
  (repeat' split) <;> simp

theorem takeLoadClass_outline (p : List Byte) : (takeLoadClass p b).blocks.board.outline = b.board.outline := by
  simp only [takeLoadClass]
  (repeat' split) <;> simp

theorem takeLoadCounter_board (p : List Byte) : (takeLoadCounter p b).blocks.board = b.board := by
  simp only [takeLoadCounter]
  (repeat' split) <;> simp

theorem takeLoadLimits_board (p : List Byte) : (takeLoadLimits p b).blocks.board = b.board := by
  simp only [takeLoadLimits]
  (repeat' split) <;> simp [setLimits]

end Sys2Proof.Machine
end

section
/-! # The step window stays sound -/

namespace Sys2Proof.Machine

set_option Elab.async false

/-! ## The link and the timebase -/

@[simp] theorem discard_outline (e : LinkError) (s : State) :
    (discard e s).blocks.board.outline = s.blocks.board.outline := by
  simp [discard]

theorem receiveByte_outline (x : Byte) (stopBit : Bool) (s : State) :
    (receiveByte x stopBit s).blocks.board.outline = s.blocks.board.outline := by
  unfold receiveByte
  split
  case h_1 => unfold huntByte; split <;> simp
  case h_5 => unfold lengthByte; split <;> simp
  case h_7 =>
    simp only [checkByte, completeRecord]
    (repeat' split) <;> simp
  all_goals simp [payloadByte]

@[simp] theorem gapTimeout_outline (s : State) : (gapTimeout s).blocks.board.outline = s.blocks.board.outline := by
  unfold gapTimeout
  split <;> simp

theorem startSend_board (s : State) : (startSend s).blocks.board = s.blocks.board := by
  unfold startSend
  (repeat' split) <;> simp

theorem placeNotice_board (s : State) : (placeNotice s).blocks.board = s.blocks.board := by
  unfold placeNotice
  (repeat' split) <;> simp

@[simp] theorem tickSilence_outline (b : Blocks) : (tickSilence b).board.outline = b.board.outline := by
  unfold tickSilence
  (repeat' split) <;> simp

@[simp] theorem tickUnmatched_board (b : Blocks) : (tickUnmatched b).board = b.board := by
  unfold tickUnmatched
  split <;> simp

@[simp] theorem tickMark_board (b : Blocks) : (tickMark b).board = b.board := by
  unfold tickMark resendIfDue
  (repeat' split) <;> simp

@[simp] theorem tickBlocks_outline (b : Blocks) : (tickBlocks b).board.outline = b.board.outline := by
  simp [tickBlocks, tickTime]

theorem tick_outline (s : State) : (tick s).blocks.board.outline = s.blocks.board.outline := by
  simp only [tick, tickReceiver]
  (repeat' split) <;> simp

/-! ## What the dispatcher picks (R180) -/

/-- The record picked is one that the test accepts. -/
theorem pickFrom_takes {takes : Bool → Record → Bool} {waits : Bool} {older l : List Record} {p : Picked}
    (h : pickFrom takes waits older l = some p) : ∃ w, takes w p.record = true := by
  induction l generalizing waits older with
  | nil => cases h
  | cons r rest ih =>
    unfold pickFrom at h
    split at h
    · next ht => exact ⟨waits, by cases h; exact ht⟩
    · exact ih h

/-- R180: no STEP is taken while the window is full. -/
theorem window_of_nextRecord_step {s : State} {p : Picked} (h : nextRecord s = some p) (hr : p.record.row = .step) :
    s.blocks.board.window.length < 256 := by
  unfold nextRecord at h
  split at h
  · obtain ⟨w, hw⟩ := pickFrom_takes h
    have hw' : w = false ∧ s.blocks.board.window.length < 256 := by
      simpa [takeable, Record.isStream, hr, Board.windowFull, Config.windowPlaces] using hw
    exact hw'.2
  · obtain ⟨_, hw⟩ := pickFrom_takes h
    simp [Record.isReset, hr] at hw

/-! ## The operations that change the outline -/

/-- R24: the accepted step is the highest of the window. -/
theorem Board.acceptStep_sound {d : Board} {c : StepContext} (hs : d.sound) (hw : d.window.length < 256)
    (hn : c.number = d.expectedStep) (hp : d.phase ≠ .none) : (d.acceptStep c).sound := by
  obtain ⟨hsorted, hbelow, -, -⟩ := hs
  refine ⟨?_, fun x hx => ?_, by simp [Board.acceptStep]; omega, fun h => absurd h hp⟩
  · rw [Board.acceptStep, List.map_append, List.pairwise_append]
    refine ⟨hsorted, by simp, ?_⟩
    simpa [hn] using hbelow
  · rcases List.mem_append.mp hx with hx | hx
    · exact Nat.lt_succ_of_lt (hbelow x hx)
    · rw [List.mem_singleton.mp hx, hn]
      exact Nat.lt_succ_self _

theorem settleAccepted_outline (f : StepFields) (b : Blocks) :
    (settleAccepted f b).board.outline = b.board.outline := by
  simp only [settleAccepted]
  (repeat' split) <;> simp [onStep_outline]

/-- R22 to R25: a STEP at a window with a place. -/
theorem takeStep_sound {p : List Byte} {b : Blocks} (hs : b.board.sound) (hw : b.board.window.length < 256) :
    (takeStep p b).blocks.board.sound := by
  simp only [takeStep]
  split
  · exact hs
  · exact hs
  · next hp =>
    split
    · rw [Answer.blocks_refuse]
      exact Board.sound_of_outline (occur_outline b 27 _) hs
    · next hn =>
      split
      · exact hs
      · exact hs
      · refine Board.sound_of_outline (settleAccepted_outline _ _) ?_
        exact Board.acceptStep_sound hs hw (not_not.mp hn) (by simp [hp])

theorem exec_step_sound {s t : State} (hs : s.blocks.board.sound) (h : execStep s = .next t) : t.blocks.board.sound := by
  obtain rfl : _ = t := Host.Outcome.next.inj h
  rcases takeRow_cases .step _ s with e | ⟨p, hp, hr, e⟩ <;> rw [e]
  · exact hs
  · split
    · rw [Answer.give_blocks]
      exact takeStep_sound (b := s.blocks) hs (window_of_nextRecord_step hp hr)
    · rw [Answer.give_blocks]
      exact hs

/-- R20: a board opens on an empty window. -/
theorem Board.start_sound {d : Board} (hs : d.sound) (hn : ¬ d.standing = true) (p : List Byte) : (d.start p).sound := by
  obtain ⟨-, -, -, hnone⟩ := hs
  have window : d.window = [] := hnone (by simpa [Board.standing] using hn)
  simp [Board.start, Board.sound, window]

theorem takeBoardStart_sound (p : List Byte) {b : Blocks} (hs : b.board.sound) :
    (takeBoardStart p b).blocks.board.sound := by
  simp only [takeBoardStart]
  split_ifs with standing
  · exact hs
  · exact hs
  · exact hs
  · exact hs
  · split
    · exact hs
    · exact Board.start_sound hs standing p

/-- R29: a BAD IMAGE leaves the window's steps, whatever it does to them. -/
theorem takeBadImage_sound (p : List Byte) {b : Blocks} (hs : b.board.sound) :
    (takeBadImage p b).blocks.board.sound := by
  have cleared : ((dropImage (byteAt p 0) (b.onBoard fun d => d.clearImage (byteAt p 0))).1).board.sound :=
    Board.sound_of_outline (dropImage_outline _ _) hs
  simp only [takeBadImage]
  split
  · exact hs
  · split
    · exact Board.sound_of_outline (conclude_outline _ _) cleared
    · exact hs

/-- R33: a BOARD END closes a board that stands. -/
theorem takeBoardEnd_sound (p : List Byte) {b : Blocks} (hs : b.board.sound) :
    (takeBoardEnd p b).blocks.board.sound := by
  simp only [takeBoardEnd]
  split
  · exact hs
  · exact hs
  · split
    · exact hs
    · split
      · exact hs
      · obtain ⟨hsorted, hbelow, hlength, -⟩ := hs
        exact ⟨hsorted, hbelow, hlength, fun h => by cases h⟩

/-- R163: an ABORT BOARD closes the board. -/
theorem abortBoard_sound {b : Blocks} (hs : b.board.sound) : (abortBoard b).board.sound := by
  have aborted : ((b.board.window.foldl abortStep (b, false)).1).board.outline = b.board.outline :=
    foldl_leaves (fun acc : Blocks × Bool => acc.1.board.outline) abortStep abortStep_outline _ _
  obtain ⟨hsorted, hbelow, hlength, -⟩ := Board.sound_of_outline aborted hs
  exact Board.sound_of_outline (planIf_outline _ _) ⟨hsorted, hbelow, hlength, fun h => by cases h⟩

theorem abortRecord_sound (b : Blocks) (hs : b.board.sound) :
    (if b.board.standing then Answer.accept (abortBoard b) else .refuse .noBoard .none b).blocks.board.sound := by
  split
  · exact abortBoard_sound hs
  · exact hs

/-- R34: a context that leaves the window leaves the others in their order. -/
theorem Board.reported_sound {d : Board} (hs : d.sound) (n : Nat) : (d.reported n).sound := by
  obtain ⟨hsorted, hbelow, hlength, hnone⟩ := hs
  have sub : List.Sublist (d.reported n).window d.window := List.filter_sublist
  exact ⟨hsorted.sublist (sub.map _), fun c hc => hbelow c (sub.subset hc), sub.length_le.trans hlength,
    fun h => List.sublist_nil.mp (hnone h ▸ sub)⟩

theorem placeStepResult_sound {s : State} (hs : s.blocks.board.sound) : (placeStepResult s).blocks.board.sound := by
  unfold placeStepResult
  split
  · exact hs
  · split
    · exact hs
    · split
      · exact Board.reported_sound hs _
      · exact hs

/-- R36: the board becomes NONE with an empty window. -/
theorem placeBoardResult_sound {s : State} (hs : s.blocks.board.sound) : (placeBoardResult s).blocks.board.sound := by
  unfold placeBoardResult
  split
  · next h =>
    obtain ⟨-, hw, -⟩ := h
    simp [closeBoard, Board.sound, hw]
  · exact hs

theorem resetBlocks_sound (levels : LevelLines) (b : Blocks) : (sampleLevels levels b.linkReset).board.sound := by
  simp [sampleLevels, Blocks.linkReset, Board.sound, Board.reset]

theorem linkReset_sound {s t : State} (hs : s.blocks.board.sound) (h : execLinkReset s = .next t) :
    t.blocks.board.sound := by
  obtain rfl : _ = t := Host.Outcome.next.inj h
  split
  · exact hs
  · split
    · unfold resetBy
      split
      · exact resetBlocks_sound _ _
      · rw [Answer.give_blocks]
        exact hs
    · exact hs

/-! ## All commands -/

/-- A command at the blocks that keeps the outline. -/
theorem onlyBlocks_sound {f : Blocks → Blocks} {s t : State} (hs : s.blocks.board.sound)
    (hf : ∀ b, (f b).board.outline = b.board.outline) (h : onlyBlocks f s = .next t) : t.blocks.board.sound := by
  obtain rfl : _ = t := Host.Outcome.next.inj h
  exact Board.sound_of_outline (hf s.blocks) hs

theorem next_sound {s u t : State} (hs : s.blocks.board.sound)
    (h : (Host.Outcome.next u : Host.Outcome State Fault Refusal) = .next t)
    (hu : u.blocks.board.outline = s.blocks.board.outline) : t.blocks.board.sound := by
  obtain rfl := Host.Outcome.next.inj h
  exact Board.sound_of_outline hu hs

/-- A record whose owner's answer keeps the window sound. -/
theorem answerRow_sound {row : Row} {n : Nat} {f : List Byte → Blocks → Answer} {s t : State} (hs : s.blocks.board.sound)
    (hf : ∀ p b, b.board.sound → (f p b).blocks.board.sound) (h : answerRow row n f s = .next t) :
    t.blocks.board.sound :=
  answerRow_keeps (P := fun b c => b.board.sound → c.board.sound) h (fun _ => id) hf hs

/-- A record whose owner's answer keeps the outline. -/
theorem answerRow_outline {row : Row} {n : Nat} {f : List Byte → Blocks → Answer} {s t : State}
    (hs : s.blocks.board.sound) (hf : ∀ p b, (f p b).blocks.board.outline = b.board.outline)
    (h : answerRow row n f s = .next t) : t.blocks.board.sound :=
  answerRow_sound hs (fun p b => Board.sound_of_outline (hf p b)) h

theorem accept_outline {b c : Blocks} (h : c.board.outline = b.board.outline) :
    (Answer.accept c).blocks.board.outline = b.board.outline := h

/-- Every command keeps the step window sound. -/
theorem exec_window_sound {i : Instr} {s t : State} (hs : s.blocks.board.sound) (h : exec i s = .next t) :
    t.blocks.board.sound := by
  cases i with
  | powerOnReset straps levels =>
    obtain rfl : _ = t := Host.Outcome.next.inj h
    simp [sampleLevels, Board.sound, Blocks.reset, Board.reset]
  | encoderSample forward mark station =>
    exact next_sound hs h (encoderSample_outline s.blocks forward mark station)
  | measureSenseTrip count => exact onlyBlocks_sound hs (measureTrip_outline · count) h
  | verifyPhaseLimit => exact onlyBlocks_sound hs phaseLimit_outline h
  | gateHomeNegated => exact onlyBlocks_sound hs (fun b => by simp) h
  | gateHomeAsserted => exact onlyBlocks_sound hs gateReturns_outline h
  | dwellTimeout => exact onlyBlocks_sound hs dwellJudgment_outline h
  | chainIndexPulse => exact onlyBlocks_sound hs chainPulse_outline h
  | stripSensorPulse => exact onlyBlocks_sound hs stripPulse_outline h
  | jawsClosedAsserted => exact onlyBlocks_sound hs (fun b => by simp) h
  | headDownAsserted => exact onlyBlocks_sound hs (fun b => by simp) h
  | clinchReturnRise => exact onlyBlocks_sound hs (fun b => by simp) h
  | leadContactClose lead => exact onlyBlocks_sound hs (fun b => by simp) h
  | headUpAsserted => exact onlyBlocks_sound hs (fun b => by simp) h
  | positionSample passed n x y stage =>
    cases passed
    · exact onlyBlocks_sound hs (fun _ => rfl) h
    · exact onlyBlocks_sound hs (takeSample_outline · n x y stage) h
  | tableDriveSilent => exact onlyBlocks_sound hs driveSilent_outline h
  | targetCommandResend => exact onlyBlocks_sound hs (fun b => by simp) h
  | spanAtTargetRise w => exact next_sound hs h rfl
  | spanAtTargetFall => exact next_sound hs h rfl
  | profileAckRise w => exact next_sound hs h rfl
  | profileAckFall => exact next_sound hs h rfl
  | pollFrame => exact onlyBlocks_sound hs (fun b => by simp) h
  | bankReply bank frame home loaded empties => exact onlyBlocks_sound hs (takeReply_outline · _ _ _ _ _) h
  | levelInputAsserted line => exact next_sound hs h (by split <;> simp)
  | levelInputNegated line => exact next_sound hs h (by split <;> simp)
  | eStopAsserted => exact next_sound hs h (by split <;> simp)
  | eStopNegated => exact next_sound hs h (by split <;> simp)
  | haltedMillisecond => exact onlyBlocks_sound hs (fun b => by simp) h
  | linkByteReceived x stopBit => exact next_sound hs h (receiveByte_outline x stopBit s)
  | linkGapTimeout => exact next_sound hs h (gapTimeout_outline s)
  | returnCredit c => exact next_sound hs h rfl
  | sendStart => exact next_sound hs h (congrArg Board.outline (startSend_board s))
  | recordSent => exact next_sound hs h rfl
  | stepResultPlacement => exact Host.Outcome.next.inj h ▸ placeStepResult_sound hs
  | boardResultPlacement => exact Host.Outcome.next.inj h ▸ placeBoardResult_sound hs
  | alarmNoticePlacement => exact next_sound hs h (congrArg Board.outline (placeNotice_board s))
  | boardStart => exact answerRow_sound hs (fun p b hb => takeBoardStart_sound p hb) h
  | step => exact exec_step_sound hs h
  | boardEnd => exact answerRow_sound hs (fun p b hb => takeBoardEnd_sound p hb) h
  | badImage => exact answerRow_sound hs (fun p b hb => takeBadImage_sound p hb) h
  | loadCamTable => exact answerRow_outline hs (fun p b => congrArg Board.outline (takeLoadCam_board b p)) h
  | loadChainGeometry => exact answerRow_outline hs (fun p b => congrArg Board.outline (takeLoadGeometry_board b p)) h
  | loadKind => exact answerRow_outline hs (fun p b => congrArg Board.outline (takeLoadKind_board b p)) h
  | loadDispenser => exact answerRow_outline hs (fun p b => takeLoadDispenser_outline b p) h
  | loadBand => exact answerRow_outline hs (fun p b => congrArg Board.outline (takeLoadBand_board b p)) h
  | loadImage => exact answerRow_outline hs (fun p b => congrArg Board.outline (takeLoadImage_board b p)) h
  | loadTableConfiguration =>
    exact answerRow_outline hs (fun p b => congrArg Board.outline (takeLoadTableConfiguration_board b p)) h
  | loadClinchProfile => exact answerRow_outline hs (fun p b => congrArg Board.outline (takeLoadProfile_board b p)) h
  | loadAlarmClass => exact answerRow_outline hs (fun p b => takeLoadClass_outline b p) h
  | loadCounterConfiguration => exact answerRow_outline hs (fun p b => congrArg Board.outline (takeLoadCounter_board b p)) h
  | loadLimits => exact answerRow_outline hs (fun p b => congrArg Board.outline (takeLoadLimits_board b p)) h
  | read => exact answerRow_outline hs (fun p b => congrArg Board.outline (takeRead_board b p _)) h
  | run => exact answerRow_outline hs (fun _ b => answerRequest_outline b (takeRun_outline b) (runObjection b)) h
  | stop => exact answerRow_outline hs (fun _ b => accept_outline (takeStop_outline b)) h
  | resume headUp => exact answerRow_outline hs (fun p b => takeResumeRecord_outline b headUp p) h
  | purge => exact answerRow_outline hs (fun _ b => answerRequest_outline b (purgeStart_outline b) (purgeObjection b)) h
  | abortBoard => exact answerRow_sound hs (fun _ b hb => abortRecord_sound b hb) h
  | clearStatistics => exact answerRow_outline hs (fun _ b => accept_outline (c := clearStatistics b) rfl) h
  | clearCounters => exact answerRow_outline hs (fun _ b => accept_outline (c := clearCounters b) rfl) h
  | linkReset => exact linkReset_sound hs h
  | acknowledgeAlarm => exact answerRow_outline hs (fun p b => takeAcknowledge_outline b p) h
  | query =>
    refine next_sound hs h ?_
    rcases takeRow_cases .query _ s with e | ⟨p, -, -, e⟩ <;> rw [e]
    split <;> simp [State.without]
  | unknownTypeRecord =>
    refine next_sound hs h ?_
    rcases takeRow_cases .other _ s with e | ⟨p, -, -, e⟩ <;> rw [e]
    rw [Answer.give_blocks, answerOther_blocks]
    rfl
  | panelStart headUp => exact onlyBlocks_sound hs (startKey_outline · headUp) h
  | panelStop => exact onlyBlocks_sound hs takeStop_outline h
  | panelAck => exact onlyBlocks_sound hs ackKey_outline h
  | panelPurge headUp => exact onlyBlocks_sound hs (purgeKey_outline · headUp) h

/-- Settles O4: a step is a tick or a command. A tick and most commands keep the window's outline, on which its soundness
rests; a STEP joins a window with a place, above all its numbers, and the board becomes NONE with an empty window alone. -/
theorem windowStaysSound : Obligations.WindowStaysSound := by
  intro s t hs h
  rcases step_cases h with rfl | ⟨i, rest, h⟩
  · exact Board.sound_of_outline (tick_outline s) hs
  · exact exec_window_sound (s := s.withPending rest) hs h

end Sys2Proof.Machine
end

section
/-! # The tier question; the placements -/

namespace Sys2Proof.Machine

set_option Elab.async false

/-! ## The tier question (R27) -/

theorem Board.lowerTierUnresolved_iff (d : Board) (tier : Nat) :
    d.lowerTierUnresolved tier = true ↔ ∃ c ∈ d.window, c.state ≠ .resolved ∧ c.tier < tier := by
  simp [Board.lowerTierUnresolved]

/-- Where tiers do not fall, the first unresolved context has the lowest unresolved tier. -/
theorem tier_le_of_head? {l : List StepContext} (hl : (l.map StepContext.tier).Pairwise (· ≤ ·))
    {p : StepContext → Bool} {c e : StepContext} (hc : (l.filter p).head? = some c) (he : e ∈ l) (hp : p e = true) :
    c.tier ≤ e.tier := by
  have sorted : (l.filter p).Pairwise (·.tier ≤ ·.tier) := (List.pairwise_map.mp hl).sublist List.filter_sublist
  obtain ⟨rest, hr⟩ := List.head?_eq_some_iff.mp hc
  have he' : e ∈ l.filter p := List.mem_filter.mpr ⟨he, hp⟩
  rw [hr] at sorted he'
  rcases List.mem_cons.mp he' with rfl | he'
  · exact le_rfl
  · exact List.rel_of_pairwise_cons sorted he'

/-- Settles O47: the question asks for some unresolved context of a lower tier, and the first one has the lowest. -/
theorem tierQuestion : Obligations.TierQuestion := by
  intro d tier
  refine ⟨d.lowerTierUnresolved_iff tier, fun sorted => ?_⟩
  rw [d.lowerTierUnresolved_iff tier]
  constructor
  · rintro ⟨e, he, hu, ht⟩
    have hp : decide (e.state ≠ .resolved) = true := by simpa using hu
    have some : ((d.window.filter (fun c => decide (c.state ≠ .resolved))).head?).isSome = true := by
      rw [List.isSome_head?]
      exact List.ne_nil_of_mem (List.mem_filter.mpr ⟨he, hp⟩)
    obtain ⟨c, hc⟩ := Option.isSome_iff_exists.mp some
    exact ⟨c, hc, (tier_le_of_head? sorted hc he hp).trans_lt ht⟩
  · rintro ⟨c, hc, ht⟩
    obtain ⟨hm, hu⟩ := List.mem_filter.mp (List.mem_of_head? hc)
    exact ⟨c, hm, by simpa using hu, ht⟩

/-! ## The placements (R34, R36, R147) -/

variable {s : State}

theorem LinkPort.hasPlace_of_lt {l : LinkPort} (h : l.upstream.length < 64) : l.hasPlace = true := by
  simpa [LinkPort.hasPlace, Config.upstreamPlaces] using h

theorem LinkPort.hasPlace_of_le {l : LinkPort} (h : 64 ≤ l.upstream.length) : l.hasPlace = false := by
  simpa [LinkPort.hasPlace, Config.upstreamPlaces] using h

/-- With no free place nothing is placed. -/
theorem placements_of_full (h : 64 ≤ s.link.upstream.length) :
    placeStepResult s = s ∧ placeBoardResult s = s ∧ placeNotice s = s := by
  have full := LinkPort.hasPlace_of_le h
  refine ⟨?_, by simp [placeBoardResult, full], ?_⟩
  · unfold placeStepResult
    (repeat' split) <;> simp_all
  · unfold placeNotice
    (repeat' split) <;> simp_all

theorem placeStepResult_of_waiting {n : Nat} {order : List Nat} {c : StepContext} {r : Record}
    (h : s.link.upstream.length < 64) (ho : s.blocks.board.reportOrder = n :: order)
    (hc : s.blocks.board.context? n = some c) (hr : c.resultRecord = r) :
    placeStepResult s = { s with
      link := { s.link with upstream := s.link.upstream ++ [r] }
      blocks := { s.blocks with board := { s.blocks.board with
        window := s.blocks.board.window.filter (fun e => decide (e.number ≠ n)), reportOrder := order } } } := by
  unfold placeStepResult
  rw [ho]
  dsimp only
  rw [hc]
  dsimp only
  rw [if_pos (LinkPort.hasPlace_of_lt h)]
  simp [place, State.onLink, State.onBlocks, Blocks.onBoard, Board.reported, ho, hr]

theorem placeNotice_of_waiting {code : Nat} {notices : List Nat} (h : s.link.upstream.length < 64)
    (hn : s.blocks.alarm.notices = code :: notices) :
    placeNotice s = { s with
      link := { s.link with upstream := s.link.upstream ++ [(look s.blocks.alarm.codes code).noticeRecord code] }
      blocks := { s.blocks with alarm :=
        { codes := put s.blocks.alarm.codes code { look s.blocks.alarm.codes code with noticePending := false }
          notices := notices } } } := by
  unfold placeNotice
  rw [hn]
  dsimp only
  rw [if_pos (LinkPort.hasPlace_of_lt h)]
  simp [place, State.onLink, State.onBlocks, Blocks.onAlarm, Alarm.noticePlaced, adjust, hn]

theorem placeBoardResult_of_closing (h : s.link.upstream.length < 64) (hp : s.blocks.board.phase = .closing)
    (hw : s.blocks.board.window = []) :
    placeBoardResult s = { s with
      link := { s.link with upstream := s.link.upstream ++ [s.blocks.board.resultRecord] }
      blocks := closeBoard s.blocks } := by
  unfold placeBoardResult
  rw [if_pos ⟨hp, hw, LinkPort.hasPlace_of_lt h⟩]
  rfl

theorem placeBoardResult_of_open (h : s.blocks.board.phase ≠ .closing ∨ s.blocks.board.window ≠ []) :
    placeBoardResult s = s := if_neg fun ⟨hp, hw, _⟩ => h.elim (· hp) (· hw)

/-- R13, R36: with the board gone a WAITING machine stops, and any other stays. -/
theorem closeBoard_eq (b : Blocks) : closeBoard b = { b with
    board := { b.board with phase := .none }
    shaft := if b.shaft.machine = .waiting then { b.shaft with machine := .stopped, stopPending := false } else b.shaft } := by
  unfold closeBoard settleWaiting
  by_cases h : b.shaft.machine = .waiting <;> simp [h, Blocks.onBoard, enterStopped, Blocks.onShaft]

/-- Table 11-10: the bytes of a STEP RESULT. -/
theorem StepContext.resultRecord_eq {c : StepContext} {o : StepOutcome} (h : c.outcome = some o) :
    c.resultRecord = ⟨0x81#8, be16 c.number
      ++ [byteOf o.code, byteOf (c.source.getD 255),
          byteOf (flag c.slip 7 + flag c.passAlt 6 + flag c.badImage 5 + flag c.operator 4
            + flag (match c.verify with | some v => v.count | none => none).isSome 3 + c.makeUps % 8),
          byteOf (match c.verify with | some v => v.result.code | none => 255),
          byteOf ((match c.verify with | some v => v.band | none => none).getD 255)]
      ++ be16 ((match c.verify with | some v => v.count | none => none).getD 0)⟩ := by
  unfold StepContext.resultRecord
  cases c.verify <;> simp [h, orZero]

/-- Table 11-17: the bytes of a BOARD RESULT. -/
theorem Board.resultRecord_eq (d : Board) : d.resultRecord = ⟨0x82#8,
    be32 d.id ++ [match d.endStatus with | .complete => 0#8 | .aborted => 1#8] ++ be24 d.tallies.accepted
      ++ be24 d.tallies.inserted ++ be24 d.tallies.misinserted ++ be24 d.tallies.skipped ++ be24 d.tallies.failed
      ++ be24 d.tallies.aborted ++ be24 d.tallies.makeUps⟩ := by
  unfold Board.resultRecord
  cases d.endStatus <;> rfl

/-- Settles O39, placement by placement. -/
theorem placementsJoinTheQueue : Obligations.PlacementsJoinTheQueue := by
  intro s
  refine ⟨fun full => ?_, fun free => ⟨fun n order c o ho hc houtcome => ⟨rfl, ?_⟩, fun code notices hn => ⟨rfl, ?_⟩,
    fun hp hw => ⟨rfl, ?_⟩, fun h => congrArg _ (placeBoardResult_of_open h)⟩⟩
  · obtain ⟨step, board, notice⟩ := placements_of_full full
    exact ⟨congrArg _ step, congrArg _ board, congrArg _ notice⟩
  · exact congrArg _ (placeStepResult_of_waiting free ho hc (StepContext.resultRecord_eq houtcome))
  · exact congrArg _ (placeNotice_of_waiting free hn)
  · refine ⟨_, congrArg Host.Outcome.next (placeBoardResult_of_closing free hp hw), ?_⟩
    rw [closeBoard_eq, Board.resultRecord_eq]
    exact ⟨rfl, rfl, rfl, rfl, rfl⟩

end Sys2Proof.Machine
end

section
/-! # Occurrences that ask nothing of the shaft at once -/

/-! What an event does to the other blocks when the codes that it raised are few and known, and none of them brakes or parks
(R16, R17, R72, R144). -/

namespace Sys2Proof.Machine

set_option Elab.async false

/-- Between two alarm tables no entry has changed but those of the codes given, and these keep their class. -/
structure Alarm.RaisedOnly (was a : Alarm) (codes : List Nat) : Prop where
  elsewhere : a.elsewhere was codes
  cls : ∀ code ∈ codes, (look a.codes code).cls = (look was.codes code).cls

theorem Alarm.RaisedOnly.refl (a : Alarm) (codes : List Nat) : a.RaisedOnly a codes := ⟨fun _ _ _ => rfl, fun _ _ => rfl⟩

theorem Alarm.occur_cls (a : Alarm) (code : Nat) (context : AlarmContext) (other : Nat) :
    (look (a.occur code context).codes other).cls = (look a.codes other).cls := by
  by_cases h : code < 32
  · by_cases e : code = other
    · subst e
      rw [Alarm.occur_look h]
      split <;> rfl
    · rw [Alarm.occur_other e]
  · rw [Alarm.occur_of_le (by omega)]

theorem Alarm.RaisedOnly.occur {was a : Alarm} {codes : List Nat} (h : was.RaisedOnly a codes) {code : Nat}
    (hc : code ∈ codes) (context : AlarmContext) : was.RaisedOnly (a.occur code context) codes := by
  refine ⟨fun other ho hn => ?_, fun other ho => (Alarm.occur_cls a code context other).trans (h.cls other ho)⟩
  rw [Alarm.occur_other (by rintro rfl; exact hn hc)]
  exact h.elsewhere other ho hn

/-- A level above the demand of before is that of a code raised since. -/
theorem Alarm.RaisedOnly.exists_of_lt {was a : Alarm} {codes : List Nat} (h : was.RaisedOnly a codes)
    (hd : was.demand < a.demand) : ∃ code ∈ codes, a.levelOf code = a.demand := by
  have hn : ¬ ∀ code, code < 32 → a.levelOf code ≤ a.demand - 1 := fun all => by
    have := (a.demand_le_iff _).mpr all
    omega
  push Not at hn
  obtain ⟨code, hc, hl⟩ := hn
  have high := a.levelOf_le_demand hc
  refine ⟨code, ?_, by omega⟩
  by_contra out
  have same : a.levelOf code = was.levelOf code := by simp [Alarm.levelOf, h.elsewhere code hc out]
  have low := was.levelOf_le_demand hc
  omega

/-- The class of a code whose level is `n`. -/
theorem Alarm.cls_of_levelOf {a : Alarm} {code n : Nat} (h : a.levelOf code = n) (hn : n ≠ 0) :
    (look a.codes code).cls.level = n := by
  unfold Alarm.levelOf at h
  split at h
  · exact h
  · exact absurd h.symm hn

/-- R144: a code that struck since has class STOP-NOW and was raised. -/
theorem Alarm.RaisedOnly.struckNow {was a : Alarm} {codes : List Nat} (h : was.RaisedOnly a codes)
    (hs : struckNow was a = true) : ∃ code ∈ codes, (look a.codes code).cls = .stopNow := by
  simp only [Machine.struckNow, List.any_eq_true, List.mem_range, Bool.and_eq_true, decide_eq_true_eq, Bool.or_eq_true] at hs
  obtain ⟨code, hc, level, changed⟩ := hs
  have cls : (look a.codes code).cls = .stopNow := by
    have := Alarm.cls_of_levelOf level (by decide)
    cases e : (look a.codes code).cls <;> simp [e, AlarmClass.level] at this ⊢
  refine ⟨code, ?_, cls⟩
  by_contra out
  rw [h.elsewhere code hc out] at changed cls
  rcases changed with changed | changed
  · exact changed rfl
  · exact changed cls

variable {a b : Blocks} {codes : List Nat}

theorem stopNow_resting (h : b.shaft.machine = .stopped ∨ b.shaft.machine = .halted) : stopNow b = b := by
  unfold stopNow
  rcases h with h | h <;> rw [h]

theorem stopAtPark_resting (h : b.shaft.machine = .stopped ∨ b.shaft.machine = .halted) : stopAtPark b = b := by
  unfold stopAtPark
  rcases h with h | h <;> rw [h]

/-- R14, R17: before DECISION a demand of STOP-AT-PARK is left to the DECISION choice. -/
theorem stopAtPark_undecided (hm : b.shaft.machine = .cycling ∨ b.shaft.machine = .purging) (hl : b.shaft.live = true)
    (hd : b.shaft.decided = false) (ha : b.shaft.angle < b.shaft.parkAngle) : stopAtPark b = b := by
  unfold stopAtPark
  rcases hm with hm | hm <;> simp [hm, hl, hd, ha]

/-- R72, R144: codes that ask nothing of the shaft at once bring no more than the onset of a hold. -/
theorem reactRise_unmoved (hs : b.shaft = a.shaft) (h : a.alarm.RaisedOnly b.alarm codes)
    (hu : ∀ code ∈ codes, a.unmovedBy code) :
    reactRise a.alarm b = if a.alarm.demand < 2 ∧ 2 ≤ b.alarm.demand then holdOnset b else b := by
  have held : (if a.alarm.demand < 2 ∧ 2 ≤ b.alarm.demand then holdOnset b else b).shaft = a.shaft := by
    split
    · rw [holdOnset_shaft, hs]
    · exact hs
  unfold reactRise
  dsimp only
  generalize (if a.alarm.demand < 2 ∧ 2 ≤ b.alarm.demand then holdOnset b else b) = c at held ⊢
  by_cases resting : a.shaft.machine = .stopped ∨ a.shaft.machine = .halted
  · rw [stopNow_resting (held ▸ resting), stopAtPark_resting (held ▸ resting)]
    simp
  · have below : ∀ code ∈ codes, (look b.alarm.codes code).cls ≠ .stopNow := fun code hc e => by
      have := hu code hc
      simp only [Blocks.unmovedBy, ← h.cls code hc, e] at this
      simp_all
    split
    · next top =>
      exfalso
      obtain ⟨top, low | struck⟩ := top
      · obtain ⟨code, hc, level⟩ := h.exists_of_lt (by omega)
        have := Alarm.cls_of_levelOf (level.trans top) (by decide)
        cases e : (look b.alarm.codes code).cls <;> simp [e, AlarmClass.level] at this
        exact below code hc e
      · obtain ⟨code, hc, cls⟩ := h.struckNow struck
        exact below code hc cls
    · split
      · next park =>
        obtain ⟨code, hc, level⟩ := h.exists_of_lt (by omega)
        have cls := Alarm.cls_of_levelOf (level.trans park.1) (by decide)
        have := hu code hc
        simp only [Blocks.unmovedBy, ← h.cls code hc] at this
        rcases this with e | e | e | e | ⟨-, low | ⟨hm, hl, hd, ha⟩⟩
        · exact absurd (.inl e) resting
        · exact absurd (.inr e) resting
        · simp [e, AlarmClass.level] at cls
        · simp [e, AlarmClass.level] at cls
        · omega
        · exact stopAtPark_undecided (held ▸ hm) (held ▸ hl) (held ▸ hd) (held ▸ ha)
      · rfl

/-- R144: codes of class NOTE ask nothing at all. -/
theorem reactRise_note (hs : b.shaft = a.shaft) (h : a.alarm.RaisedOnly b.alarm codes)
    (hn : ∀ code ∈ codes, (look a.alarm.codes code).cls = .note) : reactRise a.alarm b = b := by
  rw [reactRise_unmoved hs h fun code hc => .inr (.inr (.inl (hn code hc)))]
  refine if_neg fun ⟨low, high⟩ => ?_
  obtain ⟨code, hc, level⟩ := h.exists_of_lt (by omega)
  have cls := Alarm.cls_of_levelOf level (by omega)
  rw [h.cls code hc, hn code hc] at cls
  simp only [AlarmClass.level] at cls
  omega

/-- R72: with no step PLANNED the onset of a hold sets the stop cause alone. -/
theorem holdOnset_of_unplanned (h : ∀ c ∈ b.board.window, c.state ≠ .planned) : ∃ c, holdOnset b = setStopCause c b := by
  have none : b.board.plannedFrom 0 = [] := by
    rw [Board.plannedFrom, List.map_eq_nil_iff, List.filter_eq_nil_iff]
    intro c hc
    simp [h c hc]
  rw [holdOnset, cancelFrom, none, List.foldl_nil]
  exact noteBlocked_eq b

theorem reactRise_unplanned (hs : b.shaft = a.shaft) (h : a.alarm.RaisedOnly b.alarm codes)
    (hu : ∀ code ∈ codes, a.unmovedBy code) (hp : ∀ c ∈ b.board.window, c.state ≠ .planned) :
    ∃ c, reactRise a.alarm b = setStopCause c b := by
  rw [reactRise_unmoved hs h hu]
  split
  · exact holdOnset_of_unplanned hp
  · exact ⟨b.planner.stopCause, rfl⟩

/-- R138, R168: under quiet counters the occurrence of a code of class NOTE changes its entry and the notice list alone. -/
theorem occur_note (hq : b.counters.quiet) {code : Nat} (hn : (look b.alarm.codes code).cls = .note)
    (context : AlarmContext) : occur code context b = b.onAlarm fun a => a.occur code context := by
  rw [occur, raise_quiet hq]
  exact reactRise_note (codes := [code]) rfl ((Alarm.RaisedOnly.refl _ _).occur (by simp) context) (by simpa using hn)

end Sys2Proof.Machine
end

section
/-! # STEP records -/

namespace Sys2Proof.Machine

set_option Elab.async false

/-! ## The context at the tail of the window -/

section

variable {b : Blocks} {w : List StepContext} {c : StepContext}

theorem context?_of_tail (hw : b.board.window = w ++ [c]) (hn : ∀ x ∈ w, x.number ≠ c.number) :
    b.context? c.number = some c := by
  have before : w.find? (fun x => decide (x.number = c.number)) = none := by simpa using hn
  simp [Blocks.context?, Board.context?, hw, before]

theorem onStep_of_tail (hw : b.board.window = w ++ [c]) (hn : ∀ x ∈ w, x.number ≠ c.number)
    (f : StepContext → StepContext) :
    b.onStep c.number f = b.onBoard fun d => { d with window := w ++ [f c] } := by
  have before : w.map (fun x => if x.number = c.number then f x else x) = w :=
    (List.map_congr_left fun x hx => if_neg (hn x hx)).trans (List.map_id' w)
  simp [Blocks.onStep, Blocks.onBoard, hw, before]

theorem resolve_of_tail (hw : b.board.window = w ++ [c]) (hn : ∀ x ∈ w, x.number ≠ c.number) (hs : c.state ≠ .resolved)
    (o : StepOutcome) :
    resolve c.number o b = b.onBoard fun d => { d with
      window := w ++ [c.ended o], tallies := d.tallies.resolve o c.makeUps
      reportOrder := d.reportOrder ++ [c.number] } := by
  unfold resolve
  rw [context?_of_tail hw hn]
  dsimp only
  rw [if_neg hs, onStep_of_tail hw hn]
  rfl

end

/-! ## The fields of the record (Table 11-9) -/

/-- The payload of a STEP. -/
def stepPayload (f : StepFields) : List Byte :=
  be16 f.number ++ [byteOf f.kind, byteOf f.image] ++ be16 f.x ++ be16 f.y
    ++ [byteOf (f.tier * 16 + f.overrideCode * 4 + f.theta)]

/-- The fields that a STEP record can hold. -/
structure StepFields.Fits (f : StepFields) : Prop where
  number : f.number < 65536
  kind : f.kind < 256
  image : f.image < 256
  x : f.x < 65536
  y : f.y < 65536
  tier : f.tier < 16
  policy : f.overrideCode < 4
  theta : f.theta < 4

theorem stepFieldsOf_stepPayload {f : StepFields} (h : f.Fits) : stepFieldsOf (stepPayload f) = f := by
  obtain ⟨number, kind, image, hx, y, tier, policy, theta⟩ := h
  have last : byteAt (stepPayload f) 8 = f.tier * 16 + f.overrideCode * 4 + f.theta := byteAt_of_byteOf rfl (by omega)
  unfold stepFieldsOf
  rw [u16At_of_be16 (i := 0) (n := f.number) rfl rfl number, byteAt_of_byteOf (i := 2) (n := f.kind) rfl kind,
    byteAt_of_byteOf (i := 3) (n := f.image) rfl image, u16At_of_be16 (i := 4) (n := f.x) rfl rfl hx,
    u16At_of_be16 (i := 6) (n := f.y) rfl rfl y, last]
  rw [show (f.tier * 16 + f.overrideCode * 4 + f.theta) / 16 = f.tier by omega,
    show (f.tier * 16 + f.overrideCode * 4 + f.theta) / 4 % 4 = f.overrideCode by omega,
    show (f.tier * 16 + f.overrideCode * 4 + f.theta) % 4 = f.theta by omega]

/-! ## STEP at the board manager (R22 to R25) -/

section

variable {b : Blocks} {p : List Byte} {f : StepFields}

theorem takeStep_of_none (h : b.board.phase = .none) : takeStep p b = .refuse .noBoard .none b := by
  simp only [takeStep, h]

theorem takeStep_of_closing (h : b.board.phase = .closing) : takeStep p b = .refuse .state .none b := by
  simp only [takeStep, h]

theorem takeStep_of_number (hf : stepFieldsOf p = f) (h : b.board.phase = .opened) (hn : f.number ≠ b.board.expectedStep) :
    takeStep p b = .refuse .sequence (.number b.board.expectedStep) (occur 27 ⟨some f.number, none, none⟩ b) := by
  simp only [takeStep, h, hf, if_pos hn]

theorem takeStep_of_count {n : Nat} (hf : stepFieldsOf p = f) (h : b.board.phase = .opened)
    (hn : f.number = b.board.expectedStep) (hc : b.board.expectedCount = some n) (hl : n ≤ f.number) :
    takeStep p b = .refuse .countMismatch (.number n) b := by
  simp only [takeStep, h, hf, if_neg (not_not.mpr hn), hc, Option.filter_some, decide_eq_true hl, if_true]

/-- With its number expected and below the count, the record is answered by the tests of its fields. -/
theorem takeStep_of_expected (hf : stepFieldsOf p = f) (h : b.board.phase = .opened) (hn : f.number = b.board.expectedStep)
    (hc : ∀ n, b.board.expectedCount = some n → f.number < n) :
    takeStep p b = (stepFault f b).elim (.accept (settleAccepted f (b.onBoard fun d => d.acceptStep f.context)))
      fun fault => .refuse fault.1 fault.2 b := by
  have none : b.board.expectedCount.filter (fun n => decide (n ≤ f.number)) = none := by
    rw [Option.filter_eq_none_iff]
    intro n h
    simpa using hc n h
  simp only [takeStep, h, hf, if_neg (not_not.mpr hn), none]
  cases stepFault f b <;> rfl

/-- R23: the tests of the fields are passed. -/
structure StepFields.Passes (f : StepFields) (b : Blocks) : Prop where
  image : f.image < 16
  x : f.x ≤ 60000
  y : f.y ≤ 60000
  policy : f.overrideCode < 3
  tier : b.board.lastTier ≤ f.tier
  kind : (b.source.kind? f.kind).isSome = true
  installed : (look b.positioner.images f.image).installed = true

theorem stepFault_of_passes (h : f.Passes b) : stepFault f b = none := by
  obtain ⟨image, hx, y, policy, tier, kind, installed⟩ := h
  have known : (b.source.kind? f.kind).isNone = false := by simpa [Option.isSome_iff_ne_none] using kind
  unfold stepFault
  rw [if_neg (by omega), if_neg (by omega), if_neg (by omega), if_neg (by omega), if_neg (by omega)]
  simp [known, installed]

/-- R24, R25: the blocks that an accepted step meets, its context at the tail of the window. -/
theorem accepted_window (f : StepFields) (b : Blocks) :
    (b.onBoard fun d => d.acceptStep f.context).board.window = b.board.window ++ [f.context] := rfl

/-- R104: the table target of a step. -/
def StepFields.target (f : StepFields) (b : Blocks) : Int × Int :=
  transform b.positioner.config (look b.positioner.images f.image) b.board.dx b.board.dy f.x f.y f.theta

/-- R24, R25: the blocks after an acceptance, the context with its target. -/
def StepFields.aimed (f : StepFields) (b : Blocks) : Blocks :=
  b.onBoard fun d => { d.acceptStep f.context with
    window := d.window ++ [{ f.context with target := some (f.target b) }] }

/-- R60: a planning event that is blocked sets the stop cause. -/
theorem planningEvent_of_blocked {cause : StopCause} (h : b.blockedBy = some cause) :
    planningEvent b = setStopCause cause b := by
  unfold planningEvent
  rw [h]

/-- R24: an accepted number is above every number of the window. -/
theorem Board.sound.number_ne {d : Board} (hs : d.sound) : ∀ x ∈ d.window, x.number ≠ d.expectedStep := by
  obtain ⟨-, hbelow, -, -⟩ := hs
  exact fun x hx => Nat.ne_of_lt (hbelow x hx)

variable (hs : ∀ x ∈ b.board.window, x.number ≠ f.number)

include hs

theorem settleAccepted_of_bad (hg : b.board.imageGood f.image = false) :
    settleAccepted f (b.onBoard fun d => d.acceptStep f.context) = b.onBoard fun d => { d.acceptStep f.context with
      window := d.window ++ [{ f.context with badImage := true }.ended .skippedBadImage]
      tallies := (d.acceptStep f.context).tallies.resolve .skippedBadImage 0
      reportOrder := d.reportOrder ++ [f.number] } := by
  have bad : (b.onBoard fun d => d.acceptStep f.context).board.imageGood f.image = false := hg
  rw [settleAccepted, bad, if_pos (by rfl), resolveBadImage]
  rw [show f.number = f.context.number from rfl, onStep_of_tail (accepted_window f b) hs]
  exact resolve_of_tail (c := { f.context with badImage := true }) rfl hs nofun _

/-- R25: a step of a good image gets its target, and is planned or skipped by it. -/
theorem settleAccepted_of_good (hg : b.board.imageGood f.image = true) :
    settleAccepted f (b.onBoard fun d => d.acceptStep f.context) =
      if b.positioner.config.inField (f.target b) then planningEvent (f.aimed b)
      else resolve f.number .skippedOutOfField (f.aimed b) := by
  have good : (b.onBoard fun d => d.acceptStep f.context).board.imageGood f.image = true := hg
  rw [settleAccepted, good, if_neg (by decide)]
  dsimp only
  rw [show f.number = f.context.number from rfl, onStep_of_tail (accepted_window f b) hs]
  rfl

theorem settleAccepted_of_outside (hg : b.board.imageGood f.image = true)
    (ht : b.positioner.config.inField (f.target b) = false) :
    settleAccepted f (b.onBoard fun d => d.acceptStep f.context) = b.onBoard fun d => { d.acceptStep f.context with
      window := d.window ++ [{ f.context with target := some (f.target b) }.ended .skippedOutOfField]
      tallies := (d.acceptStep f.context).tallies.resolve .skippedOutOfField 0
      reportOrder := d.reportOrder ++ [f.number] } := by
  rw [settleAccepted_of_good hs hg, ht, if_neg (by decide)]
  exact resolve_of_tail (b := f.aimed b) (c := { f.context with target := some (f.target b) }) rfl hs nofun _

theorem settleAccepted_of_held (hg : b.board.imageGood f.image = true)
    (ht : b.positioner.config.inField (f.target b) = true) (hd : 2 ≤ b.alarm.demand) :
    settleAccepted f (b.onBoard fun d => d.acceptStep f.context) = setStopCause .held (f.aimed b) := by
  rw [settleAccepted_of_good hs hg, ht, if_pos rfl]
  exact planningEvent_of_blocked (b := f.aimed b) (if_pos hd)

end

/-! ## STEP at the dispatcher (R180, R181) -/

section

variable {s : State} {p : List Byte} {rest : List Record}

/-- R180: a STEP is taken while the window has a place. -/
theorem takeable_step (hw : s.blocks.board.window.length < 256) :
    takeable s.blocks.board.windowFull false ⟨0x02#8, p⟩ = true := by
  have room : s.blocks.board.windowFull = false := by simpa [Board.windowFull, Config.windowPlaces] using hw
  rw [room]
  rfl

variable (h : s.offers ⟨0x02#8, p⟩ rest) (hw : s.blocks.board.window.length < 256) (len : p.length = 9)

include h hw len

theorem exec_step_accept {c : Blocks} (hf : takeStep p s.blocks = .accept c) : exec .step s = .next (s.taken rest c) :=
  (congrArg (fun n => answerRow .step n takeStep s) len.symm).trans (answerRow_accept h (takeable_step hw) rfl hf)

theorem exec_step_refuse {reason : RefusalReason} {detail : Detail}
    (hf : takeStep p s.blocks = .refuse reason detail s.blocks) :
    exec .step s = .next (s.answered rest (refusal 0x02#8 reason detail)) :=
  (congrArg (fun n => answerRow .step n takeStep s) len.symm).trans (answerRow_refuse h (takeable_step hw) rfl hf)

/-- A refusal whose event changes the blocks. -/
theorem exec_step_refuse_with {c : Blocks} {reason : RefusalReason} {detail : Detail}
    (hf : takeStep p s.blocks = .refuse reason detail c) :
    ∃ t, exec .step s = .next t ∧ t.link = (s.answered rest (refusal 0x02#8 reason detail)).link ∧ t.blocks = c := by
  refine ⟨{ s.answered rest (refusal 0x02#8 reason detail) with blocks := c }, ?_, rfl, rfl⟩
  have e : exec .step s = answerRow .step p.length takeStep s := congrArg (fun n => answerRow .step n takeStep s) len.symm
  rw [e, answerRow, takeRow_of_offers (row := .step) _ h (takeable_step hw) rfl]
  simp [hf, Answer.give, place, State.onLink, State.answered]

end

/-! ## Acceptance and refusals -/

theorem overrideOf_eq (n : Nat) : overrideOf n = if n = 1 then some .stop else if n = 2 then some .mark else none := by
  unfold overrideOf
  split
  · rfl
  · rfl
  · next h1 h2 => rw [if_neg h1, if_neg h2]

/-- R22: FEED ERROR of a number out of sequence leaves the board's own fields. -/
theorem takeStep_feedError (b : Blocks) (context : AlarmContext) :
    look (occur 27 context b).alarm.codes 27 = (look b.alarm.codes 27).struck context
      ∧ (occur 27 context b).board.expectedStep = b.board.expectedStep
      ∧ (occur 27 context b).board.lastTier = b.board.lastTier
      ∧ ((look b.alarm.codes 27).cls = .note → b.counters.quiet →
        occur 27 context b = { b with alarm := (occur 27 context b).alarm }
          ∧ (occur 27 context b).alarm.elsewhere b.alarm [27]) := by
  refine ⟨occur_look (by decide) (by decide) context b, Board.expectedStep_of_outline (occur_outline b 27 context),
    Board.lastTier_of_outline (occur_outline b 27 context), fun note quiet => ?_⟩
  rw [occur_note quiet note context]
  exact ⟨rfl, ((Alarm.RaisedOnly.refl _ [27]).occur (by simp) context).elsewhere⟩

section

variable {s : State} {rest : List Record} {f : StepFields}

/-- R23: a record that fails a test of its fields is refused with that test's answer. -/
theorem exec_step_of_fault (hf : f.Fits) (h : s.offers ⟨0x02#8, stepPayload f⟩ rest)
    (hw : s.blocks.board.window.length < 256) (hp : s.blocks.board.phase = .opened)
    (hn : f.number = s.blocks.board.expectedStep) (hc : ∀ n, s.blocks.board.expectedCount = some n → f.number < n)
    {reason : RefusalReason} {detail : Detail} (fault : stepFault f s.blocks = some (reason, detail)) :
    exec .step s = .next (s.answered rest (refusal 0x02#8 reason detail)) := by
  refine exec_step_refuse h hw rfl ?_
  rw [takeStep_of_expected (stepFieldsOf_stepPayload hf) hp hn hc, fault, Option.elim_some]

/-- R24: a record that passes every test is accepted. -/
theorem exec_step_of_passes (hf : f.Fits) (h : s.offers ⟨0x02#8, stepPayload f⟩ rest)
    (hw : s.blocks.board.window.length < 256) (hp : s.blocks.board.phase = .opened)
    (hn : f.number = s.blocks.board.expectedStep) (hc : ∀ n, s.blocks.board.expectedCount = some n → f.number < n)
    (pass : f.Passes s.blocks) :
    exec .step s = .next (s.taken rest (settleAccepted f (s.blocks.onBoard fun d => d.acceptStep f.context))) := by
  refine exec_step_accept h hw rfl ?_
  rw [takeStep_of_expected (stepFieldsOf_stepPayload hf) hp hn hc, stepFault_of_passes pass, Option.elim_none]

end

/-- Settles O44: the record's fields are read back, and the tests are taken in their order. -/
theorem stepAccepted : Obligations.StepAccepted := by
  unfold Obligations.StepAccepted
  refine ⟨?_, ?_⟩
  · intro number kind image x y tier policy theta rest s hnumber hkind himage hx hy htier hpolicy htheta h hw hp hn hc
      hlast hknown hinstalled hs
    have fits : (StepFields.mk number kind image x y tier policy theta).Fits :=
      ⟨hnumber, hkind, himage.trans (by decide), hx.trans_lt (by decide), hy.trans_lt (by decide), htier,
        hpolicy.trans (by decide), htheta⟩
    have pass : (StepFields.mk number kind image x y tier policy theta).Passes s.blocks :=
      ⟨himage, hx, hy, hpolicy, hlast, hknown, hinstalled⟩
    have fresh : ∀ x ∈ s.blocks.board.window, x.number ≠ number := hn ▸ hs.number_ne
    have taken := exec_step_of_passes fits h hw hp hn hc pass
    dsimp only
    rw [taken, ← overrideOf_eq]
    refine ⟨fun bad => ?_, fun good outside => ?_, fun good inside held => ?_⟩
    · exact congrArg (fun c => Host.Outcome.next (s.taken rest c)) (settleAccepted_of_bad fresh bad)
    · exact congrArg (fun c => Host.Outcome.next (s.taken rest c)) (settleAccepted_of_outside fresh good outside)
    · exact congrArg (fun c => Host.Outcome.next (s.taken rest c)) (settleAccepted_of_held fresh good inside held)
  · intro number kind image x y tier policy theta rest s hnumber hkind himage hx hy htier hpolicy htheta h hw
    have fits : (StepFields.mk number kind image x y tier policy theta).Fits :=
      ⟨hnumber, hkind, himage, hx, hy, htier, hpolicy, htheta⟩
    have fields := stepFieldsOf_stepPayload fits
    refine ⟨fun hp => exec_step_refuse h hw rfl (takeStep_of_none hp),
      fun hp => exec_step_refuse h hw rfl (takeStep_of_closing hp),
      fun hp hn => ?_,
      fun n hp hn hc hl => exec_step_refuse h hw rfl (takeStep_of_count fields hp hn hc hl), fun hp hn hc => ?_⟩
    · have refused : takeStep (stepPayload ⟨number, kind, image, x, y, tier, policy, theta⟩) s.blocks
          = .refuse .sequence (.number s.blocks.board.expectedStep) (occur 27 ⟨some number, none, none⟩ s.blocks) :=
        takeStep_of_number (f := ⟨number, kind, image, x, y, tier, policy, theta⟩) fields hp hn
      obtain ⟨t, next, link, blocks⟩ := exec_step_refuse_with h hw rfl refused
      refine ⟨t, next, link, ?_⟩
      rw [blocks]
      exact takeStep_feedError s.blocks ⟨some number, none, none⟩
    have faulty : ∀ reason detail,
        stepFault (StepFields.mk number kind image x y tier policy theta) s.blocks = some (reason, detail) →
        exec .step s = .next (s.answered rest (refusal 0x02#8 reason detail)) :=
      fun _ _ fault => exec_step_of_fault fits h hw hp hn hc fault
    refine ⟨fun x => faulty _ _ ?_, fun x y => faulty _ _ ?_, fun x y image => faulty _ _ ?_,
      fun x y image policy => faulty _ _ ?_, fun x y image policy => ⟨fun tier => faulty _ _ ?_,
        fun tier unknown => faulty _ _ ?_, fun tier known installed => faulty _ _ ?_⟩⟩
    · exact if_pos x
    · rw [stepFault, if_neg (by dsimp only; omega), if_pos (by dsimp only; omega)]
    · rw [stepFault, if_neg (by dsimp only; omega), if_neg (by dsimp only; omega), if_pos (by dsimp only; omega)]
    · rw [stepFault, if_neg (by dsimp only; omega), if_neg (by dsimp only; omega), if_neg (by dsimp only; omega),
        if_pos policy]
    · rw [stepFault, if_neg (by dsimp only; omega), if_neg (by dsimp only; omega), if_neg (by dsimp only; omega),
        if_neg (by dsimp only; omega), if_pos tier]
    · rw [stepFault, if_neg (by dsimp only; omega), if_neg (by dsimp only; omega), if_neg (by dsimp only; omega),
        if_neg (by dsimp only; omega), if_neg (by dsimp only; omega), if_pos (by simp [unknown])]
    · rw [stepFault, if_neg (by dsimp only; omega), if_neg (by dsimp only; omega), if_neg (by dsimp only; omega),
        if_neg (by dsimp only; omega), if_neg (by dsimp only; omega)]
      simp [known, installed]

end Sys2Proof.Machine
end

section
/-! # Contexts, slots, and operations that touch few steps -/

namespace Sys2Proof.Machine

set_option Elab.async false

variable {b c : Blocks} {n : Nat}

/-! ## Contexts by number -/

theorem onStep_context?_of_ne {f : StepContext → StepContext} (hf : ∀ c, (f c).number = c.number) {m : Nat} (h : m ≠ n) :
    (b.onStep n f).board.context? m = b.board.context? m := by
  have hg : ∀ c : StepContext, (if c.number = n then f c else c).number = c.number := fun c => by split <;> simp [hf]
  rw [Blocks.onStep, Blocks.onBoard_board, Board.context?_map hg]
  cases hc : b.board.context? m with
  | none => rfl
  | some c => simp [Board.context?_number hc, h]

theorem onStep_context?_self {f : StepContext → StepContext} (hf : ∀ c, (f c).number = c.number) {x : StepContext}
    (h : b.board.context? n = some x) : (b.onStep n f).board.context? n = some (f x) := by
  have hg : ∀ c : StepContext, (if c.number = n then f c else c).number = c.number := fun c => by split <;> simp [hf]
  rw [Blocks.onStep, Blocks.onBoard_board, Board.context?_map hg, h]
  simp [Board.context?_number h]

/-- In a sound window a context is found by its number. -/
theorem Board.sound.context?_of_mem {d : Board} (hs : d.sound) {x : StepContext} (hx : x ∈ d.window) :
    d.context? x.number = some x := by
  obtain ⟨hsorted, -, -, -⟩ := hs
  have inj : ∀ y ∈ d.window, y.number = x.number → y = x :=
    fun y hy e => List.inj_on_of_nodup_map hsorted.nodup hy hx e
  have found : (d.window.find? fun y => decide (y.number = x.number)).isSome = true := by
    rw [List.find?_isSome]
    exact ⟨x, hx, by simp⟩
  obtain ⟨y, hy⟩ := Option.isSome_iff_exists.mp found
  have e : y.number = x.number := by simpa using List.find?_some hy
  rw [Board.context?, hy, inj y (List.mem_of_find?_eq_some hy) e]

theorem Board.sound.nodup {d : Board} (hs : d.sound) : (d.window.map StepContext.number).Nodup := by
  obtain ⟨hsorted, -, -, -⟩ := hs
  exact hsorted.nodup

theorem resolve_eq {x : StepContext} (hx : b.board.context? n = some x) (hs : x.state ≠ .resolved) (o : StepOutcome) :
    resolve n o b = (b.onStep n fun c => c.ended o).onBoard fun d =>
      { d with tallies := d.tallies.resolve o x.makeUps, reportOrder := d.reportOrder ++ [n] } := by
  unfold resolve
  rw [show b.context? n = some x from hx]
  dsimp only
  rw [if_neg hs]
  rfl

theorem resolve_context?_self {x : StepContext} (hx : b.board.context? n = some x) (hs : x.state ≠ .resolved)
    (o : StepOutcome) : (resolve n o b).board.context? n = some (x.ended o) := by
  rw [resolve_eq hx hs]
  exact onStep_context?_self (f := fun c => c.ended o) (fun _ => rfl) hx

theorem resolve_context?_of_ne {m : Nat} (h : m ≠ n) (o : StepOutcome) :
    (resolve n o b).board.context? m = b.board.context? m := by
  unfold resolve
  split
  · rfl
  · split
    · rfl
    · exact onStep_context?_of_ne (f := fun c => c.ended o) (fun _ => rfl) h

/-! ## The slot that names a step -/

/-- The slot of a pitch names step `n`, and no other slot does. -/
def Chain.namesOnly (c : Chain) (pitch n : Nat) : Prop :=
  (c.slotOf pitch).step? = some n ∧ ∀ q, q < c.slots.length → (c.slotOf q).step? = some n → q = pitch

theorem Chain.slotOf_of_le {c : Chain} {pitch : Nat} (h : c.slots.length ≤ pitch) : c.slotOf pitch = .empty := by
  simp [Chain.slotOf, h]

theorem Chain.lt_of_step? {c : Chain} {pitch : Nat} (h : (c.slotOf pitch).step? = some n) : pitch < c.slots.length := by
  by_contra out
  rw [Chain.slotOf_of_le (Nat.le_of_not_lt out)] at h
  cases h

theorem Chain.pitchOfStep_eq_some {c : Chain} {pitch : Nat} (h : c.pitchOfStep n = some pitch) :
    (c.slotOf pitch).step? = some n := by
  simpa using List.find?_some h

theorem Chain.pitchOfStep_of_namesOnly {c : Chain} {pitch : Nat} (h : c.namesOnly pitch n) :
    c.pitchOfStep n = some pitch := by
  obtain ⟨named, only⟩ := h
  have found : (c.pitchOfStep n).isSome = true := by
    rw [Chain.pitchOfStep, List.find?_isSome]
    exact ⟨pitch, List.mem_range.mpr (Chain.lt_of_step? named), by simpa using named⟩
  obtain ⟨q, hq⟩ := Option.isSome_iff_exists.mp found
  have hq' := Chain.pitchOfStep_eq_some hq
  rw [hq, only q (Chain.lt_of_step? hq') hq']

@[simp] theorem setSlot_slotOf_of_ne {p q : Nat} (t : Slot) (h : q ≠ p) :
    (b.setSlot p t).chain.slotOf q = b.chain.slotOf q := by
  simp [Blocks.setSlot, Chain.slotOf, List.getElem?_set_ne h.symm]

theorem setSlot_slotOf_self {p : Nat} (t : Slot) (h : p < b.chain.slots.length) :
    (b.setSlot p t).chain.slotOf p = t := by
  simp [Blocks.setSlot, Chain.slotOf, h]

theorem setSlot_slotOf_of_le {p : Nat} (t : Slot) (h : b.chain.slots.length ≤ p) (q : Nat) :
    (b.setSlot p t).chain.slotOf q = b.chain.slotOf q := by
  simp [Blocks.setSlot, Chain.slotOf, List.set_eq_of_length_le h]

/-- The chain but for its slots. -/
def Chain.frame (c : Chain) : Chain := { c with slots := [] }

theorem Chain.offsetOf_of_frame {c d : Chain} (h : c.frame = d.frame) (pitch : Nat) : c.offsetOf pitch = d.offsetOf pitch := by
  have hp : c.frame.pointer = d.frame.pointer := congrArg _ h
  have hl : c.frame.length = d.frame.length := congrArg _ h
  change (pitch + c.frame.length - c.frame.pointer) % c.frame.length = _
  rw [hp, hl]
  rfl

/-! ## Operations that touch few steps -/

/-- From `b` to `c` no context has changed but those of the steps in `P`, and no slot but those that name such a step; no
slot names a step that it did not name, and no proving-in-flight flag is set. -/
structure Blocks.Touches (P : Nat → Prop) (b c : Blocks) : Prop where
  outline : c.board.outline = b.board.outline
  contexts : ∀ n, ¬ P n → c.board.context? n = b.board.context? n
  frame : c.chain.frame = b.chain.frame
  length : c.chain.slots.length = b.chain.slots.length
  slots : ∀ pitch, (∀ n, (b.chain.slotOf pitch).step? = some n → ¬ P n) → c.chain.slotOf pitch = b.chain.slotOf pitch
  names : ∀ pitch n, (c.chain.slotOf pitch).step? = some n → (b.chain.slotOf pitch).step? = some n
  proving : ∀ e, (look b.source.dispensers e).proving = false → (look c.source.dispensers e).proving = false
  shaft : c.shaft = b.shaft
  planner : c.planner = b.planner
  alarm : c.alarm = b.alarm
  counters : c.counters = b.counters
  lock : c.positioner.lock = b.positioner.lock
  record : c.head.record = b.head.record
  inhibit : c.head.inhibit = b.head.inhibit

variable {P Q : Nat → Prop}

theorem Blocks.Touches.refl (P : Nat → Prop) (b : Blocks) : b.Touches P b where
  outline := rfl
  contexts _ _ := rfl
  frame := rfl
  length := rfl
  slots _ _ := rfl
  names _ _ h := h
  proving _ h := h
  shaft := rfl
  planner := rfl
  alarm := rfl
  counters := rfl
  lock := rfl
  record := rfl
  inhibit := rfl

theorem Blocks.Touches.mono (h : b.Touches P c) (hpq : ∀ n, P n → Q n) : b.Touches Q c :=
  { h with
    contexts := fun n hn => h.contexts n (mt (hpq n) hn)
    slots := fun pitch hs => h.slots pitch fun n hn => mt (hpq n) (hs n hn) }

theorem Blocks.Touches.trans {a : Blocks} (h : a.Touches P b) (h' : b.Touches P c) : a.Touches P c where
  outline := h'.outline.trans h.outline
  contexts n hn := (h'.contexts n hn).trans (h.contexts n hn)
  frame := h'.frame.trans h.frame
  length := h'.length.trans h.length
  slots pitch hs := by
    have same := h.slots pitch hs
    rw [h'.slots pitch (by rwa [same]), same]
  names pitch n hn := h.names pitch n (h'.names pitch n hn)
  proving e he := h'.proving e (h.proving e he)
  shaft := h'.shaft.trans h.shaft
  planner := h'.planner.trans h.planner
  alarm := h'.alarm.trans h.alarm
  counters := h'.counters.trans h.counters
  lock := h'.lock.trans h.lock
  record := h'.record.trans h.record
  inhibit := h'.inhibit.trans h.inhibit

/-- The slot that alone names an untouched step stays, and alone names it still. -/
theorem Blocks.Touches.slot (h : b.Touches P c) (hn : ¬ P n) {pitch : Nat} (hp : b.chain.namesOnly pitch n) :
    c.chain.slotOf pitch = b.chain.slotOf pitch ∧ c.chain.namesOnly pitch n := by
  obtain ⟨named, only⟩ := hp
  have same : c.chain.slotOf pitch = b.chain.slotOf pitch := by
    refine h.slots pitch fun m hm => ?_
    rw [named] at hm
    exact Option.some.inj hm ▸ hn
  exact ⟨same, same ▸ named, fun q hq hc => only q (h.length ▸ hq) (h.names q n hc)⟩

/-! ### One operation -/

theorem compareProfile_inhibit (h : Head) (p : Nat) : (h.compareProfile p).inhibit = h.inhibit := by
  unfold Head.compareProfile
  (repeat' split) <;> rfl

theorem applyCandidate_inhibit (n : Nat) (b : Blocks) : (applyCandidate n b).head.inhibit = b.head.inhibit := by
  unfold applyCandidate
  split
  · rfl
  · dsimp only
    split
    · rw [applyTarget_head]
    · rw [Blocks.onHead_head, applySpan_head, applyTarget_head]
      exact compareProfile_inhibit _ _

@[simp] theorem choose_inhibit (b : Blocks) : (choose b).head.inhibit = b.head.inhibit := by
  unfold choose
  dsimp only
  split
  · rw [applyCandidate_inhibit]
    rfl
  · rfl

theorem choose_touches (P : Nat → Prop) (b : Blocks) : b.Touches P (choose b) where
  outline := by simp
  contexts := by simp
  frame := by simp
  length := by simp
  slots := by simp
  names := by simp
  proving := by simp
  shaft := by simp
  planner := by simp
  alarm := by simp
  counters := by simp
  lock := by simp
  record := by simp
  inhibit := by simp

theorem onStep_touches {f : StepContext → StepContext} (hf : ∀ c, (f c).number = c.number) (hn : P n) :
    b.Touches P (b.onStep n f) :=
  { Blocks.Touches.refl P b with
    outline := onStep_outline b n hf
    contexts := fun m hm => onStep_context?_of_ne hf (by rintro rfl; exact hm hn) }

/-- A slot that names a step in `P` changed for one that names no other step. -/
theorem setSlot_touches {pitch : Nat} {t : Slot} (hn : (b.chain.slotOf pitch).step? = some n) (hp : P n)
    (ht : ∀ m, t.step? = some m → m = n) : b.Touches P (b.setSlot pitch t) := by
  have lt := Chain.lt_of_step? hn
  refine { Blocks.Touches.refl P b with length := ?_, slots := fun q hq => ?_, names := fun q m hm => ?_ }
  · simp
  · refine setSlot_slotOf_of_ne t ?_
    rintro rfl
    exact hq n hn hp
  · by_cases e : q = pitch
    · subst e
      rw [setSlot_slotOf_self t lt] at hm
      exact ht m hm ▸ hn
    · rwa [setSlot_slotOf_of_ne t e] at hm

theorem look_map_proving {m : Nat} {t : Vector Dispenser m} {d e : Nat}
    (h : (look t e).proving = false) : (look (adjust t d fun x => { x with proving := false }) e).proving = false := by
  by_cases he : d = e
  · subst he
    by_cases hd : d < m
    · simp [hd]
    · simpa [adjust, put_of_le _ _ (Nat.le_of_not_lt hd)] using h
  · simpa [look_adjust_of_ne _ _ he] using h

@[simp] theorem settleGain_dispensers (before : Source) (d : Nat) (b : Blocks) :
    (settleGain before d b).1.source.dispensers = b.source.dispensers := by
  unfold settleGain
  split <;> rfl

@[simp] theorem clearProving_dispensers (d : Nat) (b : Blocks) :
    (clearProving d b).1.source.dispensers = adjust b.source.dispensers d fun e => { e with proving := false } := by
  simp [clearProving]

theorem clearProving_proving (d : Nat) (b : Blocks) : (look (clearProving d b).1.source.dispensers d).proving = false := by
  rw [clearProving_dispensers]
  by_cases h : d < 96
  · simp [h]
  · simp [look, h, adjust, put]
    rfl

theorem clearProving_touches (P : Nat → Prop) (d : Nat) (b : Blocks) : b.Touches P (clearProving d b).1 where
  outline := by simp
  contexts := by simp
  frame := by simp
  length := by simp
  slots := by simp
  names := by simp
  proving e he := by
    rw [clearProving_dispensers]
    exact look_map_proving he
  shaft := by simp
  planner := by simp
  alarm := by simp
  counters := by simp
  lock := by simp
  record := by simp
  inhibit := by simp

theorem resolve_touches (hn : P n) (o : StepOutcome) (b : Blocks) : b.Touches P (resolve n o b) where
  outline := by simp
  contexts m hm := resolve_context?_of_ne (by rintro rfl; exact hm hn) o
  frame := by simp
  length := by simp
  slots := by simp
  names := by simp
  proving := by simp
  shaft := by simp
  planner := by simp
  alarm := by simp
  counters := by simp
  lock := by simp
  record := by simp
  inhibit := by simp

theorem undoReservation_touches (hn : P n) (b : Blocks) : b.Touches P (undoReservation n b).1 := by
  unfold undoReservation
  split
  · exact .refl P b
  · next pitch hp =>
    split
    · refine Blocks.Touches.trans ?_ (choose_touches P _)
      refine Blocks.Touches.trans ?_ (clearProving_touches P _ _)
      exact (setSlot_touches (Chain.pitchOfStep_eq_some hp) hn fun _ h => by cases h).trans (onStep_touches (fun _ => rfl) hn)
    · exact .refl P b

theorem cancelStep_touches (hn : P n) (b : Blocks) : b.Touches P (cancelStep b n) := undoReservation_touches hn b

/-! ### Operations one after another -/

section

variable {α : Type} {g : α → Blocks} {f : α → StepContext → α}

/-- Each of a list of steps changed in turn. -/
theorem foldl_touches (hf : ∀ acc x, (g acc).Touches (· = x.number) (g (f acc x))) (l : List StepContext) (acc : α) :
    (g acc).Touches (· ∈ l.map StepContext.number) (g (l.foldl f acc)) := by
  induction l generalizing acc with
  | nil => exact .refl _ _
  | cons x l ih =>
    refine ((hf acc x).mono ?_).trans ((ih (f acc x)).mono ?_)
    · rintro m rfl
      simp
    · exact fun m hm => List.mem_cons_of_mem _ hm

/-- The steps before `x` and those after it leave what is of `x` alone. -/
theorem foldl_touches_around (hf : ∀ acc x, (g acc).Touches (· = x.number) (g (f acc x))) {l : List StepContext}
    (hl : (l.map StepContext.number).Nodup) {x : StepContext} (hx : x ∈ l) (acc : α) :
    ∃ mid, (g acc).Touches (· ≠ x.number) (g mid) ∧ (g (f mid x)).Touches (· ≠ x.number) (g (l.foldl f acc)) := by
  obtain ⟨before, after, rfl⟩ := List.append_of_mem hx
  have apart : ∀ y ∈ before ++ after, y.number ≠ x.number := by
    have hl' := (List.perm_middle.map StepContext.number).nodup_iff.mp hl
    rw [List.map_cons, List.nodup_cons] at hl'
    exact fun y hy e => hl'.1 (e ▸ List.mem_map_of_mem hy)
  refine ⟨before.foldl f acc, (foldl_touches hf before acc).mono ?_, ?_⟩
  · intro m hm
    obtain ⟨y, hy, rfl⟩ := List.mem_map.mp hm
    exact apart y (List.mem_append_left _ hy)
  · rw [List.foldl_append, List.foldl_cons]
    refine (foldl_touches hf after _).mono fun m hm => ?_
    obtain ⟨y, hy, rfl⟩ := List.mem_map.mp hm
    exact apart y (List.mem_append_right _ hy)

end

end Sys2Proof.Machine
end

section
/-! # ABORT BOARD -/

namespace Sys2Proof.Machine

set_option Elab.async false

variable {b : Blocks} {n : Nat} {P : Nat → Prop}

/-! ## A reservation undone (R69) -/

theorem undoReservation_of_reserved {pitch m d : Nat} (hp : b.chain.namesOnly pitch n)
    (hs : b.chain.slotOf pitch = .reserved m d) :
    (undoReservation n b).1
      = choose (clearProving d ((b.setSlot pitch .empty).onStep n fun c => { c.requeue with source := none })).1 := by
  unfold undoReservation
  rw [Chain.pitchOfStep_of_namesOnly hp]
  dsimp only
  rw [hs]

/-- R69: the reservation that one slot holds is undone: the step is QUEUED without a source, its slot EMPTY, and its
dispenser's proving-in-flight flag clear. -/
theorem undoReservation_at {pitch m d : Nat} (hp : b.chain.namesOnly pitch n) (hs : b.chain.slotOf pitch = .reserved m d)
    {x : StepContext} (hx : b.board.context? n = some x) :
    (undoReservation n b).1.board.context? n = some { x.requeue with source := none }
      ∧ (undoReservation n b).1.chain.slotOf pitch = .empty
      ∧ (look (undoReservation n b).1.source.dispensers d).proving = false := by
  have lt := Chain.lt_of_step? hp.1
  rw [undoReservation_of_reserved hp hs]
  refine ⟨?_, ?_, ?_⟩
  · rw [choose_board, clearProving_board]
    exact onStep_context?_self (f := fun c => { c.requeue with source := none }) (fun _ => rfl) hx
  · rw [choose_chain, clearProving_chain, Blocks.onStep_chain]
    exact setSlot_slotOf_self _ lt
  · rw [choose_source]
    exact clearProving_proving _ _

/-- R69: a step whose reservation is undone, if it has one, stays unresolved with its make-ups. -/
theorem undoReservation_context? {x : StepContext} (hx : b.board.context? n = some x) (hs : x.state ≠ .resolved) :
    ∃ y, (undoReservation n b).1.board.context? n = some y ∧ y.state ≠ .resolved ∧ y.makeUps = x.makeUps := by
  unfold undoReservation
  split
  · exact ⟨x, hx, hs, rfl⟩
  · split
    · refine ⟨{ x.requeue with source := none }, ?_, nofun, rfl⟩
      dsimp only
      rw [choose_board, clearProving_board]
      exact onStep_context?_self (f := fun c => { c.requeue with source := none }) (fun _ => rfl) hx
    · exact ⟨x, hx, hs, rfl⟩

@[simp] theorem undoReservation_reportOrder (n : Nat) (b : Blocks) :
    (undoReservation n b).1.board.reportOrder = b.board.reportOrder := by
  unfold undoReservation
  (repeat' split) <;> simp [Blocks.onStep]

@[simp] theorem undoReservation_tallies (n : Nat) (b : Blocks) :
    (undoReservation n b).1.board.tallies = b.board.tallies := by
  unfold undoReservation
  (repeat' split) <;> simp [Blocks.onStep]

/-! ## The reports of several steps -/

/-- R28: what each step of a list adds to the report order and to the tallies, those that `p` names being resolved. -/
theorem foldl_reports {f : Blocks × Bool → StepContext → Blocks × Bool} {p : StepContext → Bool} {o : StepOutcome}
    (ht : ∀ (acc : Blocks × Bool) x, acc.1.Touches (· = x.number) (f acc x).1)
    (hr : ∀ (acc : Blocks × Bool) x, acc.1.board.context? x.number = some x →
      (f acc x).1.board.reportOrder = acc.1.board.reportOrder ++ (if p x then [x.number] else [])
        ∧ (f acc x).1.board.tallies = if p x then acc.1.board.tallies.resolve o x.makeUps else acc.1.board.tallies)
    (l : List StepContext) (hl : (l.map StepContext.number).Nodup) (acc : Blocks × Bool)
    (hc : ∀ x ∈ l, acc.1.board.context? x.number = some x) :
    (l.foldl f acc).1.board.reportOrder = acc.1.board.reportOrder ++ (l.filter p).map StepContext.number
      ∧ (l.foldl f acc).1.board.tallies = (l.filter p).foldl (fun t x => t.resolve o x.makeUps) acc.1.board.tallies := by
  induction l generalizing acc with
  | nil => simp
  | cons x l ih =>
    obtain ⟨fresh, nodup⟩ := List.nodup_cons.mp hl
    obtain ⟨order, tallies⟩ := hr acc x (hc x List.mem_cons_self)
    have rest : ∀ y ∈ l, (f acc x).1.board.context? y.number = some y := fun y hy => by
      rw [(ht acc x).contexts y.number fun e => fresh (e ▸ List.mem_map_of_mem hy)]
      exact hc y (List.mem_cons_of_mem _ hy)
    obtain ⟨order', tallies'⟩ := ih nodup (f acc x) rest
    rw [List.foldl_cons, order', tallies', order, tallies]
    cases hp : p x <;> simp [hp]

theorem foldl_resolve_aborted (l : List StepContext) (t : Tallies) :
    l.foldl (fun t x => t.resolve .aborted x.makeUps) t
      = { t with aborted := t.aborted + l.length, makeUps := t.makeUps + (l.map StepContext.makeUps).sum } := by
  induction l generalizing t with
  | nil => rfl
  | cons x l ih =>
    rw [List.foldl_cons, ih]
    simp [Tallies.resolve, Nat.add_assoc, Nat.add_comm 1]

/-- R28: a resolution's part in the report order and the tallies. -/
theorem resolve_reports {x : StepContext} (hx : b.board.context? n = some x) (hs : x.state ≠ .resolved) (o : StepOutcome) :
    (resolve n o b).board.reportOrder = b.board.reportOrder ++ [n]
      ∧ (resolve n o b).board.tallies = b.board.tallies.resolve o x.makeUps := by
  rw [resolve_eq hx hs]
  exact ⟨rfl, rfl⟩

/-! ## One step of an abort (R163, R164) -/

theorem orphanStep_touches (hn : P n) (b : Blocks) : b.Touches P (orphanStep n b) := by
  unfold orphanStep
  split
  · exact .refl P b
  · next pitch hp =>
    split
    · refine Blocks.Touches.trans (setSlot_touches (Chain.pitchOfStep_eq_some hp) hn fun m hm => ?_) (choose_touches P _)
      simp only [Slot.step?, Component.orphaned] at hm
      split at hm <;> cases hm
    · exact .refl P b

/-- R164: the OCCUPIED slot that alone names a step is orphaned. -/
theorem orphanStep_at {pitch : Nat} {o : Component} (hp : b.chain.namesOnly pitch n)
    (hs : b.chain.slotOf pitch = .occupied o) :
    (orphanStep n b).chain.slotOf pitch
      = .occupied (o.orphaned (decide (b.chain.gateOffset ≤ b.chain.offsetOf pitch))) := by
  have lt := Chain.lt_of_step? hp.1
  unfold orphanStep
  rw [Chain.pitchOfStep_of_namesOnly hp]
  dsimp only
  rw [hs]
  dsimp only
  rw [choose_chain]
  exact setSlot_slotOf_self _ lt

/-- R164: a step's component stands on the chain. -/
def StepContext.onChain (x : StepContext) : Bool :=
  decide (x.state = .fired) || decide (x.state = .verified) || decide (x.state = .diverting) || decide (x.state = .stripping)

theorem abortStep_of_resolved {x : StepContext} (h : x.state = .resolved) (acc : Blocks × Bool) : abortStep acc x = acc := by
  simp only [abortStep, h]

theorem abortStep_of_planned {x : StepContext} (h : x.state = .planned) (acc : Blocks × Bool) :
    (abortStep acc x).1 = resolve x.number .aborted (undoReservation x.number acc.1).1 := by
  simp only [abortStep, h]

theorem abortStep_of_onChain {x : StepContext} (h : x.onChain = true) (acc : Blocks × Bool) :
    (abortStep acc x).1 = resolve x.number .aborted (orphanStep x.number acc.1) := by
  have : x.state = .fired ∨ x.state = .verified ∨ x.state = .diverting ∨ x.state = .stripping := by
    simpa [StepContext.onChain, or_assoc] using h
  rcases this with h | h | h | h <;> simp only [abortStep, h]

theorem abortStep_of_other {x : StepContext} (hr : x.state ≠ .resolved) (hp : x.state ≠ .planned)
    (ho : x.onChain = false) (acc : Blocks × Bool) : (abortStep acc x).1 = resolve x.number .aborted acc.1 := by
  unfold abortStep
  cases h : x.state <;> simp [StepContext.onChain, h] at hr hp ho ⊢

theorem abortStep_touches (acc : Blocks × Bool) (x : StepContext) :
    acc.1.Touches (· = x.number) (abortStep acc x).1 := by
  by_cases hr : x.state = .resolved
  · rw [abortStep_of_resolved hr]
    exact .refl _ _
  · by_cases hp : x.state = .planned
    · rw [abortStep_of_planned hp]
      exact (undoReservation_touches (P := (· = x.number)) rfl _).trans
          (resolve_touches (P := (· = x.number)) rfl _ _)
    · cases ho : x.onChain
      · rw [abortStep_of_other hr hp ho]
        exact resolve_touches (P := (· = x.number)) rfl _ _
      · rw [abortStep_of_onChain ho]
        exact (orphanStep_touches (P := (· = x.number)) rfl _).trans
          (resolve_touches (P := (· = x.number)) rfl _ _)

/-- R163: the context that the abort of a step resolves, if any: its own, or the one that an undone reservation left. -/
theorem abortStep_resolves {acc : Blocks × Bool} {x : StepContext} (hx : acc.1.board.context? x.number = some x)
    (hr : x.state ≠ .resolved) :
    ∃ (c : Blocks) (y : StepContext), (abortStep acc x).1 = resolve x.number .aborted c
      ∧ c.board.context? x.number = some y ∧ y.state ≠ .resolved ∧ y.makeUps = x.makeUps
      ∧ c.board.reportOrder = acc.1.board.reportOrder ∧ c.board.tallies = acc.1.board.tallies
      ∧ (x.state ≠ .planned → y = x) := by
  by_cases hp : x.state = .planned
  · obtain ⟨y, hy, hs, hm⟩ := undoReservation_context? hx hr
    exact ⟨_, y, abortStep_of_planned hp acc, hy, hs, hm, undoReservation_reportOrder _ _, undoReservation_tallies _ _,
      fun h => absurd hp h⟩
  · cases ho : x.onChain
    · exact ⟨_, x, abortStep_of_other hr hp ho acc, hx, hr, rfl, rfl, rfl, fun _ => rfl⟩
    · refine ⟨_, x, abortStep_of_onChain ho acc, ?_, hr, rfl, ?_, ?_, fun _ => rfl⟩ <;> rw [orphanStep_board]
      exact hx

theorem abortStep_reports (acc : Blocks × Bool) (x : StepContext) (hx : acc.1.board.context? x.number = some x) :
    (abortStep acc x).1.board.reportOrder
        = acc.1.board.reportOrder ++ (if decide (x.state ≠ .resolved) then [x.number] else [])
      ∧ (abortStep acc x).1.board.tallies
        = if decide (x.state ≠ .resolved) then acc.1.board.tallies.resolve .aborted x.makeUps else acc.1.board.tallies := by
  by_cases hr : x.state = .resolved
  · simp [abortStep_of_resolved hr, hr]
  · obtain ⟨c, y, e, hy, hs, hm, order, tallies, -⟩ := abortStep_resolves hx hr
    obtain ⟨order', tallies'⟩ := resolve_reports hy hs .aborted
    simp [e, hr, order, tallies, order', tallies', hm]

/-! ## The whole board (R163) -/

/-- The steps of a board aborted, before the board is CLOSING. -/
def Blocks.aborted (b : Blocks) : Blocks := (b.board.window.foldl abortStep (b, false)).1

/-- What the abort of one step leaves of it stays to the end. -/
theorem aborted_at (hs : b.board.sound) {x : StepContext} (hx : x ∈ b.board.window) :
    ∃ mid : Blocks × Bool, b.Touches (· ≠ x.number) mid.1 ∧ mid.1.board.context? x.number = some x
      ∧ (abortStep mid x).1.Touches (· ≠ x.number) b.aborted := by
  obtain ⟨mid, before, after⟩ := foldl_touches_around (g := Prod.fst) abortStep_touches hs.nodup hx (b, false)
  exact ⟨mid, before, (before.contexts _ (not_not.mpr rfl)).trans (hs.context?_of_mem hx), after⟩

theorem aborted_context? (hs : b.board.sound) {x : StepContext} (hx : x ∈ b.board.window) :
    ∃ y, b.aborted.board.context? x.number = some y ∧ y.state = .resolved
      ∧ (x.state ≠ .planned → y = if x.state = .resolved then x else x.ended .aborted) := by
  obtain ⟨mid, -, hc, after⟩ := aborted_at hs hx
  rw [after.contexts _ (not_not.mpr rfl)]
  by_cases hr : x.state = .resolved
  · rw [abortStep_of_resolved hr]
    exact ⟨x, hc, hr, fun _ => (if_pos hr).symm⟩
  · obtain ⟨c, y, e, hy, hys, -, -, -, same⟩ := abortStep_resolves hc hr
    rw [e]
    exact ⟨_, resolve_context?_self hy hys .aborted, rfl, fun hp => by rw [if_neg hr, same hp]⟩

/-- R163: an aborted board has nothing to plan. -/
theorem aborted_nothing (hs : b.board.sound) : b.aborted.board.nothingToPlan := by
  have touched := foldl_touches (g := Prod.fst) abortStep_touches b.board.window (b, false)
  have sound : b.aborted.board.sound := Board.sound_of_outline touched.outline hs
  intro y hy
  have number : y.number ∈ b.board.window.map StepContext.number :=
    Board.numbers_of_outline touched.outline ▸ List.mem_map_of_mem hy
  obtain ⟨x, hx, e⟩ := List.mem_map.mp number
  obtain ⟨z, hz, resolved, -⟩ := aborted_context? hs hx
  rw [e, sound.context?_of_mem hy] at hz
  obtain rfl := Option.some.inj hz
  simp [resolved]

/-- R163: with no step PLANNED or on the chain, the chain, the head and the source table stay. -/
theorem aborted_stays (h : ∀ x ∈ b.board.window, x.state ≠ .planned ∧ x.onChain = false) :
    b.aborted.chain = b.chain ∧ b.aborted.head = b.head ∧ b.aborted.source = b.source := by
  have stays : ∀ (l : List StepContext) (acc : Blocks × Bool), (∀ x ∈ l, x.state ≠ .planned ∧ x.onChain = false) →
      (l.foldl abortStep acc).1.chain = acc.1.chain ∧ (l.foldl abortStep acc).1.head = acc.1.head
        ∧ (l.foldl abortStep acc).1.source = acc.1.source := by
    intro l
    induction l with
    | nil => exact fun _ _ => ⟨rfl, rfl, rfl⟩
    | cons x l ih =>
      intro acc hl
      obtain ⟨hp, ho⟩ := hl x List.mem_cons_self
      obtain ⟨chain, head, source⟩ := ih (abortStep acc x) fun y hy => hl y (List.mem_cons_of_mem _ hy)
      rw [List.foldl_cons, chain, head, source]
      by_cases hr : x.state = .resolved
      · rw [abortStep_of_resolved hr]
        exact ⟨rfl, rfl, rfl⟩
      · rw [abortStep_of_other hr hp ho]
        exact ⟨by simp, by simp, by simp⟩
  exact stays b.board.window (b, false) h

theorem aborted_slot_of_unnamed {pitch : Nat}
    (h : ∀ x ∈ b.board.window, (b.chain.slotOf pitch).step? = some x.number → x.state ≠ .planned ∧ x.onChain = false) :
    b.aborted.chain.slotOf pitch = b.chain.slotOf pitch := by
  have stays : ∀ (l : List StepContext) (acc : Blocks × Bool), acc.1.chain.slotOf pitch = b.chain.slotOf pitch →
      (∀ x ∈ l, (b.chain.slotOf pitch).step? = some x.number → x.state ≠ .planned ∧ x.onChain = false) →
      (l.foldl abortStep acc).1.chain.slotOf pitch = b.chain.slotOf pitch := by
    intro l
    induction l with
    | nil => exact fun _ hs _ => hs
    | cons x l ih =>
      intro acc hs hl
      refine ih (abortStep acc x) ?_ fun y hy => hl y (List.mem_cons_of_mem _ hy)
      by_cases named : (b.chain.slotOf pitch).step? = some x.number
      · obtain ⟨hp, ho⟩ := hl x List.mem_cons_self named
        by_cases hr : x.state = .resolved
        · rwa [abortStep_of_resolved hr]
        · rwa [abortStep_of_other hr hp ho, resolve_chain]
      · rw [(abortStep_touches acc x).slots pitch fun m hm e => named (by rw [← hs, hm, e]), hs]
  exact stays b.board.window (b, false) rfl h

theorem aborted_planned (hs : b.board.sound) {x : StepContext} (hx : x ∈ b.board.window) (hp : x.state = .planned)
    {pitch m d : Nat} (named : b.chain.namesOnly pitch x.number) (slot : b.chain.slotOf pitch = .reserved m d) :
    b.aborted.chain.slotOf pitch = .empty
      ∧ b.aborted.board.context? x.number = some { x.ended .aborted with source := none, dwell := 0 }
      ∧ (look b.aborted.source.dispensers d).proving = false := by
  obtain ⟨mid, before, hc, after⟩ := aborted_at hs hx
  obtain ⟨same, named'⟩ := before.slot (not_not.mpr rfl) named
  obtain ⟨context, empty, proving⟩ := undoReservation_at named' (same.trans slot) hc
  have ended := abortStep_of_planned hp mid
  have emptied : (abortStep mid x).1.chain.slotOf pitch = .empty := by rw [ended, resolve_chain, empty]
  refine ⟨?_, ?_, ?_⟩
  · rw [after.slots pitch fun m hm => by rw [emptied] at hm; exact nomatch hm]
    exact emptied
  · rw [after.contexts _ (not_not.mpr rfl), ended]
    exact resolve_context?_self context nofun .aborted
  · refine after.proving d ?_
    rw [ended, resolve_source, proving]

theorem aborted_onChain (hs : b.board.sound) {x : StepContext} (hx : x ∈ b.board.window) (hc : x.onChain = true)
    {pitch : Nat} {o : Component} (named : b.chain.namesOnly pitch x.number) (slot : b.chain.slotOf pitch = .occupied o) :
    b.aborted.chain.slotOf pitch = .occupied (o.orphaned (decide (b.chain.gateOffset ≤ b.chain.offsetOf pitch))) := by
  obtain ⟨mid, before, -, after⟩ := aborted_at hs hx
  obtain ⟨same, named'⟩ := before.slot (not_not.mpr rfl) named
  have gate : mid.1.chain.frame.gateOffset = b.chain.frame.gateOffset := congrArg _ before.frame
  have orphaned : (abortStep mid x).1.chain.slotOf pitch
      = .occupied (o.orphaned (decide (b.chain.gateOffset ≤ b.chain.offsetOf pitch))) := by
    rw [abortStep_of_onChain hc, resolve_chain, orphanStep_at named' (same.trans slot),
      Chain.offsetOf_of_frame before.frame]
    change Slot.occupied (o.orphaned (decide (mid.1.chain.frame.gateOffset ≤ _))) = _
    rw [gate]
    rfl
  rw [after.slots pitch fun m hm => ?_, orphaned]
  rw [orphaned] at hm
  simp only [Slot.step?, Component.orphaned] at hm
  split at hm <;> cases hm

@[simp] theorem planIf_true (b : Blocks) : planIf true b = planningEvent b := if_pos rfl

@[simp] theorem planIf_false (b : Blocks) : planIf false b = b := rfl

theorem planIf_of_nothing (h : b.board.nothingToPlan) (due : Bool) : ∃ c, planIf due b = setStopCause c b := by
  cases due
  · exact ⟨b.planner.stopCause, rfl⟩
  · rw [planIf_true]
    exact planningEvent_of_nothing h

/-- R163: the board is CLOSING, and a planning event finds nothing to plan. -/
theorem abortBoard_eq (hs : b.board.sound) : ∃ c, abortBoard b = setStopCause c (b.aborted.onBoard Board.abort) :=
  planIf_of_nothing (b := b.aborted.onBoard Board.abort) (aborted_nothing hs) (b.board.window.foldl abortStep (b, false)).2

theorem exec_abortBoard (s : State) : exec .abortBoard s = answerRow (.control 4) 2 (fun _ b =>
    if b.board.standing then .accept (abortBoard b) else .refuse .noBoard .none b) s := rfl

/-- Settles O59: the steps are aborted one by one, each touching its own context and the slots that name it. -/
theorem abortResolvesSteps : Obligations.AbortResolvesSteps := by
  intro argument rest s h
  rw [exec_abortBoard]
  refine ⟨fun none => answerControl_refuse (by decide) h (if_neg (by simp [Board.standing, none])), fun standing hs => ?_⟩
  obtain ⟨cause, ended⟩ := abortBoard_eq hs
  have touched := foldl_touches (g := Prod.fst) abortStep_touches s.blocks.board.window (s.blocks, false)
  have numbers : s.blocks.aborted.board.window.map StepContext.number = _ := Board.numbers_of_outline touched.outline
  obtain ⟨order, tallies⟩ := foldl_reports (p := fun x => decide (x.state ≠ .resolved)) abortStep_touches
    abortStep_reports s.blocks.board.window hs.nodup (s.blocks, false) fun x hx => hs.context?_of_mem hx
  refine ⟨s.taken rest (setStopCause cause (s.blocks.aborted.onBoard Board.abort)),
    answerControl_accept (by decide) h ((if_pos (by simpa [Board.standing] using standing)).trans (by rw [ended])),
    rfl, rfl, rfl, numbers, order, ?_, touched.record, touched.inhibit,
    touched.lock, touched.shaft, touched.alarm, fun none => aborted_stays none, fun x hx hp => ?_,
    fun pitch _ none => aborted_slot_of_unnamed none, ?_, ?_⟩
  · exact tallies.trans (foldl_resolve_aborted _ _)
  · obtain ⟨y, hy, -, same⟩ := aborted_context? hs hx
    exact hy.trans (congrArg some (same hp))
  · rintro pitch n e slot x hx rfl named hp
    exact aborted_planned hs hx hp named slot
  · intro pitch o slot x hx named hc
    refine (aborted_onChain hs hx hc named slot).trans ?_
    unfold Component.orphaned
    simp only [decide_eq_true_eq]

end Sys2Proof.Machine
end

section
/-! # A planning pass -/

/-! What a planning event changes, whatever it plans (R60 to R68): QUEUED steps become PLANNED on slots that were EMPTY. Stated
where the counters are quiet and NO SOURCE is of class NOTE, so that the pass itself asks for no stop. -/

namespace Sys2Proof.Machine

set_option Elab.async false

variable {a b c : Blocks}

/-- From `b` to `c` the only steps changed were QUEUED and have become PLANNED on slots that were EMPTY, and the only code
raised is NO SOURCE. -/
structure Blocks.Plans (b c : Blocks) : Prop where
  outline : c.board.outline = b.board.outline
  tallies : c.board.tallies = b.board.tallies
  reportOrder : c.board.reportOrder = b.board.reportOrder
  contexts : ∀ n, c.board.context? n = b.board.context? n
    ∨ ∃ x pitch d, b.board.context? n = some x ∧ x.state = .queued
      ∧ c.board.context? n = some { x with state := .planned, slot := some pitch, source := some d }
      ∧ (b.chain.sound → c.chain.slotOf pitch = .reserved n d)
  used : ∀ pitch, b.chain.slotOf pitch ≠ .empty → c.chain.slotOf pitch = b.chain.slotOf pitch
  sound : b.chain.sound → c.chain.sound
  lock : c.positioner.lock = b.positioner.lock
  record : c.head.record = b.head.record
  inhibit : c.head.inhibit = b.head.inhibit
  counters : c.counters = b.counters
  alarm : b.alarm.RaisedOnly c.alarm [25]

theorem Blocks.Plans.refl (b : Blocks) : b.Plans b where
  outline := rfl
  tallies := rfl
  reportOrder := rfl
  contexts _ := .inl rfl
  used _ _ := rfl
  sound h := h
  lock := rfl
  record := rfl
  inhibit := rfl
  counters := rfl
  alarm := .refl _ _

theorem Alarm.RaisedOnly.trans {x y z : Alarm} {codes : List Nat} (h : x.RaisedOnly y codes) (h' : y.RaisedOnly z codes) :
    x.RaisedOnly z codes :=
  ⟨fun code hc hn => (h'.elsewhere code hc hn).trans (h.elsewhere code hc hn),
    fun code hc => (h'.cls code hc).trans (h.cls code hc)⟩

theorem Blocks.Plans.trans (h : a.Plans b) (h' : b.Plans c) : a.Plans c where
  outline := h'.outline.trans h.outline
  tallies := h'.tallies.trans h.tallies
  reportOrder := h'.reportOrder.trans h.reportOrder
  contexts n := by
    rcases h.contexts n with same | ⟨x, pitch, d, hx, queued, planned, slot⟩
    · rcases h'.contexts n with same' | ⟨x, pitch, d, hx, queued, planned, slot⟩
      · exact .inl (same'.trans same)
      · exact .inr ⟨x, pitch, d, same ▸ hx, queued, planned, fun hs => slot (h.sound hs)⟩
    · refine .inr ⟨x, pitch, d, hx, queued, ?_, fun hs => ?_⟩
      · rcases h'.contexts n with same' | ⟨y, _, _, hy, again, -⟩
        · exact same'.trans planned
        · rw [planned] at hy
          obtain rfl := Option.some.inj hy
          cases again
      · rw [h'.used pitch (by rw [slot hs]; nofun), slot hs]
  used pitch hp := by
    have same := h.used pitch hp
    rw [h'.used pitch (by rwa [same]), same]
  sound hs := h'.sound (h.sound hs)
  lock := h'.lock.trans h.lock
  record := h'.record.trans h.record
  inhibit := h'.inhibit.trans h.inhibit
  counters := h'.counters.trans h.counters
  alarm := h.alarm.trans h'.alarm

/-! ## Changes that plan nothing -/

theorem Chain.sound_of_set {d : Chain} (pitch : Nat) (t : Slot) (h : d.sound) :
    ({ d with slots := d.slots.set pitch t } : Chain).sound := by
  unfold Chain.sound at h ⊢
  split at h
  · next loaded =>
    rw [if_pos loaded]
    simpa using h
  · next unloaded =>
    obtain ⟨slots, rest⟩ := h
    rw [if_neg unloaded]
    exact ⟨by rw [slots]; rfl, rest⟩

theorem choose_plans (b : Blocks) : b.Plans (choose b) where
  outline := by simp
  tallies := by simp
  reportOrder := by simp
  contexts := by simp
  used := by simp
  sound := by simp
  lock := by simp
  record := by simp
  inhibit := by simp
  counters := by simp
  alarm := by
    rw [choose_alarm]
    exact .refl _ _

theorem startTurning_plans (m : MachineState) (b : Blocks) : b.Plans (startTurning m b) :=
  { Blocks.Plans.refl b with }

theorem settleWaiting_plans (b : Blocks) : b.Plans (settleWaiting b) := by
  unfold settleWaiting
  split
  · split
    · exact { Blocks.Plans.refl b with }
    · split
      · exact startTurning_plans _ b
      · exact .refl b
  · exact .refl b

theorem setStopCause_plans (cause : StopCause) (b : Blocks) : b.Plans (setStopCause cause b) :=
  { Blocks.Plans.refl b with }

/-! ## One reservation (R62, R66) -/

theorem le_foldl_frontier (d : Chain) (n : Nat) :
    ∀ j, j < n → (d.slotAt j).used = true →
      j < (List.range n).foldl (fun m j => if (d.slotAt j).used then j + 1 else m) 0 := by
  induction n with
  | zero => exact fun j hj => absurd hj (by omega)
  | succ n ih =>
    intro j hj hu
    rw [List.range_succ, List.foldl_append, List.foldl_cons, List.foldl_nil]
    by_cases e : j = n
    · subst e
      rw [if_pos hu]
      exact Nat.lt_succ_self j
    · have low := ih j (by omega) hu
      split <;> omega

/-- R81: no offset from the frontier upwards is in use. -/
theorem Chain.slotAt_empty_of_frontier {d : Chain} {j : Nat} (hj : j < d.length) (hf : d.frontierPlus ≤ j) :
    d.slotAt j = .empty := by
  have unused : (d.slotAt j).used = false := by
    by_contra used
    have := le_foldl_frontier d d.length j hj (by simpa using used)
    unfold Chain.frontierPlus at hf
    omega
  cases h : d.slotAt j <;> simp [h, Slot.used] at unused ⊢

theorem Chain.sound.pitchAt_lt {d : Chain} (hs : d.sound) {j : Nat} (hj : j < d.length) : d.pitchAt j < d.slots.length := by
  unfold Chain.sound at hs
  split at hs
  · obtain ⟨length, -⟩ := hs
    rw [length]
    exact Nat.mod_lt _ (by omega)
  · obtain ⟨-, zero, -⟩ := hs
    omega

/-- R66: the window and the chain once step `n` is reserved at an EMPTY pitch. -/
theorem reserveSlot_plans {n d pitch : Nat} {x : StepContext} (hx : b.board.context? n = some x) (hq : x.state = .queued)
    (he : b.chain.slotOf pitch = .empty) (hp : b.chain.sound → pitch < b.chain.slots.length) :
    b.Plans ((b.setSlot pitch (.reserved n d)).onStep n fun c =>
      { c with state := .planned, source := some d, slot := some pitch }) :=
  { Blocks.Plans.refl b with
    outline := onStep_outline (b.setSlot pitch (.reserved n d)) n fun _ => rfl
    contexts := fun m => by
      by_cases e : m = n
      · subst e
        refine .inr ⟨x, pitch, d, hx, hq, ?_, fun hs => setSlot_slotOf_self _ (hp hs)⟩
        exact onStep_context?_self (b := b.setSlot pitch (.reserved m d))
          (f := fun c => { c with state := .planned, source := some d, slot := some pitch }) (fun _ => rfl) hx
      · exact .inl (onStep_context?_of_ne (b := b.setSlot pitch (.reserved n d))
          (f := fun c => { c with state := .planned, source := some d, slot := some pitch }) (fun _ => rfl) e)
    used := fun q hq => setSlot_slotOf_of_ne _ (by rintro rfl; exact hq he)
    sound := Chain.sound_of_set pitch _ }

theorem reserve_plans {n kind index d j : Nat} {x : StepContext} (hx : b.board.context? n = some x) (hq : x.state = .queued)
    (hj : j < b.chain.length) (hb : b.baseOffset d ≤ j) : b.Plans (reserve n kind index d j b) := by
  have empty : b.chain.slotOf (b.chain.pitchAt j) = .empty :=
    Chain.slotAt_empty_of_frontier hj ((le_max_left _ _).trans hb)
  have slot := reserveSlot_plans (d := d) hx hq empty fun hs => hs.pitchAt_lt hj
  simp only [reserve]
  refine Blocks.Plans.trans ?_ (settleWaiting_plans _)
  refine Blocks.Plans.trans ?_ (choose_plans _)
  split
  · exact { slot with }
  · exact { slot with }

theorem reserve_context?_of_ne {n kind index d j m : Nat} (h : m ≠ n) :
    (reserve n kind index d j b).board.context? m = b.board.context? m := by
  have kept := onStep_context?_of_ne (b := b.setSlot (b.chain.pitchAt j) (.reserved n d))
    (f := fun c => { c with state := .planned, source := some d, slot := some (b.chain.pitchAt j) }) (fun _ => rfl) h
  simp only [reserve]
  split <;> rw [settleWaiting_board, choose_board] <;> exact kept

/-- R62, R63: the offset chosen lies on the chain, at the base offset or above. -/
theorem Blocks.offsetFor_eq_some {d j : Nat} (h : b.offsetFor d = some j) : j < b.chain.length ∧ b.baseOffset d ≤ j := by
  have hp := List.find?_some h
  simp only [Bool.and_eq_true, decide_eq_true_eq] at hp
  exact ⟨List.mem_range.mp (List.mem_of_find?_eq_some h), hp.1⟩

theorem breakTie_mem {mode : Selection} {u : Nat} {l : List (Nat × Nat)} {p : Nat × Nat} (h : breakTie mode u l = some p) :
    p ∈ l := by
  have fold : ∀ (better : Nat × Nat → Nat × Nat → Prop) [∀ x y, Decidable (better x y)] (l : List (Nat × Nat))
      (best : Option (Nat × Nat)) (p : Nat × Nat),
      l.foldl (fun best c => match best with
        | none => some c
        | some d => if better c d then some c else best) best = some p → p ∈ l ∨ best = some p := by
    intro better _ l
    induction l with
    | nil => exact fun best p h => .inr h
    | cons x l ih =>
      intro best p h
      rcases ih _ p h with hl | hb
      · exact .inl (List.mem_cons_of_mem _ hl)
      · cases best with
        | none =>
          obtain rfl := Option.some.inj hb
          exact .inl List.mem_cons_self
        | some q =>
          dsimp only at hb
          split at hb
          · obtain rfl := Option.some.inj hb
            exact .inl List.mem_cons_self
          · exact .inr hb
  cases mode with
  | fill => exact (fold (fun c d => c.1 < d.1) l none p h).resolve_right nofun
  | spread => exact (fold (fun c d => spreadRank u c.1 < spreadRank u d.1) l none p h).resolve_right nofun

theorem Blocks.choice_eq_some {k : Kind} {u : Nat} {p : Nat × Nat × Nat} (h : b.choice k u = some p) :
    b.offsetFor p.2.1 = some p.2.2 := by
  unfold Blocks.choice at h
  dsimp only at h
  split at h
  · cases h
  · next j hj =>
    obtain ⟨q, hq, rfl⟩ := Option.map_eq_some_iff.mp h
    obtain ⟨⟨r, i⟩, hr, rfl⟩ := List.mem_map.mp (breakTie_mem hq)
    simp only [List.mem_filter, List.mem_filterMap, Option.map_eq_some_iff, decide_eq_true_eq] at hr
    obtain ⟨⟨r', -, i', hi, e⟩, rfl⟩ := hr
    cases e
    exact hi

/-! ## The pass (R60, R61, R67) -/

theorem stopNoSource_plans (n kind : Nat) (hq : b.counters.quiet) (hn : (look b.alarm.codes 25).cls = .note) :
    b.Plans (stopNoSource n kind b) := by
  simp only [stopNoSource]
  split
  · exact setStopCause_plans _ b
  · rw [occur_note (b := (setStopCause .noSource b).onSource _) hq hn]
    exact { Blocks.Plans.refl b with alarm := (Alarm.RaisedOnly.refl b.alarm [25]).occur (by simp) _ }

theorem planPass_plans (l : List Nat) (hl : l.Nodup) (b : Blocks) (hq : b.counters.quiet)
    (hn : (look b.alarm.codes 25).cls = .note)
    (hs : ∀ n ∈ l, ∀ x, b.board.context? n = some x → x.state = .queued) : b.Plans (planPass l b) := by
  induction l generalizing b with
  | nil => exact setStopCause_plans _ b
  | cons n rest ih =>
    obtain ⟨fresh, nodup⟩ := List.nodup_cons.mp hl
    have hrest : ∀ m ∈ rest, ∀ x, b.board.context? m = some x → x.state = .queued :=
      fun m hm => hs m (List.mem_cons_of_mem _ hm)
    unfold planPass
    split
    · exact ih nodup b hq hn hrest
    · next x hx =>
      split
      · exact stopNoSource_plans n x.kind hq hn
      · next k _ =>
        split
        · exact stopNoSource_plans n x.kind hq hn
        · split
          · exact setStopCause_plans _ b
          · next choice hc =>
            obtain ⟨hj, hb⟩ := Blocks.offsetFor_eq_some (Blocks.choice_eq_some hc)
            have reserved := reserve_plans (kind := x.kind) (index := choice.1) hx (hs n List.mem_cons_self x hx) hj hb
            refine reserved.trans (ih nodup _ ?_ ?_ ?_)
            · rw [reserved.counters]
              exact hq
            · rw [reserved.alarm.cls 25 (by simp)]
              exact hn
            · intro m hm y hy
              have ne : m ≠ n := by rintro rfl; exact fresh hm
              refine hrest m hm y ?_
              rwa [reserve_context?_of_ne ne] at hy

/-- The queue view holds QUEUED steps, each once. -/
theorem Board.sound.queue {d : Board} (hs : d.sound) :
    d.queue.Nodup ∧ ∀ n ∈ d.queue, ∀ x, d.context? n = some x → x.state = .queued := by
  refine ⟨hs.nodup.sublist (List.filter_sublist.map _), fun n hn x hx => ?_⟩
  obtain ⟨y, hy, rfl⟩ := List.mem_map.mp hn
  obtain ⟨hw, queued⟩ := List.mem_filter.mp hy
  rw [hs.context?_of_mem hw] at hx
  exact Option.some.inj hx ▸ of_decide_eq_true queued

/-- R59, R60: a planning event. -/
theorem planningEvent_plans (hs : b.board.sound) (hq : b.counters.quiet) (hn : (look b.alarm.codes 25).cls = .note) :
    b.Plans (planningEvent b) := by
  unfold planningEvent
  split
  · exact setStopCause_plans _ b
  · exact planPass_plans _ hs.queue.1 b hq hn hs.queue.2

theorem planIf_plans (due : Bool) (hs : b.board.sound) (hq : b.counters.quiet) (hn : (look b.alarm.codes 25).cls = .note) :
    b.Plans (planIf due b) := by
  cases due
  · exact .refl b
  · rw [planIf_true]
    exact planningEvent_plans hs hq hn

/-- R60: a planning event that is blocked sets the stop cause. -/
theorem planningEvent_of_plansNothing (h : b.plansNothing) : ∃ cause, planningEvent b = setStopCause cause b := by
  have blocked : ∃ cause, b.blockedBy = some cause := by
    unfold Blocks.blockedBy
    split
    · exact ⟨_, rfl⟩
    · next low =>
      split
      · exact ⟨_, rfl⟩
      · next moving =>
        rw [if_pos]
        · exact ⟨_, rfl⟩
        · rcases h with h | h | h | h | h
          · exact absurd h low
          · exact absurd (.inl h) moving
          · exact absurd (.inr (.inl h)) moving
          · exact absurd (.inr (.inr h)) moving
          · exact h
  obtain ⟨cause, e⟩ := blocked
  exact ⟨cause, planningEvent_of_blocked e⟩

theorem planIf_of_plansNothing (h : b.plansNothing) (due : Bool) : ∃ cause, planIf due b = setStopCause cause b := by
  cases due
  · exact ⟨b.planner.stopCause, rfl⟩
  · rw [planIf_true]
    exact planningEvent_of_plansNothing h

end Sys2Proof.Machine
end

section
/-! # BAD IMAGE -/

namespace Sys2Proof.Machine

set_option Elab.async false

variable {b : Blocks} {n : Nat} {P : Nat → Prop} {x : StepContext}

/-! ## Reservations cancelled from a step on (R70) -/

@[simp] theorem cancelFrom_reportOrder (k : Nat) (b : Blocks) : (cancelFrom k b).board.reportOrder = b.board.reportOrder :=
  foldl_leaves (fun b => b.board.reportOrder) cancelStep (fun b n => undoReservation_reportOrder n b) _ b

@[simp] theorem cancelFrom_tallies (k : Nat) (b : Blocks) : (cancelFrom k b).board.tallies = b.board.tallies :=
  foldl_leaves (fun b => b.board.tallies) cancelStep (fun b n => undoReservation_tallies n b) _ b

/-- The contexts of the PLANNED steps numbered `k` or above. -/
def Board.plannedContexts (d : Board) (k : Nat) : List StepContext :=
  d.window.filter fun c => decide (c.state = .planned) && decide (k ≤ c.number)

theorem cancelFrom_eq (k : Nat) (b : Blocks) :
    cancelFrom k b = (b.board.plannedContexts k).foldl (fun b x => cancelStep b x.number) b := by
  rw [cancelFrom, Board.plannedFrom, List.foldl_map]
  rfl

theorem cancelFrom_touches (k : Nat) (b : Blocks) :
    b.Touches (· ∈ (b.board.plannedContexts k).map StepContext.number) (cancelFrom k b) := by
  rw [cancelFrom_eq]
  exact foldl_touches (g := fun b => b) (fun b _ => cancelStep_touches (P := (· = _)) rfl b) _ b

/-- A step that is not PLANNED is none of those cancelled. -/
theorem Board.sound.not_mem_plannedContexts {d : Board} (hs : d.sound) (hx : d.context? n = some x) {k : Nat}
    (h : x.state = .planned → ¬ k ≤ n) : n ∉ (d.plannedContexts k).map StepContext.number := by
  intro hn
  obtain ⟨y, hy, rfl⟩ := List.mem_map.mp hn
  obtain ⟨hw, hp⟩ := List.mem_filter.mp hy
  rw [hs.context?_of_mem hw] at hx
  obtain rfl := Option.some.inj hx
  simp only [Bool.and_eq_true, decide_eq_true_eq] at hp
  exact h hp.1 hp.2

/-- R70: a PLANNED step whose reservation one slot holds is QUEUED again. -/
theorem cancelFrom_at (hs : b.board.sound) (hx : b.board.context? n = some x) (hp : x.state = .planned) {k : Nat}
    (hk : k ≤ n) {pitch m d : Nat} (named : b.chain.namesOnly pitch n) (slot : b.chain.slotOf pitch = .reserved m d) :
    (cancelFrom k b).board.context? n = some { x.requeue with source := none }
      ∧ (cancelFrom k b).chain.slotOf pitch = .empty := by
  obtain rfl := Board.context?_number hx
  have listed : x ∈ b.board.plannedContexts k :=
    List.mem_filter.mpr ⟨List.mem_of_find?_eq_some hx, by simp [hp, hk]⟩
  have nodup : ((b.board.plannedContexts k).map StepContext.number).Nodup := hs.nodup.sublist (List.filter_sublist.map _)
  obtain ⟨mid, before, after⟩ := foldl_touches_around (g := fun b => b)
    (fun b _ => cancelStep_touches (P := (· = _)) rfl b) nodup listed b
  rw [← cancelFrom_eq] at after
  obtain ⟨same, named'⟩ := before.slot (not_not.mpr rfl) named
  obtain ⟨context, empty, -⟩ := undoReservation_at named' (same.trans slot)
    ((before.contexts _ (not_not.mpr rfl)).trans hx)
  refine ⟨(after.contexts _ (not_not.mpr rfl)).trans context, ?_⟩
  have emptied : (cancelStep mid x.number).chain.slotOf pitch = .empty := empty
  rw [after.slots pitch fun m hm => by rw [emptied] at hm; exact nomatch hm]
  exact emptied

/-! ## One step of the image (R30, R31) -/

theorem flagBadImage_touches (hn : P n) (b : Blocks) : b.Touches P (flagBadImage n b) := onStep_touches (fun _ => rfl) hn

theorem flagBadImage_context? (hx : b.board.context? n = some x) :
    (flagBadImage n b).board.context? n = some { x with badImage := true } :=
  onStep_context?_self (f := fun c => { c with badImage := true }) (fun _ => rfl) hx

theorem resolveBadImage_touches (hn : P n) (b : Blocks) : b.Touches P (resolveBadImage n b) :=
  (flagBadImage_touches hn b).trans (resolve_touches hn _ _)

theorem resolveBadImage_context? (hx : b.board.context? n = some x) (hs : x.state ≠ .resolved) :
    (resolveBadImage n b).board.context? n = some ({ x with badImage := true }.ended .skippedBadImage) :=
  resolve_context?_self (flagBadImage_context? hx) hs _

theorem deselect_touches (hn : P n) (b : Blocks) : b.Touches P (deselect n b) := by
  unfold deselect
  split
  · exact .refl P b
  · next pitch hp =>
    split
    · next o ho =>
      split
      · refine Blocks.Touches.trans ?_ (choose_touches P _)
        refine (setSlot_touches (Chain.pitchOfStep_eq_some hp) hn fun m hm => ?_).trans (onStep_touches (fun _ => rfl) hn)
        have was := Chain.pitchOfStep_eq_some hp
        rw [ho] at was
        exact Option.some.inj (hm.symm.trans was)
      · exact .refl P b
    · exact .refl P b

/-- R31: the component before the gate is deselected. -/
theorem deselect_before {pitch : Nat} {o : Component} (hp : b.chain.namesOnly pitch n)
    (hs : b.chain.slotOf pitch = .occupied o) (hx : b.board.context? n = some x) (hg : b.chain.beforeGate pitch = true) :
    (deselect n b).chain.slotOf pitch = .occupied { o with disposition := .divert, reason := some .deselected }
      ∧ (deselect n b).board.context? n = some { x with state := .diverting } := by
  have lt := Chain.lt_of_step? hp.1
  unfold deselect
  rw [Chain.pitchOfStep_of_namesOnly hp]
  dsimp only
  rw [hs]
  dsimp only
  rw [if_pos hg, choose_chain, choose_board]
  exact ⟨setSlot_slotOf_self _ lt,
    onStep_context?_self (b := b.setSlot pitch _) (f := fun c => { c with state := .diverting }) (fun _ => rfl) hx⟩

/-- R31: past the gate it stays. -/
theorem deselect_past {pitch : Nat} (hp : b.chain.namesOnly pitch n) (hg : b.chain.beforeGate pitch = false) :
    deselect n b = b := by
  unfold deselect
  rw [Chain.pitchOfStep_of_namesOnly hp]
  dsimp only
  split
  · rw [hg, if_neg Bool.false_ne_true]
  · rfl

theorem Chain.beforeGate_of_frame {c d : Chain} (h : c.frame = d.frame) (pitch : Nat) :
    c.beforeGate pitch = d.beforeGate pitch := by
  have gate : c.frame.gateOffset = d.frame.gateOffset := congrArg _ h
  have done : c.frame.gateDone = d.frame.gateDone := congrArg _ h
  rw [Chain.beforeGate, Chain.beforeGate, Chain.offsetOf_of_frame h]
  change (decide (c.frame.gateOffset < _) || (decide (_ = c.frame.gateOffset) && !c.frame.gateDone)) = _
  rw [gate, done]
  rfl

/-- The states whose component a BAD IMAGE deselects (R31). -/
def StepContext.carried (x : StepContext) : Prop := x.state = .fired ∨ x.state = .verified ∨ x.state = .diverting

/-- The states in which a step gets the BAD-IMAGE flag alone (R31). -/
def StepContext.flaggedOnly (x : StepContext) : Prop :=
  x.state = .stripping ∨ x.state = .inserting ∨ x.state = .uncertain

theorem dropStep_of_queued (h : x.state = .queued) (acc : Blocks × Bool) :
    (dropStep acc x).1 = resolveBadImage x.number acc.1 := by simp only [dropStep, h]

theorem dropStep_of_planned (h : x.state = .planned) (acc : Blocks × Bool) :
    (dropStep acc x).1 = resolveBadImage x.number (undoReservation x.number acc.1).1 := by
  simp only [dropStep, h, cancelStep]

theorem dropStep_of_carried (h : x.carried) (acc : Blocks × Bool) :
    dropStep acc x = (deselect x.number (flagBadImage x.number acc.1), acc.2) := by
  rcases h with h | h | h <;> simp only [dropStep, h]

theorem dropStep_of_flaggedOnly (h : x.flaggedOnly) (acc : Blocks × Bool) :
    dropStep acc x = (flagBadImage x.number acc.1, acc.2) := by
  rcases h with h | h | h <;> simp only [dropStep, h]

theorem dropStep_of_resolved (h : x.state = .resolved) (acc : Blocks × Bool) : dropStep acc x = acc := by
  simp only [dropStep, h]

theorem StepContext.drop_cases (x : StepContext) :
    x.state = .queued ∨ x.state = .planned ∨ x.carried ∨ x.flaggedOnly ∨ x.state = .resolved := by
  unfold StepContext.carried StepContext.flaggedOnly
  cases x.state <;> simp

theorem dropStep_touches (acc : Blocks × Bool) (x : StepContext) : acc.1.Touches (· = x.number) (dropStep acc x).1 := by
  rcases x.drop_cases with h | h | h | h | h
  · rw [dropStep_of_queued h]
    exact resolveBadImage_touches (P := (· = x.number)) rfl _
  · rw [dropStep_of_planned h]
    exact (undoReservation_touches (P := (· = x.number)) rfl _).trans
      (resolveBadImage_touches (P := (· = x.number)) rfl _)
  · rw [dropStep_of_carried h]
    exact (flagBadImage_touches (P := (· = x.number)) rfl _).trans (deselect_touches (P := (· = x.number)) rfl _)
  · rw [dropStep_of_flaggedOnly h]
    exact flagBadImage_touches (P := (· = x.number)) rfl _
  · rw [dropStep_of_resolved h]
    exact .refl _ _

/-- R30: a step that a BAD IMAGE resolves. -/
def StepContext.dropped (x : StepContext) : Bool := decide (x.state = .queued) || decide (x.state = .planned)

theorem resolveBadImage_reports (hx : b.board.context? n = some x) (hs : x.state ≠ .resolved) :
    (resolveBadImage n b).board.reportOrder = b.board.reportOrder ++ [n]
      ∧ (resolveBadImage n b).board.tallies = b.board.tallies.resolve .skippedBadImage x.makeUps :=
  resolve_reports (flagBadImage_context? hx) hs _

theorem deselect_reports (n : Nat) (b : Blocks) : (deselect n b).board.reportOrder = b.board.reportOrder
    ∧ (deselect n b).board.tallies = b.board.tallies := by
  unfold deselect
  split
  · exact ⟨rfl, rfl⟩
  · split
    · split
      · simp only [choose_board]
        exact ⟨rfl, rfl⟩
      · exact ⟨rfl, rfl⟩
    · exact ⟨rfl, rfl⟩

theorem dropStep_reports (acc : Blocks × Bool) (x : StepContext) (hx : acc.1.board.context? x.number = some x) :
    (dropStep acc x).1.board.reportOrder = acc.1.board.reportOrder ++ (if x.dropped then [x.number] else [])
      ∧ (dropStep acc x).1.board.tallies
        = if x.dropped then acc.1.board.tallies.resolve .skippedBadImage x.makeUps else acc.1.board.tallies := by
  rcases x.drop_cases with h | h | h | h | h
  · have dropped : x.dropped = true := by simp [StepContext.dropped, h]
    rw [dropStep_of_queued h, dropped]
    exact resolveBadImage_reports hx (by simp [h])
  · have dropped : x.dropped = true := by simp [StepContext.dropped, h]
    obtain ⟨y, hy, hs, hm⟩ := undoReservation_context? hx (by simp [h])
    obtain ⟨order, tallies⟩ := resolveBadImage_reports hy hs
    rw [dropStep_of_planned h, dropped, order, tallies, hm, undoReservation_reportOrder, undoReservation_tallies]
    exact ⟨rfl, rfl⟩
  · have kept : x.dropped = false := by rcases h with h | h | h <;> simp [StepContext.dropped, h]
    obtain ⟨order, tallies⟩ := deselect_reports x.number (flagBadImage x.number acc.1)
    rw [dropStep_of_carried h, kept, order, tallies]
    exact ⟨(List.append_nil _).symm, rfl⟩
  · have kept : x.dropped = false := by rcases h with h | h | h <;> simp [StepContext.dropped, h]
    rw [dropStep_of_flaggedOnly h, kept]
    exact ⟨(List.append_nil _).symm, rfl⟩
  · have kept : x.dropped = false := by simp [StepContext.dropped, h]
    rw [dropStep_of_resolved h, kept]
    exact ⟨(List.append_nil _).symm, rfl⟩

theorem foldl_resolve_skipped (l : List StepContext) (t : Tallies) :
    l.foldl (fun t x => t.resolve .skippedBadImage x.makeUps) t
      = { t with skipped := t.skipped + l.length, makeUps := t.makeUps + (l.map StepContext.makeUps).sum } := by
  induction l generalizing t with
  | nil => rfl
  | cons x l ih =>
    rw [List.foldl_cons, ih]
    simp [Tallies.resolve, Nat.add_assoc, Nat.add_comm 1]

/-! ## The steps of the image together (R30, R31) -/

/-- The steps of an image. -/
def Board.ofImage (d : Board) (image : Nat) : List StepContext := d.window.filter fun c => decide (c.image = image)

/-- The steps of the image dropped, before anything is replanned. -/
def Blocks.dropped (b : Blocks) (image : Nat) : Blocks := ((b.board.ofImage image).foldl dropStep (b, false)).1

section

variable {image : Nat} (hs : b.board.sound)

include hs

theorem Board.sound.ofImage_nodup : ((b.board.ofImage image).map StepContext.number).Nodup :=
  hs.nodup.sublist (List.filter_sublist.map _)

/-- A step of another image is none of those dropped. -/
theorem Board.sound.not_mem_ofImage (hx : x ∈ b.board.window) (hi : x.image ≠ image) :
    x.number ∉ (b.board.ofImage image).map StepContext.number := by
  intro hn
  obtain ⟨y, hy, e⟩ := List.mem_map.mp hn
  obtain ⟨hw, h⟩ := List.mem_filter.mp hy
  obtain rfl := List.inj_on_of_nodup_map hs.nodup hw hx e
  exact hi (of_decide_eq_true h)

omit hs in
theorem dropped_touches (b : Blocks) (image : Nat) :
    b.Touches (· ∈ (b.board.ofImage image).map StepContext.number) (b.dropped image) :=
  foldl_touches (g := Prod.fst) dropStep_touches _ (b, false)

/-- What the drop of one step leaves of it stays to the end. -/
theorem dropped_at (hx : x ∈ b.board.window) (hi : x.image = image) :
    ∃ mid : Blocks × Bool, b.Touches (· ≠ x.number) mid.1 ∧ mid.1.board.context? x.number = some x
      ∧ (dropStep mid x).1.Touches (· ≠ x.number) (b.dropped image) := by
  have listed : x ∈ b.board.ofImage image := List.mem_filter.mpr ⟨hx, by simpa using hi⟩
  obtain ⟨mid, before, after⟩ := foldl_touches_around (g := Prod.fst) dropStep_touches hs.ofImage_nodup listed (b, false)
  exact ⟨mid, before, (before.contexts _ (not_not.mpr rfl)).trans (hs.context?_of_mem hx), after⟩

theorem dropped_reports :
    (b.dropped image).board.reportOrder
        = b.board.reportOrder ++ ((b.board.ofImage image).filter StepContext.dropped).map StepContext.number
      ∧ (b.dropped image).board.tallies = { b.board.tallies with
          skipped := b.board.tallies.skipped + ((b.board.ofImage image).filter StepContext.dropped).length
          makeUps := b.board.tallies.makeUps
            + (((b.board.ofImage image).filter StepContext.dropped).map StepContext.makeUps).sum } := by
  obtain ⟨order, tallies⟩ := foldl_reports dropStep_touches dropStep_reports (b.board.ofImage image) hs.ofImage_nodup
    (b, false) fun y hy => hs.context?_of_mem (List.mem_of_mem_filter hy)
  exact ⟨order, tallies.trans (foldl_resolve_skipped _ _)⟩

theorem dropped_queued (hx : x ∈ b.board.window) (hi : x.image = image) (hq : x.state = .queued) :
    (b.dropped image).board.context? x.number = some ({ x with badImage := true }.ended .skippedBadImage) := by
  obtain ⟨mid, -, hc, after⟩ := dropped_at hs hx hi
  rw [after.contexts _ (not_not.mpr rfl), dropStep_of_queued hq]
  exact resolveBadImage_context? hc (by simp [hq])

theorem dropped_planned (hx : x ∈ b.board.window) (hi : x.image = image) (hp : x.state = .planned) {pitch m d : Nat}
    (named : b.chain.namesOnly pitch x.number) (slot : b.chain.slotOf pitch = .reserved m d) :
    (b.dropped image).board.context? x.number
        = some { { x with badImage := true }.ended .skippedBadImage with source := none, dwell := 0 }
      ∧ (b.dropped image).chain.slotOf pitch = .empty
      ∧ (look (b.dropped image).source.dispensers d).proving = false := by
  obtain ⟨mid, before, hc, after⟩ := dropped_at hs hx hi
  obtain ⟨same, named'⟩ := before.slot (not_not.mpr rfl) named
  obtain ⟨context, empty, proving⟩ := undoReservation_at named' (same.trans slot) hc
  have emptied : (dropStep mid x).1.chain.slotOf pitch = .empty := by
    rw [dropStep_of_planned hp, resolveBadImage, resolve_chain, Blocks.onStep_chain]
    exact empty
  refine ⟨?_, ?_, ?_⟩
  · rw [after.contexts _ (not_not.mpr rfl), dropStep_of_planned hp]
    exact resolveBadImage_context? context nofun
  · rw [after.slots pitch fun m hm => by rw [emptied] at hm; exact nomatch hm]
    exact emptied
  · refine after.proving d ?_
    rw [dropStep_of_planned hp, resolveBadImage, resolve_source, Blocks.onStep_source]
    exact proving

theorem dropped_flaggedOnly (hx : x ∈ b.board.window) (hi : x.image = image) (h : x.flaggedOnly) :
    (b.dropped image).board.context? x.number = some { x with badImage := true } := by
  obtain ⟨mid, -, hc, after⟩ := dropped_at hs hx hi
  rw [after.contexts _ (not_not.mpr rfl), dropStep_of_flaggedOnly h]
  exact flagBadImage_context? hc

theorem dropped_resolved (hx : x ∈ b.board.window) (hi : x.image = image) (h : x.state = .resolved) :
    (b.dropped image).board.context? x.number = some x := by
  obtain ⟨mid, -, hc, after⟩ := dropped_at hs hx hi
  rw [after.contexts _ (not_not.mpr rfl), dropStep_of_resolved h]
  exact hc

theorem dropped_before (hx : x ∈ b.board.window) (hi : x.image = image) (h : x.carried) {pitch : Nat} {o : Component}
    (named : b.chain.namesOnly pitch x.number) (slot : b.chain.slotOf pitch = .occupied o)
    (hg : b.chain.beforeGate pitch = true) :
    (b.dropped image).chain.slotOf pitch = .occupied { o with disposition := .divert, reason := some .deselected }
      ∧ (b.dropped image).board.context? x.number = some { x with badImage := true, state := .diverting } := by
  obtain ⟨mid, before, hc, after⟩ := dropped_at hs hx hi
  obtain ⟨same, named'⟩ := before.slot (not_not.mpr rfl) named
  have gate : (flagBadImage x.number mid.1).chain.beforeGate pitch = true :=
    (Chain.beforeGate_of_frame before.frame pitch).trans hg
  obtain ⟨turned, context⟩ := deselect_before (b := flagBadImage x.number mid.1) named' (same.trans slot)
    (flagBadImage_context? hc) gate
  have e := congrArg Prod.fst (dropStep_of_carried h mid)
  have only : (dropStep mid x).1.chain.slotOf pitch
      = .occupied { o with disposition := .divert, reason := some .deselected } := by
    rw [e]
    exact turned
  refine ⟨?_, ?_⟩
  · rw [after.slots pitch fun m hm => ?_]
    · exact only
    · rw [only] at hm
      have was : o.step = some x.number := by
        have := named.1
        rwa [slot] at this
      exact not_not.mpr (Option.some.inj (hm.symm.trans was))
  · rw [after.contexts _ (not_not.mpr rfl), e]
    exact context

theorem dropped_past (hx : x ∈ b.board.window) (hi : x.image = image) (h : x.carried) {pitch : Nat}
    (named : b.chain.namesOnly pitch x.number) (hg : b.chain.beforeGate pitch = false) :
    (b.dropped image).chain.slotOf pitch = b.chain.slotOf pitch
      ∧ (b.dropped image).board.context? x.number = some { x with badImage := true } := by
  obtain ⟨mid, before, hc, after⟩ := dropped_at hs hx hi
  obtain ⟨same, named'⟩ := before.slot (not_not.mpr rfl) named
  have past : deselect x.number (flagBadImage x.number mid.1) = flagBadImage x.number mid.1 :=
    deselect_past (b := flagBadImage x.number mid.1) named' ((Chain.beforeGate_of_frame before.frame pitch).trans hg)
  have e : (dropStep mid x).1 = flagBadImage x.number mid.1 := (congrArg Prod.fst (dropStep_of_carried h mid)).trans past
  have only : (dropStep mid x).1.chain.namesOnly pitch x.number := by
    rw [e]
    exact named'
  refine ⟨?_, ?_⟩
  · rw [(after.slot (not_not.mpr rfl) only).1, e]
    exact same
  · rw [after.contexts _ (not_not.mpr rfl), e]
    exact flagBadImage_context? hc

end

end Sys2Proof.Machine
end

section
/-! # BAD IMAGE at the board manager -/

namespace Sys2Proof.Machine

set_option Elab.async false

variable {b : Blocks} {x : StepContext} {image : Nat}

/-! ## The replan that follows (R70) -/

/-- The lowest PLANNED step of the image. -/
def Board.lowestPlanned (d : Board) (image : Nat) : Option Nat :=
  ((d.ofImage image).filter fun c => decide (c.state = .planned)).head?.map StepContext.number

/-- The blocks after a BAD IMAGE, before the planning event. -/
def Blocks.badImaged (b : Blocks) (image : Nat) : Blocks :=
  match b.board.lowestPlanned image with
  | some k => cancelFrom k (b.dropped image)
  | none => b.dropped image

/-- A step dropped makes a planning event due. -/
def Blocks.dropDue (b : Blocks) (image : Nat) : Bool := ((b.board.ofImage image).foldl dropStep (b, false)).2

theorem dropImage_eq (hf : b.planner.freeze = false) (image : Nat) :
    dropImage image b = (b.badImaged image, b.dropDue image) := by
  have kept : (b.dropped image).planner.freeze = false := by rw [(dropped_touches b image).planner, hf]
  have purged : settlePurge (b.dropped image) = (b.dropped image, false) := if_neg (by simp [kept])
  unfold dropImage
  dsimp only
  rw [show ((b.board.window.filter fun c => decide (c.image = image)).foldl dropStep (b, false)).1 = b.dropped image from rfl,
    purged]
  exact Prod.ext rfl (Bool.or_false _)

/-- A step below every PLANNED step of the image is none of those replanned. -/
theorem Board.sound.lowestPlanned_le (hs : b.board.sound) {k : Nat} (hk : b.board.lowestPlanned image = some k) :
    (∃ e ∈ b.board.window, e.image = image ∧ e.state = .planned ∧ e.number = k)
      ∧ ∀ f ∈ b.board.window, f.image = image → f.state = .planned → k ≤ f.number := by
  obtain ⟨e, he, rfl⟩ := Option.map_eq_some_iff.mp hk
  obtain ⟨rest, list⟩ := List.head?_eq_some_iff.mp he
  have mem : e ∈ (b.board.ofImage image).filter fun c => decide (c.state = .planned) := by rw [list]; exact List.mem_cons_self
  obtain ⟨hi, hp⟩ := List.mem_filter.mp mem
  obtain ⟨hw, hi⟩ := List.mem_filter.mp hi
  refine ⟨⟨e, hw, of_decide_eq_true hi, of_decide_eq_true hp, rfl⟩, fun f hf fi fp => ?_⟩
  have sorted : ((b.board.ofImage image).filter fun c => decide (c.state = .planned)).Pairwise (·.number < ·.number) := by
    obtain ⟨hsorted, -, -, -⟩ := hs
    exact (List.pairwise_map.mp hsorted).sublist (List.filter_sublist.trans List.filter_sublist)
  have listed : f ∈ (b.board.ofImage image).filter fun c => decide (c.state = .planned) :=
    List.mem_filter.mpr ⟨List.mem_filter.mpr ⟨hf, by simpa using fi⟩, by simpa using fp⟩
  rw [list] at sorted listed
  rcases List.mem_cons.mp listed with rfl | later
  · exact le_rfl
  · exact (List.rel_of_pairwise_cons sorted later).le

theorem Board.sound.lowestPlanned_isSome {f : StepContext} (hf : f ∈ b.board.window) (fi : f.image = image)
    (fp : f.state = .planned) : (b.board.lowestPlanned image).isSome = true := by
  rw [Board.lowestPlanned, Option.isSome_map, List.isSome_head?]
  exact List.ne_nil_of_mem (List.mem_filter.mpr ⟨List.mem_filter.mpr ⟨hf, by simpa using fi⟩, by simpa using fp⟩)

/-- From the dropped steps on, the replan touches the PLANNED steps from the lowest of the image's on. -/
theorem badImaged_touches (b : Blocks) (image : Nat) :
    (b.dropped image).Touches (fun n => ∃ k, b.board.lowestPlanned image = some k
      ∧ n ∈ ((b.dropped image).board.plannedContexts k).map StepContext.number) (b.badImaged image) := by
  unfold Blocks.badImaged
  split
  · next k hk => exact (cancelFrom_touches k (b.dropped image)).mono fun n hn => ⟨k, hk, hn⟩
  · exact .refl _ _

section

variable (hs : b.board.sound)

include hs

theorem dropped_sound : (b.dropped image).board.sound :=
  Board.sound_of_outline (dropped_touches b image).outline hs

theorem badImaged_sound : (b.badImaged image).board.sound :=
  Board.sound_of_outline (badImaged_touches b image).outline (dropped_sound hs)

/-- A step that the drop leaves in a state other than PLANNED keeps its context, and the slot that names it. -/
theorem badImaged_context? {n : Nat} {y : StepContext} (hy : (b.dropped image).board.context? n = some y)
    (h : y.state = .planned → ∀ k, b.board.lowestPlanned image = some k → ¬ k ≤ n) :
    (b.badImaged image).board.context? n = some y
      ∧ ∀ pitch, (b.dropped image).chain.slotOf pitch = .empty ∨ (b.dropped image).chain.namesOnly pitch n →
        (b.badImaged image).chain.slotOf pitch = (b.dropped image).chain.slotOf pitch := by
  have touched := badImaged_touches b image
  have apart : ¬ ∃ k, b.board.lowestPlanned image = some k
      ∧ n ∈ ((b.dropped image).board.plannedContexts k).map StepContext.number := by
    rintro ⟨k, hk, hn⟩
    exact (dropped_sound hs).not_mem_plannedContexts hy (fun hp => h hp k hk) hn
  refine ⟨(touched.contexts n apart).trans hy, fun pitch hp => ?_⟩
  rcases hp with empty | named
  · exact touched.slots pitch fun m hm => by rw [empty] at hm; exact nomatch hm
  · exact (touched.slot apart named).1

/-- R70: a PLANNED step of another image above the lowest of the image's PLANNED steps is QUEUED again. -/
theorem badImaged_replanned (hx : x ∈ b.board.window) (hi : x.image ≠ image) (hp : x.state = .planned)
    (above : ∃ f ∈ b.board.window, f.image = image ∧ f.state = .planned ∧ f.number < x.number) {pitch m d : Nat}
    (named : b.chain.namesOnly pitch x.number) (slot : b.chain.slotOf pitch = .reserved m d) :
    (b.badImaged image).board.context? x.number = some { x.requeue with source := none }
      ∧ (b.badImaged image).chain.slotOf pitch = .empty := by
  obtain ⟨f, hf, fi, fp, lt⟩ := above
  obtain ⟨k, hk⟩ := Option.isSome_iff_exists.mp (Board.sound.lowestPlanned_isSome hf fi fp)
  have low := (hs.lowestPlanned_le hk).2 f hf fi fp
  have untouched := hs.not_mem_ofImage hx hi
  have touched := dropped_touches b image
  obtain ⟨same, named'⟩ := touched.slot untouched named
  unfold Blocks.badImaged
  rw [hk]
  exact cancelFrom_at (dropped_sound hs) ((touched.contexts _ untouched).trans (hs.context?_of_mem hx)) hp (by omega)
    named' (same.trans slot)

end

/-! ## The whole event (R29 to R31) -/

/-- The board with the image's flag cleared. -/
def Blocks.cleared (b : Blocks) (image : Nat) : Blocks := b.onBoard fun d => d.clearImage image

theorem clearImage_goodMask (d : Board) {image : Nat} (n : Nat) (hn : n < 16) :
    (d.clearImage image).goodMask.getLsbD n = (d.goodMask.getLsbD n && decide (n ≠ image)) := by
  have one : (1#16 <<< image).getLsbD n = decide (n = image) := by
    rw [BitVec.getLsbD_shiftLeft, BitVec.getLsbD_one]
    by_cases h : n = image
    · subst h
      simp [hn]
    · by_cases l : n < image
      · simp [h, l]
      · have : n - image ≠ 0 := by omega
        simp [h, this]
  rw [Board.clearImage, BitVec.getLsbD_and, BitVec.getLsbD_not, one]
  simp [hn]

theorem badImaged_alarm (b : Blocks) (image : Nat) : (b.badImaged image).alarm = b.alarm :=
  (badImaged_touches b image).alarm.trans (dropped_touches b image).alarm

theorem badImaged_reports (b : Blocks) (image : Nat) :
    (b.badImaged image).board.reportOrder = (b.dropped image).board.reportOrder
      ∧ (b.badImaged image).board.tallies = (b.dropped image).board.tallies := by
  unfold Blocks.badImaged
  split
  · exact ⟨cancelFrom_reportOrder _ _, cancelFrom_tallies _ _⟩
  · exact ⟨rfl, rfl⟩

/-- R28, R144: the event ends with a planning event; no code was raised before it. -/
theorem conclude_badImage (hf : b.planner.freeze = false) :
    conclude b (dropImage image (b.cleared image))
      = orderReports b (planIf ((b.cleared image).dropDue image) ((b.cleared image).badImaged image)) := by
  have alarm : ((b.cleared image).badImaged image).alarm = b.alarm := badImaged_alarm (b.cleared image) image
  rw [dropImage_eq (b := b.cleared image) hf image]
  unfold conclude
  dsimp only
  rw [← alarm, reactRise_same]

theorem takeBadImage_of_standing (hi : image < 16) (hb : b.board.phase ≠ .none) (hf : b.planner.freeze = false) :
    takeBadImage [byteOf image] b = .accept
      (orderReports b (planIf ((b.cleared image).dropDue image) ((b.cleared image).badImaged image))) := by
  have byte : byteAt [byteOf image] 0 = image := byteAt_of_byteOf rfl (by omega)
  unfold takeBadImage
  dsimp only
  rw [byte, if_neg (by omega), if_pos (by simpa [Board.standing] using hb), ← conclude_badImage hf]
  rfl

/-! ### Marks alone (R29, R31) -/

/-- The contexts of the numbers given get the BAD-IMAGE flag. -/
def Board.flag (ns : List Nat) (d : Board) : Board :=
  { d with window := d.window.map fun c => if c.number ∈ ns then { c with badImage := true } else c }

theorem foldl_dropStep_marks (l : List StepContext) (h : ∀ x ∈ l, x.flaggedOnly ∨ x.state = .resolved)
    (acc : Blocks × Bool) :
    l.foldl dropStep acc = (acc.1.onBoard (Board.flag
      ((l.filter fun x => decide (x.state ≠ .resolved)).map StepContext.number)), acc.2) := by
  induction l generalizing acc with
  | nil => simp [Board.flag, Blocks.onBoard]
  | cons x l ih =>
    rw [List.foldl_cons, ih (fun y hy => h y (List.mem_cons_of_mem _ hy))]
    rcases h x List.mem_cons_self with hf | hr
    · have unresolved : decide (x.state ≠ .resolved) = true := by rcases hf with hf | hf | hf <;> simp [hf]
      rw [dropStep_of_flaggedOnly hf, List.filter_cons, if_pos unresolved, List.map_cons]
      simp only [flagBadImage, Blocks.onStep, Blocks.onBoard, Board.flag, List.map_map]
      congr 4
      funext c
      by_cases e : c.number = x.number
      · simp [e]
      · simp only [Function.comp_apply, if_neg e]
        exact if_congr (by simp [e]) rfl rfl
    · rw [dropStep_of_resolved hr, List.filter_cons, if_neg (by simp [hr])]

/-- R31: with no step of the image to resolve or to deselect, the steps of the image are marked and nothing else changes. -/
theorem marks_eq (hs : b.board.sound)
    (h : ∀ x ∈ b.board.window, x.image = image → x.flaggedOnly ∨ x.state = .resolved) :
    orderReports b (planIf ((b.cleared image).dropDue image) ((b.cleared image).badImaged image))
      = { b with board := { b.board with
          goodMask := (b.board.clearImage image).goodMask
          window := b.board.window.map fun c =>
            if c.image = image ∧ c.state ≠ .resolved then { c with badImage := true } else c } } := by
  have listed : ∀ x ∈ (b.cleared image).board.ofImage image, x.flaggedOnly ∨ x.state = .resolved := fun x hx => by
    obtain ⟨hw, hi⟩ := List.mem_filter.mp hx
    exact h x hw (of_decide_eq_true hi)
  have marked := foldl_dropStep_marks _ listed (b.cleared image, false)
  have lowest : (b.cleared image).board.lowestPlanned image = none := by
    rw [Board.lowestPlanned, Option.map_eq_none_iff, List.head?_eq_none_iff, List.filter_eq_nil_iff]
    intro x hx
    rcases listed x hx with (hf | hf | hf) | hr
    all_goals simp [*]
  have flags : ∀ c ∈ b.board.window,
      (c.number ∈ (((b.cleared image).board.ofImage image).filter fun x => decide (x.state ≠ .resolved)).map
        StepContext.number ↔ c.image = image ∧ c.state ≠ .resolved) := fun c hc => by
    constructor
    · intro hn
      obtain ⟨x, hx, e⟩ := List.mem_map.mp hn
      obtain ⟨hx, hr⟩ := List.mem_filter.mp hx
      obtain ⟨hw, hi⟩ := List.mem_filter.mp hx
      obtain rfl := List.inj_on_of_nodup_map hs.nodup hw hc e
      exact ⟨of_decide_eq_true hi, of_decide_eq_true hr⟩
    · rintro ⟨hi, hr⟩
      exact List.mem_map_of_mem (List.mem_filter.mpr ⟨List.mem_filter.mpr ⟨hc, by simpa using hi⟩, by simpa using hr⟩)
  have due : (b.cleared image).dropDue image = false := congrArg Prod.snd marked
  have blocks : (b.cleared image).badImaged image = _ :=
    (by unfold Blocks.badImaged; rw [lowest] : (b.cleared image).badImaged image = (b.cleared image).dropped image).trans
      (congrArg Prod.fst marked)
  rw [due, planIf_false, blocks]
  refine (orderReports_of_same rfl).trans ?_
  simp only [Blocks.cleared, Blocks.onBoard, Board.flag, Board.clearImage]
  congr 2
  exact List.map_congr_left fun c hc => if_congr (flags c hc) rfl rfl

/-! ### The event as a whole -/

/-- R31: the gate's place, as the chain map has it. -/
theorem Chain.beforeGate_iff (d : Chain) (pitch : Nat) : d.beforeGate pitch = true ↔
    d.gateOffset < d.offsetOf pitch ∨ (d.gateOffset = d.offsetOf pitch ∧ d.gateDone = false) := by
  rw [Chain.beforeGate, Bool.or_eq_true, Bool.and_eq_true, decide_eq_true_eq, decide_eq_true_eq, Bool.not_eq_true',
    eq_comm (a := d.offsetOf pitch)]

section

variable (hs : b.board.sound)

include hs

/-- The planning event that follows the replan. -/
theorem badImaged_plans (hq : b.counters.quiet) (hn : (look b.alarm.codes 25).cls = .note) (due : Bool) :
    (b.badImaged image).Plans (planIf due (b.badImaged image)) := by
  refine planIf_plans due (badImaged_sound hs) ?_ ?_
  · rw [(badImaged_touches b image).counters, (dropped_touches b image).counters]
    exact hq
  · rw [badImaged_alarm]
    exact hn

/-- What the drop leaves of a step that is neither PLANNED nor QUEUED stays to the end, with an OCCUPIED slot that names it. -/
theorem Blocks.Plans.kept {c : Blocks} (h : (b.badImaged image).Plans c) {n : Nat} {y : StepContext}
    (hy : (b.dropped image).board.context? n = some y) (hp : y.state ≠ .planned) (hq : y.state ≠ .queued) :
    c.board.context? n = some y
      ∧ ∀ pitch, (b.dropped image).chain.namesOnly pitch n → c.chain.slotOf pitch = (b.dropped image).chain.slotOf pitch := by
  obtain ⟨context, slots⟩ := badImaged_context? hs hy fun e => absurd e hp
  refine ⟨?_, fun pitch named => ?_⟩
  · rcases h.contexts n with same | ⟨x, _, _, hx, queued, -⟩
    · exact same.trans context
    · rw [context] at hx
      exact absurd (Option.some.inj hx ▸ queued) hq
  · have same := slots pitch (.inr named)
    refine (h.used pitch fun empty => ?_).trans same
    have step := named.1
    rw [← same, empty] at step
    cases step

end

/-- R60: a blocked planning event leaves all but the stop cause as the replan left it. -/
theorem planIf_badImaged_of_plansNothing (h : b.plansNothing) (due : Bool) :
    ∃ cause, planIf due (b.badImaged image) = setStopCause cause (b.badImaged image) := by
  have first := dropped_touches b image
  have second := badImaged_touches b image
  refine planIf_of_plansNothing ?_ due
  unfold Blocks.plansNothing
  rw [second.alarm, first.alarm, second.shaft, first.shaft, second.planner, first.planner]
  exact h

theorem exec_badImage_accept {s : State} {rest : List Record} {p : List Byte} {c : Blocks}
    (h : s.offers ⟨0x04#8, p⟩ rest) (len : p.length = 1) (hf : takeBadImage p s.blocks = .accept c) :
    exec .badImage s = .next (s.taken rest c) :=
  (congrArg (fun n => answerRow .badImage n takeBadImage s) len.symm).trans (answerRow_accept h rfl rfl hf)

theorem exec_badImage_refuse {s : State} {rest : List Record} {p : List Byte} {reason : RefusalReason} {detail : Detail}
    (h : s.offers ⟨0x04#8, p⟩ rest) (len : p.length = 1) (hf : takeBadImage p s.blocks = .refuse reason detail s.blocks) :
    exec .badImage s = .next (s.answered rest (refusal 0x04#8 reason detail)) :=
  (congrArg (fun n => answerRow .badImage n takeBadImage s) len.symm).trans (answerRow_refuse h rfl rfl hf)

theorem takeBadImage_of_range (h : image < 256) (hi : 16 ≤ image) :
    takeBadImage [byteOf image] b = .refuse .range .none b := by
  have byte : byteAt [byteOf image] 0 = image := byteAt_of_byteOf rfl h
  unfold takeBadImage
  dsimp only
  rw [byte, if_pos (by omega)]

theorem takeBadImage_of_none (hi : image < 16) (hb : b.board.phase = .none) :
    takeBadImage [byteOf image] b = .refuse .noBoard .none b := by
  have byte : byteAt [byteOf image] 0 = image := byteAt_of_byteOf rfl (by omega)
  unfold takeBadImage
  dsimp only
  rw [byte, if_neg (by omega), if_neg (by simp [Board.standing, hb])]

/-- R28: the steps resolved by a BAD IMAGE stand in the window's order, so the report order stands as it came. -/
theorem orderReports_badImage (hs : b.board.sound) {c : Blocks} (plans : ((b.cleared image).badImaged image).Plans c) :
    c.board.reportOrder = b.board.reportOrder
        ++ (((b.cleared image).board.ofImage image).filter StepContext.dropped).map StepContext.number
      ∧ orderReports b c = c := by
  have order := (dropped_reports (b := b.cleared image) (image := image) hs).1
  have same : c.board.reportOrder = b.board.reportOrder
      ++ (((b.cleared image).board.ofImage image).filter StepContext.dropped).map StepContext.number :=
    plans.reportOrder.trans ((badImaged_reports _ _).1.trans order)
  refine ⟨same, orderReports_of_sorted same ?_⟩
  obtain ⟨hsorted, -, -, -⟩ := hs
  exact (hsorted.sublist ((List.filter_sublist.trans List.filter_sublist).map _)).imp Nat.le_of_lt

/-- Settles O46: the steps of the image are dropped one by one, each touching its own context and the slots that name it; then
come the replan from the lowest PLANNED step and the planning event. -/
theorem badImageMarks : Obligations.BadImageMarks := by
  intro image rest s himage h hfreeze
  refine ⟨fun hi => exec_badImage_refuse h rfl (takeBadImage_of_range himage hi),
    fun hi none => exec_badImage_refuse h rfl (takeBadImage_of_none hi none), fun hi standing hs marks => ?_,
    fun hi standing hs hq hn => ?_⟩
  · refine ⟨(s.blocks.board.clearImage image).goodMask, ?_, fun n hn => clearImage_goodMask _ n hn⟩
    rw [exec_badImage_accept h rfl (takeBadImage_of_standing hi standing hfreeze), marks_eq hs fun x hx hx' => ?_]
    rcases marks x hx hx' with e | e | e | e
    · exact .inl (.inr (.inl e))
    · exact .inl (.inr (.inr e))
    · exact .inl (.inl e)
    · exact .inr e
  · have plans := badImaged_plans (b := s.blocks.cleared image) (image := image) hs hq hn
      ((s.blocks.cleared image).dropDue image)
    have stopped := fun blocked => planIf_badImaged_of_plansNothing (b := s.blocks.cleared image) (image := image) blocked
      ((s.blocks.cleared image).dropDue image)
    have accepted := exec_badImage_accept h rfl (takeBadImage_of_standing hi standing hfreeze)
    generalize planIf ((s.blocks.cleared image).dropDue image) ((s.blocks.cleared image).badImaged image) = t
      at plans stopped accepted
    obtain ⟨order, ordered⟩ := orderReports_badImage hs plans
    rw [ordered] at accepted
    have first := dropped_touches (s.blocks.cleared image) image
    have second := badImaged_touches (s.blocks.cleared image) image
    have steps : (s.blocks.board.window.filter fun c =>
        decide (c.image = image) && (decide (c.state = .queued) || decide (c.state = .planned)))
        = ((s.blocks.cleared image).board.ofImage image).filter StepContext.dropped := by
      rw [Board.ofImage, List.filter_filter]
      exact List.filter_congr fun x _ => Bool.and_comm _ _
    have mask : t.board.goodMask = (s.blocks.board.clearImage image).goodMask :=
      Board.goodMask_of_outline (plans.outline.trans (second.outline.trans first.outline))
    have kept := fun n y => plans.kept (b := s.blocks.cleared image) hs (n := n) (y := y)
    dsimp only
    rw [steps]
    refine ⟨_, accepted, rfl, fun n hn => (congrArg (·.getLsbD n) mask).trans (clearImage_goodMask _ n hn), order, ?_,
      plans.record.trans (second.record.trans first.record), plans.lock.trans (second.lock.trans first.lock),
      fun c hc ci => ⟨fun queued => ?_, ?_, fun flagged => ?_, fun resolved => ?_, ?_⟩,
      fun blocked c hc ci => ⟨fun low => ?_, ?_⟩⟩
    · exact plans.tallies.trans ((badImaged_reports _ _).2.trans (dropped_reports (b := s.blocks.cleared image) hs).2)
    · exact (kept _ _ (dropped_queued (b := s.blocks.cleared image) hs hc ci queued) (by simp [StepContext.ended])
        (by simp [StepContext.ended])).1
    · intro pitch n e planned slot named
      obtain ⟨context, empty, proving⟩ := dropped_planned (b := s.blocks.cleared image) hs hc ci planned named slot
      refine ⟨(kept _ _ context (by simp [StepContext.ended]) (by simp [StepContext.ended])).1, fun blocked => ?_⟩
      obtain ⟨cause, rfl⟩ := stopped blocked
      have unplanned := (badImaged_context? (b := s.blocks.cleared image) hs context
        (fun planned => by simp [StepContext.ended] at planned)).2
      exact ⟨(unplanned pitch (.inl empty)).trans empty, second.proving e proving⟩
    · have only : c.flaggedOnly := by
        rcases flagged with e | e | e
        · exact .inr (.inl e)
        · exact .inr (.inr e)
        · exact .inl e
      refine (kept _ _ (dropped_flaggedOnly (b := s.blocks.cleared image) hs hc ci only) ?_ ?_).1 <;>
        rcases flagged with e | e | e <;> simp [e]
    · exact (kept _ _ (dropped_resolved (b := s.blocks.cleared image) hs hc ci resolved) (by simp [resolved])
        (by simp [resolved])).1
    · intro pitch o carried slot named
      have hcar : c.carried := carried
      split
      · next before =>
        obtain ⟨turned, context⟩ := dropped_before (b := s.blocks.cleared image) hs hc ci hcar named slot
          ((Chain.beforeGate_iff _ _).mpr before)
        obtain ⟨context', slots⟩ := kept _ _ context nofun nofun
        refine ⟨(slots pitch ⟨?_, ?_⟩).trans turned, context'⟩
        · rw [turned]
          have step := named.1
          rwa [slot] at step
        · exact fun q hq hc => named.2 q (first.length ▸ hq) (first.names q _ hc)
      · next past =>
        obtain ⟨same, context⟩ := dropped_past (b := s.blocks.cleared image) hs hc ci hcar named
          (by rw [← Bool.not_eq_true]; exact mt (Chain.beforeGate_iff _ _).mp past)
        obtain ⟨context', slots⟩ := kept _ _ context (by rcases carried with e | e | e <;> simp [e])
          (by rcases carried with e | e | e <;> simp [e])
        refine ⟨(slots pitch ⟨?_, ?_⟩).trans (same.trans slot), context'⟩
        · rw [same]
          exact named.1
        · exact fun q hq hc => named.2 q (first.length ▸ hq) (first.names q _ hc)
    · obtain ⟨cause, rfl⟩ := stopped blocked
      have untouched := (first.contexts _ (hs.not_mem_ofImage (b := s.blocks) hc ci)).trans (hs.context?_of_mem hc)
      refine (badImaged_context? (b := s.blocks.cleared image) hs untouched fun planned k hk le => ?_).1
      obtain ⟨⟨e, he, ei, ep, rfl⟩, -⟩ := Board.sound.lowestPlanned_le (b := s.blocks.cleared image) hs hk
      rcases low with unplanned | below
      · exact unplanned planned
      · have := below e he ei ep
        omega
    · intro pitch n e planned above slot named
      obtain ⟨cause, rfl⟩ := stopped blocked
      exact badImaged_replanned (b := s.blocks.cleared image) hs hc ci planned above named slot

end Sys2Proof.Machine
end

section
/-! # Steps resolved and returned -/

/-! What a resolution and a return make of the board, where the window is sound and no other step is to be planned (R28, R32,
R74, R75). -/

namespace Sys2Proof.Machine

set_option Elab.async false

variable {b c : Blocks} {x : StepContext}

/-! ## The board with one context replaced -/

theorem onStep_withContext (hs : b.board.sound) (hx : b.board.context? x.number = some x) {f : StepContext → StepContext}
    (hf : (f x).number = x.number) : b.onStep x.number f = b.onBoard fun d => d.withContext (f x) := by
  have hn := hs.nodup
  have mem : x ∈ b.board.window := List.mem_of_find?_eq_some hx
  have same : (b.board.window.map fun e => if e.number = x.number then f e else e)
      = b.board.window.map fun e => if e.number = (f x).number then f x else e := by
    refine List.map_congr_left fun e he => ?_
    rw [hf]
    split
    · next h => rw [List.inj_on_of_nodup_map hn he mem h]
    · rfl
  simp only [Blocks.onStep, Blocks.onBoard, Board.withContext, same]

theorem withContext_context?_self {d : Board} {y : StepContext} (hx : d.context? y.number = some x) :
    (d.withContext y).context? y.number = some y := by
  have hg : ∀ e : StepContext, (if e.number = y.number then y else e).number = e.number := fun e => by split <;> simp_all
  rw [Board.withContext, Board.context?_map hg, hx]
  simp [Board.context?_number hx]

theorem withContext_context?_of_ne {d : Board} {y : StepContext} {n : Nat} (h : n ≠ y.number) :
    (d.withContext y).context? n = d.context? n := by
  have hg : ∀ e : StepContext, (if e.number = y.number then y else e).number = e.number := fun e => by split <;> simp_all
  rw [Board.withContext, Board.context?_map hg]
  cases hc : d.context? n with
  | none => rfl
  | some e => simp [Board.context?_number hc, h]

theorem withContext_outline (d : Board) (y : StepContext) : (d.withContext y).outline = d.outline := by
  have h : (StepContext.number ∘ fun e : StepContext => if e.number = y.number then y else e) = StepContext.number := by
    funext e
    simp only [Function.comp_apply]
    split <;> simp_all
  simp [Board.withContext, Board.outline, h]

theorem withContext_sound {d : Board} {y : StepContext} (hs : d.sound) : (d.withContext y).sound :=
  Board.sound_of_outline (withContext_outline d y) hs

/-- A step replaced by one in state QUEUED leaves no other step to be planned. -/
theorem withContext_planned {d : Board} {y : StepContext} (h : d.nothingElseToPlan y.number) (hy : y.state ≠ .planned) :
    ∀ e ∈ (d.withContext y).window, e.state ≠ .planned := by
  intro e he
  obtain ⟨f, hf, rfl⟩ := List.mem_map.mp he
  split
  · exact hy
  · next ne => exact (h f hf ne).2

theorem withContext_nothing {d : Board} {y : StepContext} (h : d.nothingElseToPlan y.number)
    (hy : y.state ≠ .queued ∧ y.state ≠ .planned) : (d.withContext y).nothingToPlan := by
  intro e he
  obtain ⟨f, hf, rfl⟩ := List.mem_map.mp he
  split
  · exact hy
  · next ne => exact h f hf ne

/-! ## A step resolved (R28, R32) -/

/-- R28: the blocks once step `x` is resolved. -/
def Blocks.resolvedAs (b : Blocks) (x : StepContext) (o : StepOutcome) : Blocks :=
  b.onBoard fun d => d.withResolved x o (d.tallies.resolve o x.makeUps)

theorem resolvedAs_nothing (only : b.board.nothingElseToPlan x.number) (o : StepOutcome) :
    (b.resolvedAs x o).board.nothingToPlan := withContext_nothing (y := x.ended o) only ⟨nofun, nofun⟩

theorem resolve_withResolved (hs : b.board.sound) (hx : b.board.context? x.number = some x) (hr : x.state ≠ .resolved)
    (o : StepOutcome) : resolve x.number o b = b.resolvedAs x o := by
  rw [resolve_eq hx hr, onStep_withContext (f := fun c => c.ended o) hs hx rfl]
  rfl

theorem withContext_withContext {d : Board} {y z : StepContext} (h : y.number = z.number) :
    (d.withContext y).withContext z = d.withContext z := by
  simp only [Board.withContext, List.map_map]
  congr 2
  funext e
  simp only [Function.comp_apply, h]
  split <;> simp_all

theorem resolveBadImage_withResolved (hs : b.board.sound) (hx : b.board.context? x.number = some x)
    (hr : x.state ≠ .resolved) :
    resolveBadImage x.number b = b.resolvedAs { x with badImage := true } .skippedBadImage := by
  have marked := onStep_withContext (f := fun c => { c with badImage := true }) hs hx rfl
  unfold resolveBadImage
  rw [marked]
  have sound : (b.onBoard fun d => d.withContext { x with badImage := true }).board.sound := withContext_sound hs
  have found : (b.onBoard fun d => d.withContext { x with badImage := true }).board.context? x.number
      = some { x with badImage := true } := withContext_context?_self (y := { x with badImage := true }) hx
  rw [resolve_withResolved (x := { x with badImage := true }) sound found hr]
  have once : (b.board.withContext { x with badImage := true }).withContext
      (({ x with badImage := true } : StepContext).ended .skippedBadImage)
      = b.board.withContext (({ x with badImage := true } : StepContext).ended .skippedBadImage) :=
    withContext_withContext rfl
  simp only [Blocks.resolvedAs, Blocks.onBoard, Board.withResolved, once]
  rfl

/-! ## A step returned (R74, R75) -/

/-- R70: with no step PLANNED a replan cancels nothing. -/
theorem cancelFrom_of_unplanned (h : ∀ e ∈ b.board.window, e.state ≠ .planned) (k : Nat) : cancelFrom k b = b := by
  have none : b.board.plannedFrom k = [] := by
    rw [Board.plannedFrom, List.map_eq_nil_iff, List.filter_eq_nil_iff]
    intro e he
    simp [h e he]
  rw [cancelFrom, none, List.foldl_nil]

/-- R74, R75: the blocks once step `x` is QUEUED again. -/
def Blocks.requeued (b : Blocks) (x : StepContext) (counted : Bool) : Blocks :=
  b.onBoard fun d => d.withContext (x.returned counted)

theorem requeued_unplanned (only : b.board.nothingElseToPlan x.number) (counted : Bool) :
    ∀ e ∈ (b.requeued x counted).board.window, e.state ≠ .planned :=
  withContext_planned (y := x.returned counted) only nofun

/-- R32, R74: the step of a bad image. -/
theorem returnStep_bad (hs : b.board.sound) (hx : b.board.context? x.number = some x) (hr : x.state ≠ .resolved)
    (hg : b.board.goodMask.getLsbD x.image = false) (why : Return) : 
    returnStep x.number why b = (b.resolvedAs { x with badImage := true } .skippedBadImage, false) := by
  unfold returnStep
  rw [show b.context? x.number = some x from hx, ← resolveBadImage_withResolved hs hx hr]
  simp [Board.imageGood, hg]

/-- R74, R75: within the limit, or for a reason that does not count, the step is QUEUED again. -/
theorem returnStep_returned (hs : b.board.sound) (hx : b.board.context? x.number = some x)
    (hg : b.board.goodMask.getLsbD x.image = true) (hq : b.counters.quiet) (only : b.board.nothingElseToPlan x.number)
    {why : Return} (hw : why.counted = false ∨ x.makeUps + 1 ≤ b.planner.makeUpLimit) :
    returnStep x.number why b = (b.requeued x why.counted, true) := by
  have unplanned := fun counted => requeued_unplanned only counted
  unfold returnStep
  rw [show b.context? x.number = some x from hx]
  simp only [Board.imageGood, hg, Bool.not_true, Bool.false_eq_true, if_false]
  cases counted : why.counted
  · rw [if_neg Bool.false_ne_true, onStep_withContext (f := StepContext.requeue) hs hx rfl]
    exact congrArg (·, true) (cancelFrom_of_unplanned (unplanned false) _)
  · rw [if_pos rfl, if_pos (hw.resolve_left (by simp [counted])),
      onStep_withContext (f := fun c => { c.requeue with makeUps := c.makeUps + 1 }) hs hx rfl, countEvent_quiet (by exact hq)]
    exact congrArg (·, true) (cancelFrom_of_unplanned (unplanned true) _)

/-- R75: beyond the limit the step fails. -/
theorem returnStep_failed (hs : b.board.sound) (hx : b.board.context? x.number = some x) (hr : x.state ≠ .resolved)
    (hg : b.board.goodMask.getLsbD x.image = true) (hq : b.counters.quiet) {why : Return} (counted : why.counted = true)
    (hw : ¬ x.makeUps + 1 ≤ b.planner.makeUpLimit) : returnStep x.number why b
      = ((b.resolvedAs x .failed).onAlarm fun a => a.occur 18 ⟨some x.number, x.source, some x.kind⟩, false) := by
  unfold returnStep
  rw [show b.context? x.number = some x from hx]
  simp only [Board.imageGood, hg, Bool.not_true, Bool.false_eq_true, if_false]
  rw [if_pos counted, if_neg hw, resolve_withResolved hs hx hr]
  exact congrArg (·, false) (raise_quiet (b := b.resolvedAs x .failed) hq 18 _)

/-! ## Changes that settle an event -/

/-- From `b` to `c` nothing has changed that a statement about a board or the chain speaks of: the stop cause, the kinds'
flags, the candidate and what it hands over may have. -/
structure Blocks.Settles (b c : Blocks) : Prop where
  shaft : c.shaft = b.shaft
  chain : c.chain = b.chain
  board : c.board = b.board
  alarm : c.alarm = b.alarm
  lock : c.positioner.lock = b.positioner.lock
  record : c.head.record = b.head.record
  inhibit : c.head.inhibit = b.head.inhibit
  counters : c.counters = b.counters
  verifier : c.verifier = b.verifier
  limit : c.planner.makeUpLimit = b.planner.makeUpLimit
  freeze : b.planner.freeze = false → c.planner.freeze = false
  dispensers : c.source.dispensers = b.source.dispensers

theorem Blocks.Settles.refl (b : Blocks) : b.Settles b := ⟨rfl, rfl, rfl, rfl, rfl, rfl, rfl, rfl, rfl, rfl, id, rfl⟩

theorem Blocks.Settles.trans {a : Blocks} (h : a.Settles b) (h' : b.Settles c) : a.Settles c :=
  ⟨h'.shaft.trans h.shaft, h'.chain.trans h.chain, h'.board.trans h.board, h'.alarm.trans h.alarm, h'.lock.trans h.lock,
    h'.record.trans h.record, h'.inhibit.trans h.inhibit, h'.counters.trans h.counters, h'.verifier.trans h.verifier,
    h'.limit.trans h.limit, fun f => h'.freeze (h.freeze f), h'.dispensers.trans h.dispensers⟩

theorem choose_settles (b : Blocks) : b.Settles (choose b) := by
  constructor <;> simp

theorem setStopCause_settles (cause : StopCause) (b : Blocks) : b.Settles (setStopCause cause b) :=
  { Blocks.Settles.refl b with freeze := id }

theorem settleGain_settles (before : Source) (d : Nat) (b : Blocks) : b.Settles (settleGain before d b).1 := by
  unfold settleGain
  split
  · exact { Blocks.Settles.refl b with }
  · exact .refl b

theorem settlePurge_settles (b : Blocks) : b.Settles (settlePurge b).1 := by
  unfold settlePurge
  split
  · exact { Blocks.Settles.refl b with freeze := fun _ => rfl }
  · exact .refl b

theorem settlePurge_of_unfrozen (h : b.planner.freeze = false) : settlePurge b = (b, false) := by
  unfold settlePurge
  rw [if_neg]
  simp [h]

theorem clearProving_settles (d : Nat) (b : Blocks) :
    (b.onDispenser d fun e => { e with proving := false }).Settles (clearProving d b).1 := settleGain_settles _ _ _

/-! ## A departure from the chain (R47, R83) -/

/-- R47: the dispensers once a component that may prove its source has left. -/
def Blocks.proved (b : Blocks) (o : Component) : Blocks :=
  match o.source with
  | some d => if o.unproved then b.onDispenser d fun e => { e with proving := false } else b
  | none => b

theorem proved_frame (b : Blocks) (o : Component) : (b.proved o).shaft = b.shaft ∧ (b.proved o).chain = b.chain
    ∧ (b.proved o).board = b.board ∧ (b.proved o).alarm = b.alarm ∧ (b.proved o).positioner = b.positioner
    ∧ (b.proved o).head = b.head ∧ (b.proved o).counters = b.counters ∧ (b.proved o).planner = b.planner
    ∧ (b.proved o).verifier = b.verifier := by
  unfold Blocks.proved
  (repeat' split) <;> exact ⟨rfl, rfl, rfl, rfl, rfl, rfl, rfl, rfl, rfl⟩

theorem proved_dispensers (b : Blocks) (o : Component) {e : Nat} (he : e < 96) :
    look (b.proved o).source.dispensers e = if o.source = some e ∧ (o.verify = .unmeasured ∨ o.unjudged = true) then
      { look b.source.dispensers e with proving := false } else look b.source.dispensers e := by
  have unproved : (o.verify = .unmeasured ∨ o.unjudged = true) ↔ o.unproved = true := by simp [Component.unproved]
  simp only [unproved]
  unfold Blocks.proved
  cases hd : o.source with
  | none => simp
  | some d =>
    by_cases hu : o.unproved = true
    · by_cases hde : d = e
      · subst hde
        simp [hu, Blocks.onDispenser, he]
      · simp [hu, Blocks.onDispenser, hde, look_adjust_of_ne]
    · simp [hu]

/-- The return of the step that a departing component names. -/
def Blocks.departed (b : Blocks) (o : Component) : Blocks × Bool :=
  match o.step with
  | some n => returnStep n (.slot o.reason) b
  | none => (b, false)

/-- What follows the return, `r`, when component `o` leaves: its source's proof, the report, the purge and the candidate. -/
def Component.leave (o : Component) (gate : Bool) (r : Blocks × Bool) : Blocks × Bool :=
  let proved := match o.source with
    | some d => if o.unproved then clearProving d r.1 else (r.1, false)
    | none => (r.1, false)
  let purged := settlePurge (countEvent (if gate then .divert else .strip) (.tagged o.kind) proved.1)
  (choose purged.1, r.2 || proved.2 || purged.2)

theorem depart_of_occupied (gate : Bool) {pitch : Nat} {o : Component} (ho : b.chain.slotOf pitch = .occupied o) :
    depart gate pitch b = o.leave gate ((b.setSlot pitch .empty).departed o) := by
  unfold depart
  rw [ho]
  rfl

/-- R47, R83: with quiet counters what follows the return clears the proof of the source and settles the event. -/
theorem leave_eq (gate : Bool) (o : Component) {r : Blocks × Bool} (hq : r.1.counters.quiet) :
    ∃ t due, o.leave gate r = (t, r.2 || due) ∧ (r.1.proved o).Settles t
      ∧ (r.1.planner.freeze = false → o.source = none → due = false) := by
  have counters : (r.1.proved o).counters.quiet := by
    obtain ⟨-, -, -, -, -, -, same, -, -⟩ := proved_frame r.1 o
    rwa [same]
  have finish : ∀ p : Blocks × Bool, (r.1.proved o).Settles p.1 → (o.source = none → p = (r.1, false)) →
      ∃ t due, (choose (settlePurge (countEvent (if gate then .divert else .strip) (.tagged o.kind) p.1)).1,
          r.2 || p.2 || (settlePurge (countEvent (if gate then .divert else .strip) (.tagged o.kind) p.1)).2)
          = (t, r.2 || due) ∧ (r.1.proved o).Settles t ∧ (r.1.planner.freeze = false → o.source = none → due = false) := by
    intro p settles nameless
    rw [countEvent_quiet (by rwa [settles.counters])]
    refine ⟨_, p.2 || (settlePurge p.1).2, by rw [Bool.or_assoc],
      settles.trans ((settlePurge_settles _).trans (choose_settles _)), fun freeze source => ?_⟩
    rw [nameless source, settlePurge_of_unfrozen freeze]
    rfl
  refine finish _ ?_ fun source => by rw [source]
  unfold Blocks.proved
  cases o.source with
  | none => exact .refl _
  | some d =>
    dsimp only
    split
    · exact clearProving_settles d r.1
    · exact .refl _

/-! ## The end of an event (R28, R60, R144) -/

/-- R144: an event that raised nothing asks for nothing. -/
theorem reactRise_of_same {a : Alarm} (h : b.alarm = a) : ∃ cause, reactRise a b = setStopCause cause b :=
  ⟨b.planner.stopCause, h ▸ reactRise_same b⟩

/-- R60: a planning event, when one is due, where none of the steps is to be planned or no pass is made. -/
theorem planIf_idle {due : Bool} (h : due = false ∨ b.board.nothingToPlan ∨ b.plansNothing) :
    ∃ cause, planIf due b = setStopCause cause b := by
  rcases h with rfl | nothing | blocked
  · exact ⟨b.planner.stopCause, rfl⟩
  · exact planIf_of_nothing nothing due
  · exact planIf_of_plansNothing blocked due

section

variable {a : Blocks} {r : Blocks × Bool} {l : List Nat}
variable (react : ∃ cause, reactRise a.alarm r.1 = setStopCause cause r.1)
  (order : r.1.board.reportOrder = a.board.reportOrder ++ l) (sorted : l.Pairwise (· ≤ ·))
include react order sorted

theorem conclude_settles (h : r.2 = false ∨ r.1.board.nothingToPlan ∨ r.1.plansNothing) : r.1.Settles (conclude a r) := by
  obtain ⟨cause, e⟩ := react
  obtain ⟨cause', e'⟩ := planIf_idle (b := setStopCause cause r.1) h
  have ordered : orderReports a (setStopCause cause' (setStopCause cause r.1)) = setStopCause cause' (setStopCause cause r.1) :=
    orderReports_of_sorted (a := a) (b := setStopCause cause' (setStopCause cause r.1)) order sorted
  rw [conclude, e, e', ordered]
  exact (setStopCause_settles cause _).trans (setStopCause_settles cause' _)

theorem conclude_plans (hs : r.1.board.sound) (hq : r.1.counters.quiet) (hn : (look r.1.alarm.codes 25).cls = .note) :
    r.1.Plans (conclude a r) := by
  obtain ⟨cause, e⟩ := react
  have plans := (setStopCause_plans cause r.1).trans (planIf_plans (b := setStopCause cause r.1) r.2 hs hq hn)
  rw [conclude, e, orderReports_of_sorted (plans.reportOrder.trans order) sorted]
  exact plans

end

/-- R59, R70: a returned step after a planning event. -/
theorem Blocks.Plans.holdsReturned (h : b.Plans c) (hx : b.board.context? x.number = some x) (hs : b.chain.sound) :
    c.holdsReturned x := by
  rcases h.contexts x.number with same | ⟨y, pitch, d, hy, -, planned, slot⟩
  · exact .inl (same.trans hx)
  · obtain rfl : x = y := Option.some.inj (hx.symm.trans hy)
    exact .inr ⟨pitch, d, planned, slot hs⟩

/-- R59: a planning event leaves every step that was not to be planned. -/
theorem Blocks.Plans.others {d : Board} (h : b.Plans c) (hb : b.board = d.withContext x) (only : d.nothingElseToPlan x.number)
    {n : Nat} (hn : n ≠ x.number) : c.board.context? n = d.context? n := by
  have untouched : b.board.context? n = d.context? n := by rw [hb, withContext_context?_of_ne hn]
  rcases h.contexts n with same | ⟨y, _, _, hy, queued, -⟩
  · exact same.trans untouched
  · rw [untouched] at hy
    have ne : y.number ≠ x.number := by rwa [Board.context?_number hy]
    exact absurd queued (only y (List.mem_of_find?_eq_some hy) ne).1

/-! ## An occurrence beside a resolution (R75, R138) -/

theorem Alarm.occur_struck {code : Nat} (h : code < 32) (context : AlarmContext) (a : Alarm) :
    look (a.occur code context).codes code = (look a.codes code).struck context := by
  rw [Alarm.occur_look h]
  rfl

theorem Alarm.RaisedOnly.one {was : Alarm} (code : Nat) (context : AlarmContext) :
    was.RaisedOnly (was.occur code context) [code] := (Alarm.RaisedOnly.refl was [code]).occur List.mem_cons_self context

theorem Alarm.elsewhere.of_eq {a c was : Alarm} {codes : List Nat} (e : a.elsewhere was codes) (h : c = a) :
    c.elsewhere was codes := h ▸ e

theorem look_of_eq {a c : Alarm} {code : Nat} {entry : AlarmEntry} (h : c = a) (e : look a.codes code = entry) :
    look c.codes code = entry := h ▸ e

theorem Board.nothingToPlan.unplanned {d : Board} (h : d.nothingToPlan) : ∀ e ∈ d.window, e.state ≠ .planned :=
  fun e he => (h e he).2

end Sys2Proof.Machine
end

section
/-! # SENSE close -/

namespace Sys2Proof.Machine

set_option Elab.async false

variable {b : Blocks} {r : InsertionRecord} {x : StepContext}

/-! ## Reports to the statistics (R174) -/

theorem countStatistics_eq (f : Statistics → Statistics) (kind : Nat) (b : Blocks) : ∃ statistics,
    countStatistics f kind b = b.onCounters (fun c => { c with statistics := statistics })
      ∧ ∀ k, b.source.kind? kind = some k → k.statistics < 64 →
        look statistics k.statistics = f (look b.counters.statistics k.statistics) := by
  unfold countStatistics
  cases hk : b.source.kind? kind with
  | none => exact ⟨b.counters.statistics, rfl, nofun⟩
  | some k => exact ⟨_, rfl, fun k' hk' hs => by cases hk'; exact look_adjust_self _ f hs⟩

theorem reportInsert_eq (hq : b.counters.quiet) (kind : Nat) : ∃ statistics,
    reportInsert kind b = b.onCounters (fun c => { c with statistics := statistics })
      ∧ ∀ k, b.source.kind? kind = some k → k.statistics < 64 → look statistics k.statistics
        = { look b.counters.statistics k.statistics with
            inserted := min ((look b.counters.statistics k.statistics).inserted + 1) 4294967295 } := by
  rw [reportInsert, countEvent_quiet hq]
  exact countStatistics_eq _ kind b

theorem reportMisinsert_eq (hq : b.counters.quiet) (kind : Nat) : ∃ statistics,
    reportMisinsert kind b = b.onCounters (fun c => { c with statistics := statistics })
      ∧ ∀ k, b.source.kind? kind = some k → k.statistics < 64 → look statistics k.statistics
        = { look b.counters.statistics k.statistics with
            misinsert := min ((look b.counters.statistics k.statistics).misinsert + 1) 4294967295 } := by
  rw [reportMisinsert, countEvent_quiet hq]
  exact countStatistics_eq _ kind b

/-! ## The three verdicts (R132, R133) -/

section

variable (hr : b.head.record = some r) (hx : b.board.context? r.step = some x) (hi : x.state = .inserting)
include hr hx hi

theorem senseClose_of_both (ha : r.leadA = true) (hb : r.leadB = true) :
    senseClose b = conclude b (reportInsert r.kind (resolve r.step .inserted b), false) := by
  unfold senseClose
  rw [hr]
  dsimp only
  rw [show b.context? r.step = some x from hx]
  simp [hi, ha, hb]

theorem senseClose_of_one (h : r.leadA ≠ r.leadB) : senseClose b = conclude b
    (if b.policyOf x = .stop then raise 19 r.context (reportMisinsert r.kind (resolve r.step .misinserted b))
      else reportMisinsert r.kind (resolve r.step .misinserted b), false) := by
  unfold senseClose
  rw [hr]
  dsimp only
  rw [show b.context? r.step = some x from hx]
  cases ha : r.leadA <;> cases hb : r.leadB <;> simp_all

theorem senseClose_of_none (ha : r.leadA = false) (hb : r.leadB = false) :
    senseClose b = conclude b (returnStep r.step .lost b) := by
  unfold senseClose
  rw [hr]
  dsimp only
  rw [show b.context? r.step = some x from hx]
  simp [hi, ha, hb]

end

theorem policyOf_eq {k : Kind} (hk : b.source.kind? x.kind = some k) : b.policyOf x = x.override.getD k.policy := by
  unfold Blocks.policyOf
  cases x.override <;> simp [hk]

/-- R28: a resolution by which nothing is asked for ends the event as it stands. -/
theorem conclude_of_still {c : Blocks} {n : Nat} (ha : c.alarm = b.alarm)
    (ho : c.board.reportOrder = b.board.reportOrder ++ [n]) : conclude b (c, false) = c := by
  rw [conclude, planIf_false, ← ha, reactRise_same]
  exact orderReports_of_one ho

/-- Settles O23: the verdict resolves the step or returns it, and the end of the event settles the rest. -/
theorem bothLeadsInsert : Obligations.BothLeadsInsert := by
  intro station s r c meets hr hn hc hi hq hs
  have taken : ∀ d, senseClose (s.blocks.counted .sense false) = d →
      exec (.encoderSample true false station) s = .next { s with blocks := d } := fun d e => by
    rw [exec_encoderSample, forwardSample_meets station meets nofun]
    exact congrArg (fun d => Host.Outcome.next { s with blocks := d }) e
  have unresolved : c.state ≠ .resolved := by rw [hi]; nofun
  rw [← hn] at hc
  have resolves := fun o => resolve_withResolved (b := s.blocks.counted .sense false) hs hc unresolved o
  have both := senseClose_of_both (b := s.blocks.counted .sense false) hr (hn ▸ hc) hi
  have one := senseClose_of_one (b := s.blocks.counted .sense false) hr (hn ▸ hc) hi
  have none := senseClose_of_none (b := s.blocks.counted .sense false) hr (hn ▸ hc) hi
  rw [← hn] at both one none
  refine ⟨fun ha hb => ?_, fun k h hk => ⟨fun mark => ?_, fun stop unmoved nothing => ?_⟩, fun ha hb only =>
    ⟨fun bad => ?_, fun good within blocked => ?_, fun good within sound note => ?_, fun good beyond unmoved => ?_⟩⟩
  · obtain ⟨statistics, report, counts⟩ := reportInsert_eq (b := resolve c.number .inserted (s.blocks.counted .sense false))
      (by rw [resolves]; exact hq) r.kind
    rw [report, resolves] at both
    rw [resolves] at counts
    exact ⟨_, taken _ ((both ha hb).trans (conclude_of_still rfl rfl)), ⟨⟨rfl, hr, rfl, rfl, rfl⟩, rfl, rfl⟩, rfl, rfl, rfl,
      counts⟩
  · obtain ⟨statistics, report, counts⟩ := reportMisinsert_eq
      (b := resolve c.number .misinserted (s.blocks.counted .sense false)) (by rw [resolves]; exact hq) r.kind
    have policy : (s.blocks.counted .sense false).policyOf c ≠ .stop := by
      rw [policyOf_eq (b := s.blocks.counted .sense false) hk, mark]
      nofun
    rw [if_neg policy, report, resolves] at one
    rw [resolves] at counts
    exact ⟨_, taken _ ((one h).trans (conclude_of_still rfl rfl)), ⟨⟨⟨rfl, hr, rfl, rfl, rfl⟩, rfl, rfl⟩, counts⟩, rfl⟩
  · obtain ⟨statistics, report, counts⟩ := reportMisinsert_eq
      (b := resolve c.number .misinserted (s.blocks.counted .sense false)) (by rw [resolves]; exact hq) r.kind
    have policy : (s.blocks.counted .sense false).policyOf c = .stop := by
      rw [policyOf_eq (b := s.blocks.counted .sense false) hk, stop]
    rw [if_pos policy, report, resolves, raise_quiet (by exact hq)] at one
    rw [resolves] at counts
    have settles := conclude_settles (a := s.blocks.counted .sense false) (r := (((((s.blocks.counted .sense false).resolvedAs c
        .misinserted).onCounters fun n => { n with statistics := statistics }).onAlarm fun a => a.occur 19 r.context), false))
      (reactRise_unplanned (codes := [19]) rfl (.one 19 _) (by simpa using unmoved)
        (resolvedAs_nothing (fun e he _ => nothing e he) .misinserted).unplanned) rfl (List.pairwise_singleton _ _) (.inl rfl)
    refine ⟨_, taken _ (one h), ⟨⟨⟨settles.shaft, settles.record.trans hr, settles.inhibit, settles.lock, rfl⟩, settles.chain,
      settles.board⟩, fun k hk hs => ?_⟩, ?_, ?_⟩
    · exact (congrArg (fun n : Counters => look n.statistics k.statistics) settles.counters).trans (counts k hk hs)
    · exact look_of_eq settles.alarm (Alarm.occur_struck (by decide) _ _)
    · exact (Alarm.RaisedOnly.one 19 r.context).elsewhere.of_eq settles.alarm
  · rw [returnStep_bad (b := s.blocks.counted .sense false) hs hc unresolved bad] at none
    have settles := conclude_settles (a := s.blocks.counted .sense false)
      (r := ((s.blocks.counted .sense false).resolvedAs { c with badImage := true } .skippedBadImage, false))
      (reactRise_of_same rfl) rfl (List.pairwise_singleton _ _) (.inl rfl)
    exact ⟨_, taken _ (none ha hb), ⟨settles.shaft, settles.record.trans hr, settles.inhibit, settles.lock, rfl⟩,
      settles.chain, settles.alarm, settles.board⟩
  · rw [returnStep_returned (b := s.blocks.counted .sense false) hs hc good hq only (.inr within)] at none
    have settles := conclude_settles (a := s.blocks.counted .sense false)
      (r := ((s.blocks.counted .sense false).requeued c Return.lost.counted, true)) (l := [])
      (reactRise_of_same rfl) (List.append_nil _).symm .nil (.inr (.inr blocked))
    exact ⟨_, taken _ (none ha hb), ⟨settles.shaft, settles.record.trans hr, settles.inhibit, settles.lock, rfl⟩,
      settles.chain, settles.alarm, settles.board⟩
  · rw [returnStep_returned (b := s.blocks.counted .sense false) hs hc good hq only (.inr within)] at none
    have plans := conclude_plans (a := s.blocks.counted .sense false)
      (r := ((s.blocks.counted .sense false).requeued c Return.lost.counted, true)) (l := [])
      (reactRise_of_same rfl) (List.append_nil _).symm .nil (withContext_sound hs) hq note
    exact ⟨_, taken _ (none ha hb), plans.holdsReturned (x := c.returned true) (withContext_context?_self hc) sound,
      fun n => plans.others rfl only⟩
  · rw [returnStep_failed (b := s.blocks.counted .sense false) hs hc unresolved good hq rfl beyond] at none
    have settles := conclude_settles (a := s.blocks.counted .sense false) (r := (((s.blocks.counted .sense false).resolvedAs c
        .failed).onAlarm fun a => a.occur 18 ⟨some c.number, c.source, some c.kind⟩, false))
      (reactRise_unplanned (codes := [18]) rfl (.one 18 _) (by simpa using unmoved)
        (resolvedAs_nothing only .failed).unplanned) rfl (List.pairwise_singleton _ _) (.inl rfl)
    refine ⟨_, taken _ (none ha hb), ⟨⟨settles.shaft, settles.record.trans hr, settles.inhibit, settles.lock, rfl⟩,
      settles.chain, settles.board⟩, ?_, ?_⟩
    · exact look_of_eq settles.alarm (Alarm.occur_struck (by decide) _ _)
    · exact (Alarm.RaisedOnly.one 18 _).elsewhere.of_eq settles.alarm

end Sys2Proof.Machine
end

section
/-! # Departures by the gate and by the stripper -/

namespace Sys2Proof.Machine

set_option Elab.async false

variable {a b c : Blocks} {x : StepContext} {o : Component}

/-! ## The end of a departure -/

/-- From `b` to `c` component `o` has left: its source's proof is cleared (R47), and the event has settled. -/
structure Blocks.Leaves (o : Component) (b c : Blocks) : Prop where
  shaft : c.shaft = b.shaft
  chain : c.chain = b.chain
  board : c.board = b.board
  alarm : c.alarm = b.alarm
  lock : c.positioner.lock = b.positioner.lock
  record : c.head.record = b.head.record
  freeze : b.planner.freeze = false → c.planner.freeze = false
  counters : c.counters = b.counters
  verifier : c.verifier = b.verifier
  dispensers : ∀ e, e < 96 → look c.source.dispensers e =
    if o.source = some e ∧ (o.verify = .unmeasured ∨ o.unjudged = true) then
      { look b.source.dispensers e with proving := false } else look b.source.dispensers e

theorem Blocks.Settles.leaves (h : (b.proved o).Settles c) : b.Leaves o c := by
  obtain ⟨shaft, chain, board, alarm, positioner, head, counters, planner, verifier⟩ := proved_frame b o
  refine ⟨h.shaft.trans shaft, h.chain.trans chain, h.board.trans board, h.alarm.trans alarm,
    h.lock.trans (congrArg Positioner.lock positioner), h.record.trans (congrArg Head.record head),
    fun f => h.freeze ((congrArg Planner.freeze planner).trans f), h.counters.trans counters, h.verifier.trans verifier,
    fun e he => ?_⟩
  rw [h.dispensers]
  exact proved_dispensers b o he

theorem Blocks.Leaves.settle {d : Blocks} (h : b.Leaves o c) (h' : c.Settles d) : b.Leaves o d :=
  ⟨h'.shaft.trans h.shaft, h'.chain.trans h.chain, h'.board.trans h.board, h'.alarm.trans h.alarm, h'.lock.trans h.lock,
    h'.record.trans h.record, fun f => h'.freeze (h.freeze f), h'.counters.trans h.counters, h'.verifier.trans h.verifier,
    fun e he => by rw [h'.dispensers]; exact h.dispensers e he⟩

/-- R60: whether a planning event makes a pass is a matter of the demand, the machine's state and the freeze. -/
theorem Blocks.plansNothing.of_le (h : b.plansNothing) (hf : b.planner.freeze = false) (hd : b.alarm.demand ≤ c.alarm.demand)
    (hs : c.shaft = b.shaft) : c.plansNothing := by
  unfold Blocks.plansNothing at h ⊢
  rw [hs]
  rcases h with h | h | h | h | h
  · exact .inl (by omega)
  · exact .inr (.inl h)
  · exact .inr (.inr (.inl h))
  · exact .inr (.inr (.inr (.inl h)))
  · rw [hf] at h
    cases h

section

variable {r : Blocks × Bool} {l : List Nat} (gate : Bool)
variable (react : ∀ t : Blocks, t.alarm = r.1.alarm → t.shaft = r.1.shaft → t.board = r.1.board →
    ∃ cause, reactRise a.alarm t = setStopCause cause t)
  (order : r.1.board.reportOrder = a.board.reportOrder ++ l) (sorted : l.Pairwise (· ≤ ·)) (hq : r.1.counters.quiet)
include react order sorted hq

/-- R47, R83: a departure after which nothing is to be planned, or no pass is made. -/
theorem conclude_leave (hf : r.1.planner.freeze = false)
    (idle : (r.2 = false ∧ o.source = none) ∨ r.1.board.nothingToPlan ∨ r.1.plansNothing) :
    r.1.Leaves o (conclude a (o.leave gate r)) := by
  obtain ⟨t, due, e, settles, undue⟩ := leave_eq gate o hq
  have leaves : r.1.Leaves o t := settles.leaves
  rw [e]
  refine leaves.settle (conclude_settles (r := (t, r.2 || due)) (react t leaves.alarm leaves.shaft leaves.board)
    ((congrArg Board.reportOrder leaves.board).trans order) sorted ?_)
  rcases idle with ⟨none, source⟩ | nothing | blocked
  · exact .inl (by simp [none, undue hf source])
  · exact .inr (.inl (leaves.board ▸ nothing))
  · exact .inr (.inr (blocked.of_le hf (leaves.alarm ▸ le_rfl) leaves.shaft))

/-- R59, R83: a departure that a planning pass may follow. -/
theorem conclude_leave_plans (hs : r.1.board.sound) (hn : (look r.1.alarm.codes 25).cls = .note) :
    ∃ t, r.1.Leaves o t ∧ t.Plans (conclude a (o.leave gate r)) := by
  obtain ⟨t, due, e, settles, -⟩ := leave_eq gate o hq
  have leaves : r.1.Leaves o t := settles.leaves
  refine ⟨t, leaves, ?_⟩
  rw [e]
  refine conclude_plans (r := (t, r.2 || due)) (react t leaves.alarm leaves.shaft leaves.board)
    ((congrArg Board.reportOrder leaves.board).trans order) sorted ?_ ?_ ?_
  · exact leaves.board ▸ hs
  · exact leaves.counters ▸ hq
  · exact leaves.alarm ▸ hn

end

/-- R47, R83: a component that names neither a step nor a source takes nothing along. -/
theorem conclude_leave_nameless (gate : Bool) (h : o.nameless) (hq : b.counters.quiet) (hf : b.planner.freeze = false)
    (ha : b.alarm = a.alarm) (ho : b.board = a.board) : conclude a (o.leave gate (b.departed o)) = choose b := by
  obtain ⟨step, source⟩ := h
  have left : o.leave gate (b.departed o) = (choose b, false) := by
    simp only [Blocks.departed, step, Component.leave, source]
    rw [countEvent_quiet hq, settlePurge_of_unfrozen hf]
    rfl
  rw [left, conclude, planIf_false, ← ha, ← choose_alarm, reactRise_same]
  exact orderReports_of_same (by rw [choose_board, ho])

/-! ## The four ends of a departure (R32, R74, R75, R83) -/

/-- R75: the reasons of a slot that count against its step. -/
def Component.counts (o : Component) : Bool :=
  decide (o.reason = some .verify) || decide (o.reason = some .missing) || decide (o.reason = some .gateFail)

theorem Component.counted_eq (o : Component) : (Return.slot o.reason).counted = o.counts := by
  unfold Component.counts
  rcases o.reason with _ | r
  · rfl
  · cases r <;> rfl

theorem departed_of_none (h : o.step = none) (b : Blocks) : b.departed o = (b, false) := by
  rw [Blocks.departed, h]

section

variable (step : o.step = some x.number) (hs : b.board.sound) (hx : b.board.context? x.number = some x)
include step hs hx

theorem departed_bad (hr : x.state ≠ .resolved) (hg : b.board.goodMask.getLsbD x.image = false) :
    b.departed o = (b.resolvedAs { x with badImage := true } .skippedBadImage, false) := by
  rw [Blocks.departed, step]
  exact returnStep_bad hs hx hr hg _

theorem departed_returned (hg : b.board.goodMask.getLsbD x.image = true) (hq : b.counters.quiet)
    (only : b.board.nothingElseToPlan x.number) (hw : o.counts = false ∨ x.makeUps + 1 ≤ b.planner.makeUpLimit) :
    b.departed o = (b.requeued x o.counts, true) := by
  rw [← o.counted_eq] at hw ⊢
  rw [Blocks.departed, step]
  exact returnStep_returned hs hx hg hq only hw

theorem departed_failed (hr : x.state ≠ .resolved) (hg : b.board.goodMask.getLsbD x.image = true) (hq : b.counters.quiet)
    (counted : o.counts = true) (hw : ¬ x.makeUps + 1 ≤ b.planner.makeUpLimit) : b.departed o
      = ((b.resolvedAs x .failed).onAlarm fun a => a.occur 18 ⟨some x.number, x.source, some x.kind⟩, false) := by
  rw [← o.counted_eq] at counted
  rw [Blocks.departed, step]
  exact returnStep_failed hs hx hr hg hq counted hw

end

/-- R83: the blocks with chain `k` and the slot of the departing component EMPTY. -/
def Blocks.vacated (b : Blocks) (k : Chain) (pitch : Nat) : Blocks :=
  { b with chain := { k with slots := b.chain.slots.set pitch .empty } }

theorem vacated_sound {k : Chain} {pitch : Nat} (hk : k.slots = b.chain.slots) (h : k.sound) :
    (b.vacated k pitch).chain.sound := by
  rw [Blocks.vacated, ← hk]
  exact Chain.sound_of_set pitch .empty h

theorem depart_vacated (gate : Bool) {pitch : Nat} {k : Chain} (hk : k.slots = b.chain.slots)
    (ho : b.chain.slotOf pitch = .occupied o) :
    depart gate pitch { b with chain := k } = o.leave gate ((b.vacated k pitch).departed o) := by
  have occupied : ({ b with chain := k } : Blocks).chain.slotOf pitch = .occupied o := by
    rw [← ho]
    simp [Chain.slotOf, hk]
  rw [depart_of_occupied gate occupied, Blocks.vacated, ← hk]
  rfl

theorem exec_gateHomeAsserted (s : State) :
    exec .gateHomeAsserted s = .next { s with blocks := gateReturns s.blocks } := rfl

theorem exec_stripSensorPulse (s : State) :
    exec .stripSensorPulse s = .next { s with blocks := stripPulse s.blocks } := rfl

/-- R88, R99: what the gate's return home and the STRIP pulse end, said once for both. -/
theorem departure_ends {s : State} {pitch : Nat} (ho : s.blocks.chain.slotOf pitch = .occupied o)
    {after : State → Chain → Prop}
    (h : ∀ gate (k : Chain), k.slots = s.blocks.chain.slots → (s.blocks.chain.sound → k.sound) →
      after { s with blocks := conclude s.blocks (o.leave gate ((s.blocks.vacated k pitch).departed o)) }
        (s.blocks.vacated k pitch).chain) :
    (s.blocks.chain.gatePending = some pitch → s.blocks.chain.gateFire = false → s.blocks.shaft.isOpen .gate = true →
      ∃ t, exec .gateHomeAsserted s = .next t ∧ t.link = s.link
        ∧ after t { s.blocks.chain with gatePending := none, slots := s.blocks.chain.slots.set pitch .empty })
    ∧ (s.blocks.chain.stripPending = some pitch →
      ∃ t, exec .stripSensorPulse s = .next t ∧ t.link = s.link
        ∧ after t { s.blocks.chain with stripPending := none, slots := s.blocks.chain.slots.set pitch .empty }) := by
  constructor
  · intro pending fire opened
    have returns : gateReturns s.blocks = conclude s.blocks
        (o.leave true ((s.blocks.vacated { s.blocks.chain with gatePending := none } pitch).departed o)) := by
      unfold gateReturns
      rw [pending]
      dsimp only
      rw [if_pos ⟨fire, opened⟩]
      exact congrArg (conclude s.blocks) (depart_vacated (k := { s.blocks.chain with gatePending := none }) true rfl ho)
    rw [exec_gateHomeAsserted, returns]
    exact ⟨_, rfl, rfl, h true { s.blocks.chain with gatePending := none } rfl id⟩
  · intro pending
    have strips : stripPulse s.blocks = conclude s.blocks
        (o.leave false ((s.blocks.vacated { s.blocks.chain with stripPending := none } pitch).departed o)) := by
      unfold stripPulse
      rw [pending]
      exact congrArg (conclude s.blocks) (depart_vacated (k := { s.blocks.chain with stripPending := none }) false rfl ho)
    rw [exec_stripSensorPulse, strips]
    exact ⟨_, rfl, rfl, h false { s.blocks.chain with stripPending := none } rfl id⟩

end Sys2Proof.Machine
end

section
/-! # What a stop and a planning event leave of the chain map -/

/-! The map itself stays under all that the stop demand asks for and under a planning event; and with no strip and no gate
action pending no component leaves it, and no STRIPPING step changes (R60, R72, R88, R100, R134, R152). -/

namespace Sys2Proof.Machine

set_option Elab.async false

variable {E : Prop} {a b c : Blocks}

/-- From `b` to `c` the map has not moved and no strip has begun, nor, where `E` says that no planning pass was made, has an
EMPTY slot been taken. -/
structure Blocks.Retires (E : Prop) (b c : Blocks) : Prop where
  outline : c.board.outline = b.board.outline
  pointer : c.chain.pointer = b.chain.pointer
  strip : b.chain.stripPending = none → c.chain.stripPending = none
  empty : E → ∀ pitch, b.chain.slotOf pitch = .empty → c.chain.slotOf pitch = .empty

theorem Blocks.Retires.refl (E : Prop) (b : Blocks) : b.Retires E b := ⟨rfl, rfl, id, fun _ _ => id⟩

theorem Blocks.Retires.trans (h : a.Retires E b) (h' : b.Retires E c) : a.Retires E c :=
  ⟨h'.outline.trans h.outline, h'.pointer.trans h.pointer, fun s => h'.strip (h.strip s),
    fun e pitch s => h'.empty e pitch (h.empty e pitch s)⟩

theorem Blocks.Retires.of_same (hc : c.chain = b.chain) (ho : c.board.outline = b.board.outline) : b.Retires E c :=
  ⟨ho, by rw [hc], fun s => by rw [hc]; exact s, fun _ _ s => by rw [hc]; exact s⟩

/-- R88, R99: no strip and no gate action is pending. -/
def Chain.rests (k : Chain) : Prop := k.stripPending = none ∧ k.gatePending = none ∧ k.gateFire = false

/-- As `Retires`, and where no strip and no gate action was pending none is, the components on the chain stay as they are,
and so does a STRIPPING step. -/
structure Blocks.Abides (E : Prop) (b c : Blocks) : Prop extends b.Retires E c where
  rests : b.chain.rests → c.chain.rests
  occupied : b.chain.rests → ∀ pitch o, b.chain.slotOf pitch = .occupied o → c.chain.slotOf pitch = .occupied o
  contexts : b.chain.rests → b.board.sound → ∀ n x, b.board.context? n = some x → x.state = .stripping →
    c.board.context? n = some x

theorem Blocks.Abides.refl (E : Prop) (b : Blocks) : b.Abides E b :=
  { Blocks.Retires.refl E b with rests := id, occupied := fun _ _ _ => id, contexts := fun _ _ _ _ h _ => h }

theorem Blocks.Abides.trans (h : a.Abides E b) (h' : b.Abides E c) : a.Abides E c :=
  { h.toRetires.trans h'.toRetires with
    rests := fun r => h'.rests (h.rests r)
    occupied := fun r pitch o s => h'.occupied (h.rests r) pitch o (h.occupied r pitch o s)
    contexts := fun r s n x hx hs => h'.contexts (h.rests r) (Board.sound_of_outline h.outline s) n x
      (h.contexts r s n x hx hs) hs }

/-- A change that leaves the map but for the grant, and every context. -/
theorem Blocks.Abides.of_map (hc : c.chain = { b.chain with grant := c.chain.grant })
    (ho : c.board.outline = b.board.outline) (hn : ∀ n, c.board.context? n = b.board.context? n) : b.Abides E c := by
  generalize c.chain.grant = g at hc
  constructor
  · constructor
    · exact ho
    · rw [hc]
    · exact fun s => by rw [hc]; exact s
    · exact fun _ _ s => by rw [hc]; exact s
  · exact fun s => by rw [hc]; exact s
  · exact fun _ _ _ s => by rw [hc]; exact s
  · exact fun _ _ n x hx _ => (hn n).trans hx

theorem Blocks.Abides.of_same (hc : c.chain = b.chain) (hb : c.board = b.board) : b.Abides E c :=
  .of_map (by rw [hc]) (by rw [hb]) (by simp [hb])

/-- Where a strip or a gate action was pending, no more is claimed than `Retires`. -/
theorem Blocks.Retires.abides (h : b.Retires E c) (hr : ¬ b.chain.rests) : b.Abides E c :=
  { h with rests := fun r => absurd r hr, occupied := fun r => absurd r hr, contexts := fun r => absurd r hr }

/-! ## Reservations cancelled (R69, R72) -/

theorem undoReservation_occupied (n : Nat) {pitch : Nat} {o : Component} (h : b.chain.slotOf pitch = .occupied o) :
    (undoReservation n b).1.chain.slotOf pitch = .occupied o := by
  unfold undoReservation
  split
  · exact h
  · next p hp =>
    split
    · next hd =>
      dsimp only
      rw [choose_chain, clearProving_chain, Blocks.onStep_chain, setSlot_slotOf_of_ne _ (by rintro rfl; rw [h] at hd; cases hd)]
      exact h
    · exact h

theorem cancelFrom_occupied (k : Nat) {pitch : Nat} {o : Component} (h : b.chain.slotOf pitch = .occupied o) :
    (cancelFrom k b).chain.slotOf pitch = .occupied o := by
  unfold cancelFrom
  generalize b.board.plannedFrom k = l
  induction l generalizing b with
  | nil => exact h
  | cons n l ih => exact ih (undoReservation_occupied n h)

theorem cancelFrom_abides (k : Nat) (b : Blocks) : b.Abides E (cancelFrom k b) := by
  have touched := cancelFrom_touches k b
  have frame := touched.frame
  constructor
  · constructor
    · exact touched.outline
    · exact (congrArg Chain.pointer frame : _)
    · exact fun s => (congrArg Chain.stripPending frame : _).trans s
    · exact fun _ pitch s => (touched.slots pitch fun n hn => by rw [s] at hn; cases hn).trans s
  · exact fun ⟨strip, gate, fire⟩ => ⟨(congrArg Chain.stripPending frame : _).trans strip,
      (congrArg Chain.gatePending frame : _).trans gate, (congrArg Chain.gateFire frame : _).trans fire⟩
  · exact fun _ _ _ => cancelFrom_occupied k
  · exact fun _ hs n x hx stripping => (touched.contexts n (hs.not_mem_plannedContexts hx
      fun planned => by rw [stripping] at planned; cases planned)).trans hx

theorem noteBlocked_abides (b : Blocks) : b.Abides E (noteBlocked b) := .of_same (by simp) (by simp)

theorem choose_abides (b : Blocks) : b.Abides E (choose b) := .of_same (choose_chain b) (choose_board b)

theorem holdOnset_abides (b : Blocks) : b.Abides E (holdOnset b) :=
  (cancelFrom_abides 0 b).trans (noteBlocked_abides _)

/-! ## A departure (R83) -/

theorem setSlot_empty_retires (pitch : Nat) (b : Blocks) : b.Retires E (b.setSlot pitch .empty) := by
  refine { Blocks.Retires.refl E b with empty := fun _ q hq => ?_ }
  by_cases e : q = pitch
  · subst e
    by_cases lt : q < b.chain.slots.length
    · exact setSlot_slotOf_self _ lt
    · exact (setSlot_slotOf_of_le _ (by omega) q).trans hq
  · exact (setSlot_slotOf_of_ne _ e).trans hq

theorem returnStep_retires (n : Nat) (why : Return) (b : Blocks) : b.Retires E (returnStep n why b).1 := by
  unfold returnStep
  split
  · exact .refl E b
  · split
    · exact .of_same (by simp) (by simp)
    · split
      · split
        · refine Blocks.Retires.trans ?_ (cancelFrom_abides n _).toRetires
          exact .of_same (by simp) (by simp [onStep_outline])
        · exact .of_same (by simp) (by simp)
      · refine Blocks.Retires.trans ?_ (cancelFrom_abides n _).toRetires
        exact .of_same rfl (onStep_outline b n StepContext.requeue_number)

theorem leave_map (gate : Bool) (o : Component) (r : Blocks × Bool) :
    (o.leave gate r).1.chain = r.1.chain ∧ (o.leave gate r).1.board = r.1.board := by
  unfold Component.leave
  dsimp only
  rw [choose_chain, choose_board, settlePurge_chain, settlePurge_board, countEvent_chain, countEvent_board]
  (repeat' split) <;> exact ⟨by simp, by simp⟩

theorem depart_retires (gate : Bool) (pitch : Nat) (b : Blocks) : b.Retires E (depart gate pitch b).1 := by
  cases ho : b.chain.slotOf pitch with
  | empty => simp only [depart, ho]; exact .refl E b
  | reserved _ _ => simp only [depart, ho]; exact .refl E b
  | occupied o =>
    rw [depart_of_occupied gate ho]
    obtain ⟨chain, board⟩ := leave_map gate o ((b.setSlot pitch .empty).departed o)
    refine ((setSlot_empty_retires pitch b).trans ?_).trans (.of_same chain (by rw [board]))
    unfold Blocks.departed
    split
    · exact returnStep_retires _ _ _
    · exact .refl E _

/-! ## All that the stop demand asks for (R16, R17, R144) -/

theorem interruptInsertion_abides (b : Blocks) : b.Abides E (interruptInsertion b) := by
  unfold interruptInsertion
  split
  · exact .refl E b
  · next r _ =>
    have number : ∀ x : StepContext, (if x.state = .inserting then { x with state := .uncertain } else x).number = x.number :=
      fun x => by split <;> rfl
    refine ⟨.of_same rfl (onStep_outline b r.step number), id, fun _ _ _ => id, fun _ _ n x hx hs => ?_⟩
    by_cases e : n = r.step
    · subst e
      exact (onStep_context?_self number hx).trans (by simp [hs])
    · exact (onStep_context?_of_ne number e).trans hx

theorem cutOffStrip_abides (b : Blocks) : b.Abides E (cutOffStrip b) := by
  unfold cutOffStrip
  split
  · exact .refl E b
  · next pitch pending =>
    split
    · refine Blocks.Retires.abides (Blocks.Retires.trans ?_ (depart_retires false pitch _)) fun rests => ?_
      · exact { Blocks.Retires.refl E b with strip := fun _ => rfl }
      · rw [rests.1] at pending
        cases pending
    · exact .refl E b

theorem cutOffGate_abides (b : Blocks) : b.Abides E (cutOffGate b) := by
  unfold cutOffGate
  split
  · exact .refl E b
  · next pitch pending =>
    refine Blocks.Retires.abides (Blocks.Retires.trans ?_ (depart_retires true pitch _)) fun rests => ?_
    · exact { Blocks.Retires.refl E b with }
    · rw [rests.2.1] at pending
      cases pending

theorem orderReports_abides (a b : Blocks) : b.Abides E (orderReports a b) := .of_map rfl (by simp) fun _ => rfl

theorem cutShort_abides (b : Blocks) : b.Abides E (cutShort b) := by
  unfold cutShort
  split
  · have work : b.Abides E (cutOffGate (endMeasurement (dropFireFrame (cutOffStrip b)))) :=
      ((cutOffStrip_abides b).trans (c := endMeasurement (dropFireFrame (cutOffStrip b))) (.of_same rfl rfl)).trans
        (cutOffGate_abides _)
    exact ((work.trans (orderReports_abides b _)).trans (interruptInsertion_abides _)).trans (.of_same rfl rfl)
  · exact .refl E b

theorem brake_abides (b : Blocks) : b.Abides E (brake b) := by
  refine Blocks.Abides.trans ?_ (cutShort_abides _)
  exact .of_map rfl rfl fun _ => rfl

theorem enterHalted_abides (b : Blocks) : b.Abides E (enterHalted b) := by
  simp only [enterHalted]
  refine Blocks.Abides.trans ?_ (noteBlocked_abides _)
  refine Blocks.Abides.trans ?_ (cancelFrom_abides 0 _)
  exact .of_map rfl rfl fun _ => rfl

theorem stopNow_abides (b : Blocks) : b.Abides E (stopNow b) := by
  rcases stopNow_cases b with ⟨-, e⟩ | ⟨-, e⟩ | ⟨-, e⟩ <;> rw [e]
  · exact (brake_abides b).trans (enterHalted_abides _)
  · exact enterHalted_abides b
  · exact .refl E b

theorem stopAtPark_abides (b : Blocks) : b.Abides E (stopAtPark b) := by
  rcases stopAtPark_cases b with ⟨-, e | e | e⟩ | ⟨-, e⟩ | ⟨-, e⟩ <;> rw [e]
  · exact (brake_abides b).trans (enterHalted_abides _)
  · exact .refl E b
  · exact .of_same rfl rfl
  · exact enterHalted_abides b
  · exact .refl E b

theorem reactRise_abides (before : Alarm) (b : Blocks) : b.Abides E (reactRise before b) := by
  unfold reactRise
  dsimp only
  have held : b.Abides E (if before.demand < 2 ∧ 2 ≤ b.alarm.demand then holdOnset b else b) := by
    split
    · exact holdOnset_abides b
    · exact .refl E b
  split
  · exact held.trans (stopNow_abides _)
  · split
    · exact held.trans (stopAtPark_abides _)
    · exact held

theorem raise_abides (code : Nat) (context : AlarmContext) (b : Blocks) : b.Abides E (raise code context b) :=
  .of_same (by simp) (by simp)

theorem occur_abides (code : Nat) (context : AlarmContext) (b : Blocks) : b.Abides E (occur code context b) :=
  (raise_abides code context b).trans (reactRise_abides _ _)

/-! ## A planning event (R60 to R67) -/

theorem setStopCause_abides (cause : StopCause) (b : Blocks) : b.Abides E (setStopCause cause b) := .of_same rfl rfl

theorem settleWaiting_abides (b : Blocks) : b.Abides E (settleWaiting b) := by
  unfold settleWaiting
  (repeat' split)
  · exact .of_same rfl rfl
  · exact .of_map rfl rfl fun _ => rfl
  · exact .refl E b
  · exact .refl E b

theorem reserve_abides {n kind index d j : Nat} (hq : b.board.sound → ∀ x, b.board.context? n = some x → x.state ≠ .stripping)
    (hj : j < b.chain.length) (hb : b.baseOffset d ≤ j) : b.Abides False (reserve n kind index d j b) := by
  have empty : b.chain.slotOf (b.chain.pitchAt j) = .empty :=
    Chain.slotAt_empty_of_frontier hj ((le_max_left _ _).trans hb)
  have taken : b.Abides False ((b.setSlot (b.chain.pitchAt j) (.reserved n d)).onStep n fun c =>
      { c with state := .planned, source := some d, slot := some (b.chain.pitchAt j) }) := by
    constructor
    · exact ⟨onStep_outline (b.setSlot _ _) n fun _ => rfl, rfl, id, nofun⟩
    · exact id
    · exact fun _ pitch o ho => (setSlot_slotOf_of_ne _ (by rintro rfl; rw [empty] at ho; cases ho)).trans ho
    · intro _ hs m x hx stripping
      refine (onStep_context?_of_ne (b := b.setSlot (b.chain.pitchAt j) (.reserved n d))
        (f := fun c => { c with state := .planned, source := some d, slot := some (b.chain.pitchAt j) })
        (fun _ => rfl) ?_).trans hx
      rintro rfl
      exact hq hs x hx stripping
  simp only [reserve]
  refine Blocks.Abides.trans ?_ (settleWaiting_abides _)
  refine Blocks.Abides.trans ?_ (choose_abides _)
  split
  · exact taken.trans (.of_same rfl rfl)
  · exact taken.trans (.of_same rfl rfl)

theorem stopNoSource_abides (n kind : Nat) (b : Blocks) : b.Abides E (stopNoSource n kind b) := by
  simp only [stopNoSource]
  split
  · exact setStopCause_abides _ b
  · refine Blocks.Abides.trans ?_ (occur_abides _ _ _)
    exact .of_same rfl rfl

/-- R61 to R67: a pass over steps none of which is STRIPPING. -/
theorem planPass_abides (l : List Nat) (b : Blocks) (hq : b.board.sound →
    l.Nodup ∧ ∀ n ∈ l, ∀ x, b.board.context? n = some x → x.state ≠ .stripping) : b.Abides False (planPass l b) := by
  induction l generalizing b with
  | nil => exact setStopCause_abides _ b
  | cons n rest ih =>
    have hrest := fun s => (hq s).2 n List.mem_cons_self
    have later : ∀ c : Blocks, c.board.outline = b.board.outline →
        (∀ m, m ≠ n → c.board.context? m = b.board.context? m) → c.Abides False (planPass rest c) := fun c ho hc => by
      refine ih c fun s => ?_
      obtain ⟨nodup, steps⟩ := hq (Board.sound_of_outline ho.symm s)
      obtain ⟨fresh, nodup⟩ := List.nodup_cons.mp nodup
      refine ⟨nodup, fun m hm y hy => ?_⟩
      rw [hc m (by rintro rfl; exact fresh hm)] at hy
      exact steps m (List.mem_cons_of_mem n hm) y hy
    unfold planPass
    split
    · exact later b rfl fun _ _ => rfl
    · next x _ =>
      split
      · exact stopNoSource_abides _ _ b
      · split
        · exact stopNoSource_abides _ _ b
        · split
          · exact setStopCause_abides _ b
          · next choice hc =>
            obtain ⟨hj, hb⟩ := Blocks.offsetFor_eq_some (Blocks.choice_eq_some hc)
            have reserved := reserve_abides (kind := x.kind) (index := choice.1) hrest hj hb
            exact reserved.trans (later _ reserved.outline fun m hm => reserve_context?_of_ne hm)

theorem planningEvent_abides (b : Blocks) : b.Abides False (planningEvent b) := by
  unfold planningEvent
  split
  · exact setStopCause_abides _ b
  · refine planPass_abides _ b fun hs => ⟨hs.queue.1, fun n hn x hx stripping => ?_⟩
    have queued := hs.queue.2 n hn x hx
    rw [stripping] at queued
    cases queued

theorem planIf_abides (due : Bool) (b : Blocks) : b.Abides False (planIf due b) := by
  cases due
  · exact .refl False b
  · rw [planIf_true]
    exact planningEvent_abides b

theorem conclude_abides (a : Blocks) (r : Blocks × Bool) : r.1.Abides False (conclude a r) :=
  ((reactRise_abides _ _).trans (planIf_abides _ _)).trans (orderReports_abides _ _)

theorem settlePurge_abides (b : Blocks) : b.Abides E (settlePurge b).1 := .of_same (by simp) (by simp)

/-! ## The codes that a planning event raises (R61) -/

theorem reserve_alarm (n kind index d j : Nat) (b : Blocks) : (reserve n kind index d j b).alarm = b.alarm := by
  simp only [reserve, settleWaiting]
  (repeat' split) <;> simp [enterStopped, startTurning]

section

variable {code : Nat} (hc : code < 28) (h18 : code ≠ 18) (h25 : code ≠ 25)
include hc h18 h25

theorem stopNoSource_spares (n kind : Nat) (b : Blocks) :
    look (stopNoSource n kind b).alarm.codes code = look b.alarm.codes code := by
  simp only [stopNoSource]
  split
  · rfl
  · rw [occur, reactRise_spares hc h18, raise_spares hc h25.symm]
    rfl

theorem planPass_spares (l : List Nat) (b : Blocks) : look (planPass l b).alarm.codes code = look b.alarm.codes code := by
  induction l generalizing b with
  | nil => rfl
  | cons n rest ih =>
    unfold planPass
    split
    · exact ih b
    · split
      · exact stopNoSource_spares hc h18 h25 _ _ b
      · split
        · exact stopNoSource_spares hc h18 h25 _ _ b
        · split
          · rfl
          · rw [ih, reserve_alarm]

theorem planningEvent_spares (b : Blocks) : look (planningEvent b).alarm.codes code = look b.alarm.codes code := by
  unfold planningEvent
  split
  · rfl
  · exact planPass_spares hc h18 h25 _ b

theorem conclude_spares (a : Blocks) (r : Blocks × Bool) :
    look (conclude a r).alarm.codes code = look r.1.alarm.codes code := by
  have planned : ∀ b, look (planIf r.2 b).alarm.codes code = look b.alarm.codes code := fun b => by
    cases r.2
    · rfl
    · rw [planIf_true]
      exact planningEvent_spares hc h18 h25 b
  rw [conclude, orderReports_alarm, planned, reactRise_spares hc h18]

end

end Sys2Proof.Machine
end

section
/-! # The reject gate and the stripper -/

namespace Sys2Proof.Machine

set_option Elab.async false

variable {b : Blocks} {o : Component} {pitch : Nat}

/-! ## Nothing pending (R88, R99) -/

theorem gateReturns_of_none (h : b.chain.gatePending = none) : gateReturns b = b := by
  unfold gateReturns
  rw [h]

theorem stripPulse_of_none (h : b.chain.stripPending = none) : stripPulse b = b := by
  unfold stripPulse
  rw [h]

theorem gateClose_of_none (h : b.chain.gatePending = none) : gateClose b = b := by
  unfold gateClose
  rw [h]

/-- R99: GATE HOME going negated. -/
theorem exec_gateHomeNegated (s : State) : exec .gateHomeNegated s = .next (match s.blocks.chain.gatePending with
    | some _ => { s with blocks := { s.blocks with chain := { s.blocks.chain with gateFire := false } } }
    | none => s) := by
  have e : exec .gateHomeNegated s = .next { s with blocks := gateLeaves s.blocks } := rfl
  rw [e, gateLeaves]
  cases s.blocks.chain.gatePending <;> rfl

/-! ## GATE open (R99) -/

theorem gateOpen_eq (b : Blocks) :
    let turns : Bool := match b.chain.slotOf (b.chain.pitchAt b.chain.gateOffset) with
      | .occupied o => decide (o.disposition = .divert) | .reserved _ _ => false | .empty => false
    gateOpen b = { b with chain := if turns then
        { b.chain with gateDone := true, gateFire := true, gatePending := some (b.chain.pitchAt b.chain.gateOffset) }
      else { b.chain with gateDone := true } } := by
  intro turns
  have same : (b.onChain fun c => { c with gateDone := true }).chain.slotOf (b.chain.pitchAt b.chain.gateOffset)
      = b.chain.slotOf (b.chain.pitchAt b.chain.gateOffset) := rfl
  unfold gateOpen
  dsimp only
  rw [same]
  cases h : b.chain.slotOf (b.chain.pitchAt b.chain.gateOffset) with
  | empty => simp only [turns, h]; rfl
  | reserved _ _ => simp only [turns, h]; rfl
  | occupied o =>
    by_cases e : o.disposition = .divert
    · simp only [turns, h, e, if_true, decide_true]; rfl
    · simp only [turns, h, e, if_false, decide_false]; rfl

/-! ## GATE close with the gate pending (R100) -/

/-- The component whose gate action failed. -/
def Component.jammed (o : Component) : Component := { o with disposition := .strip, reason := some .gateFail }

theorem Chain.lt_of_occupied {k : Chain} (h : k.slotOf pitch = .occupied o) : pitch < k.slots.length := by
  by_contra out
  rw [Chain.slotOf_of_le (Nat.le_of_not_lt out)] at h
  cases h

/-- R100: a DIVERTING step turns to STRIPPING. -/
def StepContext.jammed (x : StepContext) : StepContext :=
  if x.state = .diverting then { x with state := .stripping } else x

theorem StepContext.jammed_number (x : StepContext) : x.jammed.number = x.number := by
  unfold StepContext.jammed
  split <;> rfl

/-- R100: the slot and the step of a failed gate action. -/
def Blocks.jammedAt (b : Blocks) (pitch : Nat) (o : Component) : Blocks :=
  match o.step with
  | some n => (b.setSlot pitch (.occupied o.jammed)).onStep n StepContext.jammed
  | none => b.setSlot pitch (.occupied o.jammed)

theorem failGate_of_occupied (ho : b.chain.slotOf pitch = .occupied o) :
    failGate pitch b = (raise 9 ⟨o.step, o.source, o.kind⟩ b).jammedAt pitch o := by
  unfold failGate
  rw [ho]
  rfl

theorem jammedAt_map (b : Blocks) (pitch : Nat) (o : Component) :
    (b.jammedAt pitch o).chain = { b.chain with slots := b.chain.slots.set pitch (.occupied o.jammed) }
      ∧ (b.jammedAt pitch o).alarm = b.alarm ∧ (b.jammedAt pitch o).board.outline = b.board.outline := by
  unfold Blocks.jammedAt
  split
  · next n _ => exact ⟨rfl, rfl, onStep_outline (b.setSlot pitch (.occupied o.jammed)) n StepContext.jammed_number⟩
  · exact ⟨rfl, rfl, rfl⟩

theorem jammedAt_context? {x : StepContext} (hn : o.step = some x.number) (hx : b.board.context? x.number = some x)
    (hd : x.state = .diverting) :
    (b.jammedAt pitch o).board.context? x.number = some { x with state := .stripping } := by
  unfold Blocks.jammedAt
  rw [hn]
  refine (onStep_context?_self (b := b.setSlot pitch (.occupied o.jammed)) StepContext.jammed_number hx).trans ?_
  simp [StepContext.jammed, hd]

/-- R100: the failure of a gate action, before what its alarm asks for. -/
theorem failGate_eq (ho : b.chain.slotOf pitch = .occupied o) :
    (failGate pitch b).chain = { b.chain with slots := b.chain.slots.set pitch (.occupied o.jammed) }
      ∧ (failGate pitch b).alarm = (raise 9 ⟨o.step, o.source, o.kind⟩ b).alarm
      ∧ (failGate pitch b).board.outline = b.board.outline
      ∧ ∀ c, o.step = some c.number → b.board.context? c.number = some c → c.state = .diverting →
        (failGate pitch b).board.context? c.number = some { c with state := .stripping } := by
  obtain ⟨chain, alarm, outline⟩ := jammedAt_map (raise 9 ⟨o.step, o.source, o.kind⟩ b) pitch o
  rw [raise_chain] at chain
  rw [raise_board] at outline
  rw [failGate_of_occupied ho]
  exact ⟨chain, alarm, outline, fun c hn found => jammedAt_context? hn (by rwa [raise_board])⟩

theorem gateClose_of_pending (hp : b.chain.gatePending = some pitch) (ho : b.chain.slotOf pitch = .occupied o)
    (hs : b.chain.stripPending = none) : (gateClose b).chain.rests
      ∧ (gateClose b).chain.slotOf pitch = .occupied o.jammed
      ∧ look (gateClose b).alarm.codes 9 = (look b.alarm.codes 9).struck ⟨o.step, o.source, o.kind⟩
      ∧ ∀ c, b.board.sound → o.step = some c.number → b.board.context? c.number = some c → c.state = .diverting →
        (gateClose b).board.context? c.number = some { c with state := .stripping } := by
  have closes : gateClose b = conclude b (settlePurge (choose
      (failGate pitch { b with chain := { b.chain with gateFire := false, gatePending := none } }))) := by
    unfold gateClose
    rw [hp]
    rfl
  obtain ⟨chain, alarm, outline, context⟩ :=
    failGate_eq (b := { b with chain := { b.chain with gateFire := false, gatePending := none } }) ho
  rw [closes]
  generalize failGate pitch { b with chain := { b.chain with gateFire := false, gatePending := none } } = failed
    at chain alarm outline context ⊢
  have abides := ((choose_abides failed).trans (settlePurge_abides _)).trans (conclude_abides b (settlePurge (choose failed)))
  have rests : failed.chain.rests := by
    rw [chain]
    exact ⟨hs, rfl, rfl⟩
  have slot : failed.chain.slotOf pitch = .occupied o.jammed := by
    rw [chain]
    exact setSlot_slotOf_self (b := b) _ (Chain.lt_of_occupied ho)
  refine ⟨abides.rests rests, abides.occupied rests pitch _ slot, ?_, fun c sound step found diverting => ?_⟩
  · rw [conclude_spares (by decide) (by decide) (by decide), settlePurge_alarm, choose_alarm, alarm]
    exact raise_look (by decide) _ _
  · exact abides.contexts rests (Board.sound_of_outline outline sound) _ _ (context c step found diverting) rfl

/-- Settles O20: each end of an action is a departure, whose step returns; GATE close fails an action that is still pending. -/
theorem gateAndStripActionsEnd : Obligations.GateAndStripActionsEnd := by
  refine ⟨fun pitch o s ho hq hf => ?_, ?_, ?_⟩
  · intro same ends settled
    have ended : ∀ after, _ → ends after := fun after => departure_ends (after := after) ho
    clear_value ends
    refine ⟨fun nameless => ?_, fun c step found unresolved bad hs only => ?_, fun step nothing => ?_,
      fun c step found unresolved good hs only => ?_⟩
    · refine ended _ fun gate k hk sound => ?_
      have e := conclude_leave_nameless (b := s.blocks.vacated k pitch) gate nameless hq hf (a := s.blocks) rfl rfl
      rw [e]
      have settles := choose_settles (s.blocks.vacated k pitch)
      exact ⟨⟨settles.shaft, settles.alarm, settles.lock, settles.record, settles.freeze hf, rfl⟩, settles.chain,
        settles.board, choose_source _, choose_planner _⟩
    · refine ended _ fun gate k hk sound => ?_
      rw [departed_bad (b := s.blocks.vacated k pitch) step hs found unresolved bad]
      have leaves := conclude_leave (o := o) (a := s.blocks) gate
        (r := ((s.blocks.vacated k pitch).resolvedAs { c with badImage := true } .skippedBadImage, false))
        (fun t ha _ _ => reactRise_of_same ha) rfl (List.pairwise_singleton _ _) hq hf (by
          cases source : o.source with
          | none => exact .inl ⟨rfl, rfl⟩
          | some d => exact .inr (.inl (resolvedAs_nothing (b := s.blocks.vacated k pitch)
              (x := { c with badImage := true }) (only (by rw [source]; nofun)) _)))
      exact ⟨⟨leaves.shaft, leaves.alarm, leaves.lock, leaves.record, leaves.freeze hf, rfl⟩, leaves.chain,
        leaves.dispensers, leaves.board⟩
    · refine ended _ fun gate k hk sound => ?_
      rw [departed_of_none step]
      have leaves := conclude_leave (o := o) (a := s.blocks) gate (r := (s.blocks.vacated k pitch, false)) (l := [])
        (fun t ha _ _ => reactRise_of_same ha) (List.append_nil _).symm .nil hq hf (.inr (.inl nothing))
      exact ⟨⟨leaves.shaft, leaves.alarm, leaves.lock, leaves.record, leaves.freeze hf, rfl⟩, leaves.chain,
        leaves.board, leaves.dispensers⟩
    · intro counts within
      have requeues := fun k => departed_returned (b := s.blocks.vacated k pitch) step hs found good hq only
      refine ⟨fun hw blocked => ?_, fun hw chain note => ?_, fun hc beyond unmoved => ?_⟩
      · refine ended _ fun gate k hk sound => ?_
        rw [requeues k hw]
        have leaves := conclude_leave (o := o) (a := s.blocks) gate (r := ((s.blocks.vacated k pitch).requeued c o.counts, true))
          (l := []) (fun t ha _ _ => reactRise_of_same ha) (List.append_nil _).symm .nil hq hf (.inr (.inr blocked))
        exact ⟨⟨leaves.shaft, leaves.alarm, leaves.lock, leaves.record, leaves.freeze hf, rfl⟩, leaves.chain,
          leaves.board, leaves.dispensers⟩
      · refine ended _ fun gate k hk sound => ?_
        rw [requeues k hw]
        obtain ⟨t, leaves, plans⟩ := conclude_leave_plans (o := o) (a := s.blocks) gate
          (r := ((s.blocks.vacated k pitch).requeued c o.counts, true))
          (l := []) (fun t ha _ _ => reactRise_of_same ha) (List.append_nil _).symm .nil hq (withContext_sound hs) note
        refine ⟨plans.holdsReturned (x := c.returned counts) ?_ ?_, fun n => plans.others leaves.board only⟩
        · rw [leaves.board]
          exact withContext_context?_self found
        · rw [leaves.chain]
          exact vacated_sound hk (sound chain)
      · refine ended _ fun gate k hk sound => ?_
        rw [departed_failed (b := s.blocks.vacated k pitch) step hs found unresolved good hq hc beyond]
        have leaves := conclude_leave (o := o) (a := s.blocks) gate (r := (((s.blocks.vacated k pitch).resolvedAs c
            .failed).onAlarm fun a => a.occur 18 ⟨some c.number, c.source, some c.kind⟩, false))
          (fun t ha hs hb => reactRise_unplanned (codes := [18]) hs (ha ▸ .one 18 _) (by simpa using unmoved)
            (hb ▸ (resolvedAs_nothing (b := s.blocks.vacated k pitch) only .failed).unplanned)) rfl
          (List.pairwise_singleton _ _) hq hf (.inr (.inl (resolvedAs_nothing (b := s.blocks.vacated k pitch) only .failed)))
        exact ⟨leaves.shaft, leaves.chain, leaves.dispensers, (Alarm.RaisedOnly.one 18 _).elsewhere.of_eq leaves.alarm,
          look_of_eq leaves.alarm (Alarm.occur_struck (by decide) _ _), leaves.board⟩
  · exact fun s => ⟨fun none => by rw [exec_gateHomeAsserted, gateReturns_of_none none],
      fun none => by rw [exec_stripSensorPulse, stripPulse_of_none none], exec_gateHomeNegated s⟩
  · refine fun station s advance => ⟨fun meets => ?_, fun meets => ⟨fun none => ?_, fun pitch o pending ho strip => ?_⟩⟩
    · rw [exec_encoderSample, forwardSample_meets station meets fun _ => advance]
      exact congrArg (fun d => Host.Outcome.next { s with blocks := d }) (gateOpen_eq (s.blocks.counted .gate true))
    · rw [exec_encoderSample, forwardSample_meets station meets fun _ => advance]
      exact congrArg (fun d => Host.Outcome.next { s with blocks := d })
        (gateClose_of_none (b := s.blocks.counted .gate false) none)
    · rw [exec_encoderSample, forwardSample_meets station meets fun _ => advance]
      obtain ⟨⟨-, gate, fire⟩, slot, alarm, context⟩ := gateClose_of_pending (b := s.blocks.counted .gate false) pending ho strip
      exact ⟨_, rfl, gate, fire, slot, alarm, context, rfl⟩

end Sys2Proof.Machine
end

section
/-! # CHAIN INDEX and INDEX close -/

namespace Sys2Proof.Machine

set_option Elab.async false

variable {E : Prop} {a b c t : Blocks} {o : Component} {x : StepContext} {pitch : Nat}

/-! ## The CHAIN INDEX pulse (R86) -/

theorem exec_chainIndexPulse (s : State) :
    exec .chainIndexPulse s = .next { s with blocks := chainPulse s.blocks } := rfl

theorem chainPulse_expected (h : (b.shaft.live && b.shaft.advance && b.shaft.isOpen .index && !b.chain.indexSeen) = true) :
    chainPulse b = b.onChain fun c => { c with indexSeen := true } := by
  simp only [Bool.and_eq_true, Bool.not_eq_true', and_assoc] at h
  exact if_pos h

theorem chainPulse_unbidden (h : (b.shaft.live && b.shaft.advance && b.shaft.isOpen .index && !b.chain.indexSeen) = false) :
    chainPulse b = occur 7 ⟨none, none, none⟩ b := by
  refine if_neg fun expected => ?_
  obtain ⟨live, advance, opened, seen⟩ := expected
  simp [live, advance, opened, seen] at h

/-! ## The parts of INDEX close (R87, R88, R169) -/

/-- A table of counters of which none changes. -/
theorem takeEach_of_still {events : Vector EventCounter 4} {f : EventCounter → EventCounter × Bool}
    (h : ∀ n, n < 4 → f (look events n) = (look events n, false)) : takeEach events f = (events, []) := by
  refine Prod.ext (table_ext fun n hn => ?_) ?_
  · simp [takeEach, look_map _ _ hn, h n hn]
  · simp only [takeEach, List.map_eq_nil_iff, List.filter_eq_nil_iff, List.mem_range]
    intro n hn
    simp [h n hn]

/-- R169: with quiet counters the index completion counts nothing. -/
theorem countCompletion_quiet (h : b.counters.quiet) : countCompletion b = b := by
  have still : ∀ n, n < 4 → EventCounter.complete b.chain.occupiedCount b.board.queue.length b.chain.frontierPlus
      (look b.counters.events n) = (look b.counters.events n, false) := fun n hn => by
    simp [EventCounter.complete, h n hn]
  simp [countCompletion, takeEach_of_still still, raiseLimits, raiseAll, Blocks.onCounters]

theorem countCompletion_frame (b : Blocks) : (countCompletion b).shaft = b.shaft ∧ (countCompletion b).chain = b.chain
    ∧ (countCompletion b).board = b.board := by
  simp [countCompletion]

theorem countCompletion_spares {code : Nat} (hc : code < 28) (b : Blocks) :
    look (countCompletion b).alarm.codes code = look b.alarm.codes code := by
  unfold countCompletion
  exact raiseLimits_spares hc _ (takeEach_codes _ _) _

/-- R87, R144: what follows the two judgments of INDEX close up to its planning event, the alarm table having been `before`
just before the event. -/
def Blocks.completed (before : Alarm) (t : Blocks) : Blocks :=
  reactRise (reactRise before t).alarm (choose (countCompletion (reactRise before t)))

theorem indexClose_eq (b : Blocks) :
    indexClose b = orderReports b (planningEvent ((judgeRunout (judgeIndex b)).1.completed b.alarm)) := rfl

theorem completed_abides (before : Alarm) (t : Blocks) : t.Abides E (t.completed before) := by
  obtain ⟨-, chain, board⟩ := countCompletion_frame (reactRise before t)
  exact (((reactRise_abides before t).trans (.of_same chain board)).trans (choose_abides _)).trans (reactRise_abides _ _)

theorem indexClose_abides (b : Blocks) : (judgeRunout (judgeIndex b)).1.Abides False (indexClose b) := by
  rw [indexClose_eq]
  exact ((completed_abides b.alarm _).trans (planningEvent_abides _)).trans (orderReports_abides _ _)

theorem indexClose_spares {code : Nat} (hc : code < 28) (h18 : code ≠ 18) (h25 : code ≠ 25) (b : Blocks) :
    look (indexClose b).alarm.codes code = look (judgeRunout (judgeIndex b)).1.alarm.codes code := by
  rw [indexClose_eq, orderReports_alarm, planningEvent_spares hc h18 h25, Blocks.completed, reactRise_spares hc h18,
    choose_alarm, countCompletion_spares hc, reactRise_spares hc h18]

theorem completed_of_quiet {before : Alarm} (h : (reactRise before t).counters.quiet) :
    t.completed before = choose (reactRise before t) := by
  rw [Blocks.completed, countCompletion_quiet h]
  have same := reactRise_same (choose (reactRise before t))
  rwa [choose_alarm] at same

/-! ### The judgments -/

theorem judgeIndex_of_seen (h : b.chain.indexSeen = true) : judgeIndex b = b := by simp [judgeIndex, h]

theorem judgeIndex_of_missing (h : b.chain.indexSeen = false) : judgeIndex b = raise 6 ⟨none, none, none⟩ b := by
  simp [judgeIndex, h]

theorem judgeIndex_frame (b : Blocks) : (judgeIndex b).shaft = b.shaft ∧ (judgeIndex b).chain = b.chain
    ∧ (judgeIndex b).board = b.board := by
  unfold judgeIndex
  split <;> simp

theorem judgeRunout_of_none (h : b.chain.stripPending = none) : judgeRunout b = (b, false) := by
  unfold judgeRunout
  rw [h]

theorem judgeRunout_of_pending (h : b.chain.stripPending = some pitch) (ho : b.chain.slotOf pitch = .occupied o) :
    judgeRunout b = depart false pitch
      (raise 8 ⟨o.step, o.source, o.kind⟩ (b.onChain fun c => { c with stripPending := none })) := by
  unfold judgeRunout
  rw [h]
  dsimp only
  rw [ho]

theorem judgeRunout_retires (b : Blocks) : b.Retires False (judgeRunout b).1 := by
  unfold judgeRunout
  split
  · exact .refl False b
  · refine Blocks.Retires.trans ?_ (depart_retires false _ _)
    refine Blocks.Retires.trans ?_ (raise_abides 8 _ _).toRetires
    exact { Blocks.Retires.refl False b with strip := fun _ => rfl }

theorem judgeRunout_spares {code : Nat} (hc : code < 28) (h8 : code ≠ 8) (h18 : code ≠ 18) (b : Blocks) :
    look (judgeRunout b).1.alarm.codes code = look b.alarm.codes code := by
  unfold judgeRunout
  split
  · rfl
  · dsimp only
    rw [depart_spares hc h18, raise_spares hc h8.symm]
    rfl

/-! ### A machine that halts plans nothing more -/

/-- The machine is HALTED, or no step is to be planned. -/
def Blocks.plansNoMore (b : Blocks) : Prop := b.shaft.machine = .halted ∨ b.board.nothingToPlan

theorem enterHalted_plansNoMore (b : Blocks) : (enterHalted b).plansNoMore := .inl (enterHalted_machine b)

theorem holdOnset_plansNoMore (h : b.plansNoMore) : (holdOnset b).plansNoMore := by
  rcases h with halted | nothing
  · exact .inl (by rw [holdOnset_shaft, halted])
  · obtain ⟨cause, e⟩ := holdOnset_of_unplanned nothing.unplanned
    rw [e]
    exact .inr nothing

theorem stopNow_plansNoMore (h : b.plansNoMore) : (stopNow b).plansNoMore := by
  rcases stopNow_cases b with ⟨-, e⟩ | ⟨-, e⟩ | ⟨-, e⟩ <;> rw [e]
  · exact enterHalted_plansNoMore _
  · exact enterHalted_plansNoMore _
  · exact h

theorem stopAtPark_plansNoMore (h : b.plansNoMore) : (stopAtPark b).plansNoMore := by
  rcases stopAtPark_cases b with ⟨-, e | e | e⟩ | ⟨-, e⟩ | ⟨-, e⟩ <;> rw [e]
  · exact enterHalted_plansNoMore _
  · exact h
  · exact h
  · exact enterHalted_plansNoMore _
  · exact h

theorem reactRise_plansNoMore (before : Alarm) (h : b.plansNoMore) : (reactRise before b).plansNoMore := by
  have held : (if before.demand < 2 ∧ 2 ≤ b.alarm.demand then holdOnset b else b).plansNoMore := by
    split
    · exact holdOnset_plansNoMore h
    · exact h
  unfold reactRise
  dsimp only
  generalize (if before.demand < 2 ∧ 2 ≤ b.alarm.demand then holdOnset b else b) = c at held ⊢
  split
  · exact stopNow_plansNoMore held
  · split
    · exact stopAtPark_plansNoMore held
    · exact held

theorem completed_plansNoMore (before : Alarm) (h : t.plansNoMore) : (t.completed before).plansNoMore := by
  obtain ⟨shaft, -, board⟩ := countCompletion_frame (reactRise before t)
  refine reactRise_plansNoMore _ ?_
  unfold Blocks.plansNoMore
  rw [choose_shaft, choose_board, shaft, board]
  exact reactRise_plansNoMore before h

/-- R60: the planning event of such a state leaves all but the stop cause. -/
theorem planningEvent_of_plansNoMore (h : b.plansNoMore) : ∃ cause, planningEvent b = setStopCause cause b := by
  rcases h with halted | nothing
  · exact planningEvent_of_plansNothing (.inr (.inl halted))
  · exact planningEvent_of_nothing nothing

/-! ### INDEX close of which nothing is asked at once -/

section

variable {due : Bool} {l : List Nat}
variable (judged : judgeRunout (judgeIndex b) = (t, due))
  (react : ∃ cause, reactRise b.alarm t = setStopCause cause t)
  (order : t.board.reportOrder = b.board.reportOrder ++ l) (sorted : l.Pairwise (· ≤ ·)) (hq : t.counters.quiet)
include judged react order sorted hq

theorem indexClose_settles (idle : t.board.nothingToPlan ∨ t.plansNothing) : t.Settles (indexClose b) := by
  obtain ⟨cause, e⟩ := react
  have settles := (setStopCause_settles cause t).trans (choose_settles _)
  have planned : ∃ cause', planningEvent (choose (setStopCause cause t))
      = setStopCause cause' (choose (setStopCause cause t)) := by
    rcases idle with nothing | blocked
    · exact planningEvent_of_nothing (settles.board ▸ nothing)
    · refine planningEvent_of_plansNothing ?_
      unfold Blocks.plansNothing at blocked ⊢
      rw [settles.alarm, settles.shaft, choose_planner]
      exact blocked
  obtain ⟨cause', e'⟩ := planned
  have all := settles.trans (setStopCause_settles cause' _)
  rw [indexClose_eq, judged]
  dsimp only
  rw [completed_of_quiet (by rw [e]; exact hq), e, e',
    orderReports_of_sorted ((congrArg Board.reportOrder all.board).trans order) sorted]
  exact all

theorem indexClose_plans (hs : t.board.sound) (hn : (look t.alarm.codes 25).cls = .note) : t.Plans (indexClose b) := by
  obtain ⟨cause, e⟩ := react
  have settles := (setStopCause_settles cause t).trans (choose_settles _)
  have plans := ((setStopCause_plans cause t).trans (choose_plans _)).trans (planningEvent_plans
    (b := choose (setStopCause cause t)) (settles.board ▸ hs) (settles.counters ▸ hq) (settles.alarm ▸ hn))
  rw [indexClose_eq, judged]
  dsimp only
  rw [completed_of_quiet (by rw [e]; exact hq), e, orderReports_of_sorted (plans.reportOrder.trans order) sorted]
  exact plans

end

/-! ## A component lost at the runout (R88) -/

/-- R88: the blocks once RUNOUT JAM has occurred and the component's slot is EMPTY. -/
def Blocks.ranOut (b : Blocks) (pitch : Nat) (o : Component) : Blocks :=
  ((b.onChain fun c => { c with stripPending := none }).onAlarm fun a => a.occur 8 ⟨o.step, o.source, o.kind⟩).setSlot pitch
    .empty

theorem judgeRunout_of_quiet (hq : b.counters.quiet) (h : b.chain.stripPending = some pitch)
    (ho : b.chain.slotOf pitch = .occupied o) :
    judgeRunout b = o.leave false ((b.ranOut pitch o).departed o) := by
  rw [judgeRunout_of_pending h ho, raise_quiet (by exact hq)]
  exact depart_of_occupied (b := (b.onChain fun c => { c with stripPending := none }).onAlarm fun a =>
    a.occur 8 ⟨o.step, o.source, o.kind⟩) false ho

theorem ranOut_slot (ho : b.chain.slotOf pitch = .occupied o) : (b.ranOut pitch o).chain.slotOf pitch = .empty :=
  setSlot_slotOf_self (b := b) .empty (Chain.lt_of_occupied ho)

/-! ### A brake with nothing pending (R8, R9, R16) -/

theorem cutShort_of_still (hs : b.chain.stripPending = none) (hg : b.chain.gatePending = none) (hr : b.head.record = none) :
    (cutShort b).chain = b.chain ∧ (cutShort b).board = b.board ∧ (cutShort b).alarm = b.alarm
      ∧ (cutShort b).counters = b.counters := by
  have strip : cutOffStrip b = b := by
    unfold cutOffStrip
    rw [hs]
  have gate : cutOffGate (endMeasurement (dropFireFrame b)) = endMeasurement (dropFireFrame b) := by
    have none : (endMeasurement (dropFireFrame b)).chain.gatePending = none := hg
    unfold cutOffGate
    rw [none]
  have head : interruptInsertion (endMeasurement (dropFireFrame b)) = endMeasurement (dropFireFrame b) := by
    have none : (endMeasurement (dropFireFrame b)).head.record = none := hr
    unfold interruptInsertion
    rw [none]
  unfold cutShort
  dsimp only
  rw [strip, gate, orderReports_of_same (a := b) (b := endMeasurement (dropFireFrame b)) rfl, head]
  split <;> exact ⟨rfl, rfl, rfl, rfl⟩

theorem enterHalted_of_unplanned (h : ∀ e ∈ b.board.window, e.state ≠ .planned) :
    (enterHalted b).chain = { b.chain with grant := false } ∧ (enterHalted b).board = b.board := by
  unfold enterHalted
  dsimp only
  rw [cancelFrom_of_unplanned (b := (b.onShaft _).onChain _) h, noteBlocked_chain, noteBlocked_board]
  exact ⟨rfl, rfl⟩

/-- R8, R16, R152: a turning machine halted with no strip, no gate action and no insertion under way, and no step PLANNED. -/
theorem stopNow_of_still (hm : b.shaft.machine.turning = true) (hs : b.chain.stripPending = none)
    (hg : b.chain.gatePending = none) (hr : b.head.record = none) (hp : ∀ e ∈ b.board.window, e.state ≠ .planned) :
    (stopNow b).shaft.machine = .halted ∧ (stopNow b).shaft.drive = .held ∧ (stopNow b).shaft.live = false
      ∧ (stopNow b).chain = { b.chain with grant := false } ∧ (stopNow b).board = b.board ∧ (stopNow b).alarm = b.alarm
      ∧ (stopNow b).counters = b.counters := by
  have halts : stopNow b = enterHalted (brake b) := by
    rcases stopNow_cases b with ⟨-, e⟩ | ⟨waiting, -⟩ | ⟨still | still, -⟩
    · exact e
    · rw [waiting] at hm; cases hm
    · rw [still] at hm; cases hm
    · rw [still] at hm; cases hm
  obtain ⟨chain, board, alarm, counters⟩ := cutShort_of_still
    (b := (b.onShaft fun s => { s with drive := .held, parkRequested := false }).onChain fun c => { c with grant := false })
    hs hg hr
  have braked : (brake b).chain = { b.chain with grant := false } := chain
  obtain ⟨chain', board'⟩ := enterHalted_of_unplanned (b := brake b) (by rw [brake, board]; exact hp)
  have shaft : (brake b).shaft.drive = .held ∧ (brake b).shaft.live = false := by
    rw [brake_shaft]
    cases live : b.shaft.live
    · exact ⟨rfl, live⟩
    · exact ⟨rfl, rfl⟩
  rw [halts, enterHalted_shaft]
  exact ⟨rfl, shaft.1, shaft.2, by rw [chain', braked], board'.trans board, (enterHalted_alarm _).trans alarm,
    (by simp [enterHalted]; exact counters)⟩

/-! ## INDEX close with a strip pending -/

/-- R16, R88: the machine has halted, and the component taken as having left is gone. -/
def Blocks.haltedEmpty (b : Blocks) (pitch : Nat) : Prop :=
  b.shaft.machine = .halted ∧ b.shaft.drive = .held ∧ b.shaft.live = false ∧ b.chain.stripPending = none
    ∧ b.chain.slotOf pitch = .empty

section

variable {r : Blocks × Bool} {l : List Nat}
variable (seen : b.chain.indexSeen = true) (pending : b.chain.stripPending = some pitch)
  (ho : b.chain.slotOf pitch = .occupied o) (hq : b.counters.quiet) (hr : (b.ranOut pitch o).departed o = r)
  (quiet : r.1.counters.quiet) (order : r.1.board.reportOrder = b.board.reportOrder ++ l) (sorted : l.Pairwise (· ≤ ·))
  (unplanned : ∀ e ∈ r.1.board.window, e.state ≠ .planned) (shaft : r.1.shaft = b.shaft)
include seen pending ho hq hr quiet

theorem runout_leaves : ∃ t due, judgeRunout (judgeIndex b) = (t, due) ∧ r.1.Leaves o t ∧ t.counters.quiet := by
  obtain ⟨t, due, e, settles, -⟩ := leave_eq false o quiet
  have leaves := settles.leaves
  refine ⟨t, r.2 || due, ?_, leaves, leaves.counters ▸ quiet⟩
  rw [judgeIndex_of_seen seen, judgeRunout_of_quiet hq pending ho, hr, e]

include order sorted unplanned shaft

/-- R87, R88: where the codes raised ask nothing of the shaft and nothing is to be planned, or no pass is made. -/
theorem runout_settles {codes : List Nat} (raised : b.alarm.RaisedOnly r.1.alarm codes)
    (unmoved : ∀ code ∈ codes, b.unmovedBy code) (frozen : r.1.planner.freeze = false)
    (idle : r.1.board.nothingToPlan ∨ r.1.plansNothing) : r.1.Leaves o (indexClose b) := by
  obtain ⟨t, due, judged, leaves, still⟩ := runout_leaves seen pending ho hq hr quiet
  refine leaves.settle (indexClose_settles judged (reactRise_unplanned (leaves.shaft.trans shaft) (leaves.alarm ▸ raised)
    unmoved (leaves.board ▸ unplanned)) ((congrArg Board.reportOrder leaves.board).trans order) sorted still ?_)
  rcases idle with nothing | blocked
  · exact .inl (leaves.board ▸ nothing)
  · exact .inr (blocked.of_le frozen (leaves.alarm ▸ le_rfl) leaves.shaft)

/-- R59, R87: where a planning pass may follow. -/
theorem runout_plans {codes : List Nat} (raised : b.alarm.RaisedOnly r.1.alarm codes)
    (unmoved : ∀ code ∈ codes, b.unmovedBy code) (hs : r.1.board.sound) (hn : (look r.1.alarm.codes 25).cls = .note) :
    ∃ t, r.1.Leaves o t ∧ t.Plans (indexClose b) := by
  obtain ⟨t, due, judged, leaves, still⟩ := runout_leaves seen pending ho hq hr quiet
  exact ⟨t, leaves, indexClose_plans judged (reactRise_unplanned (leaves.shaft.trans shaft) (leaves.alarm ▸ raised)
    unmoved (leaves.board ▸ unplanned)) ((congrArg Board.reportOrder leaves.board).trans order) sorted still
    (leaves.board ▸ hs) (leaves.alarm ▸ hn)⟩

/-- R16, R88: where RUNOUT JAM is of class STOP-NOW and the demand was lower, the machine halts. -/
theorem runout_halts (top : r.1.alarm.demand = 4) (low : b.alarm.demand < 4) (hm : b.shaft.machine.turning = true)
    (vacant : r.1.chain = (b.ranOut pitch o).chain) (gate : b.chain.gatePending = none) (record : r.1.head.record = none) :
    (indexClose b).haltedEmpty pitch ∧ (indexClose b).board = r.1.board ∧ (indexClose b).alarm = r.1.alarm := by
  obtain ⟨t, due, judged, leaves, still⟩ := runout_leaves seen pending ho hq hr quiet
  have react : ∃ cause, reactRise b.alarm t = stopNow (setStopCause cause t) := by
    rw [reactRise_to_stopNow low (leaves.alarm ▸ top)]
    split
    · obtain ⟨cause, e⟩ := holdOnset_of_unplanned (b := t) (leaves.board ▸ unplanned)
      exact ⟨cause, congrArg stopNow e⟩
    · exact ⟨t.planner.stopCause, rfl⟩
  obtain ⟨cause, e⟩ := react
  obtain ⟨halted, held, dead, chain, board, alarm, counters⟩ := stopNow_of_still (b := setStopCause cause t)
    ((congrArg MachineState.turning (congrArg Shaft.machine (leaves.shaft.trans shaft))).trans hm)
    (congrArg Chain.stripPending (leaves.chain.trans vacant))
    ((congrArg Chain.gatePending (leaves.chain.trans vacant)).trans gate)
    (leaves.record.trans record) (leaves.board ▸ unplanned)
  generalize stopNow (setStopCause cause t) = stopped at e halted held dead chain board alarm counters
  have chosen := choose_settles stopped
  obtain ⟨cause', e'⟩ := planningEvent_of_plansNothing (b := choose stopped)
    (.inr (.inl (by rw [chosen.shaft]; exact halted)))
  have all := chosen.trans (setStopCause_settles cause' _)
  have closes : indexClose b = setStopCause cause' (choose stopped) := by
    rw [indexClose_eq, judged]
    dsimp only
    rw [completed_of_quiet (by rw [e, counters]; exact still), e, e', orderReports_of_sorted (l := l) ?_ sorted]
    rw [all.board, board]
    exact (congrArg Board.reportOrder leaves.board).trans order
  have map : stopped.chain = { (b.ranOut pitch o).chain with grant := false } :=
    chain.trans (congrArg (fun k : Chain => { k with grant := false }) (leaves.chain.trans vacant))
  rw [closes, Blocks.haltedEmpty, all.shaft, all.chain, all.board, all.alarm]
  refine ⟨⟨halted, held, dead, congrArg Chain.stripPending map, ?_⟩, board.trans leaves.board, alarm.trans leaves.alarm⟩
  exact (congrArg (fun k : Chain => k.slotOf pitch) map).trans (ranOut_slot ho)

end

end Sys2Proof.Machine
end

section
/-! # INDEX close and the CHAIN INDEX pulse, settled -/

namespace Sys2Proof.Machine

set_option Elab.async false

variable {b : Blocks} {o : Component} {x : StepContext} {pitch : Nat}

/-- R83: the departure of a component that names no step. -/
theorem depart_stepless (gate : Bool) (ho : b.chain.slotOf pitch = .occupied o) (step : o.step = none) :
    (depart gate pitch b).1.chain.slotOf pitch = .empty ∧ (depart gate pitch b).1.board = b.board := by
  obtain ⟨chain, board⟩ := leave_map gate o (b.setSlot pitch .empty, false)
  rw [depart_of_occupied gate ho, departed_of_none step, chain, board]
  exact ⟨setSlot_slotOf_self _ (Chain.lt_of_occupied ho), rfl⟩

theorem judgeRunout_stepless (h : b.chain.stripPending = some pitch) (ho : b.chain.slotOf pitch = .occupied o)
    (step : o.step = none) :
    (judgeRunout b).1.chain.slotOf pitch = .empty ∧ (judgeRunout b).1.board = b.board := by
  rw [judgeRunout_of_pending h ho]
  have chain : (raise 8 ⟨o.step, o.source, o.kind⟩ (b.onChain fun c => { c with stripPending := none })).chain.slotOf pitch
      = .occupied o := by
    rw [raise_chain]
    exact ho
  obtain ⟨slot, board⟩ := depart_stepless false chain step
  exact ⟨slot, board.trans (raise_board _ _ _)⟩

/-- R88: with no step named and none to be planned, the component's slot stays EMPTY. -/
theorem indexClose_empty (h : b.chain.stripPending = some pitch) (ho : b.chain.slotOf pitch = .occupied o)
    (step : o.step = none) (nothing : b.board.nothingToPlan) : (indexClose b).chain.slotOf pitch = .empty := by
  obtain ⟨-, chain, board⟩ := judgeIndex_frame b
  obtain ⟨slot, board'⟩ := judgeRunout_stepless (b := judgeIndex b) (by rwa [chain]) (by rwa [chain]) step
  rw [indexClose_eq]
  generalize (judgeRunout (judgeIndex b)).1 = t at slot board' ⊢
  obtain ⟨cause, e⟩ := planningEvent_of_plansNoMore (completed_plansNoMore (t := t) b.alarm (.inr (by
    rw [board', board]
    exact nothing)))
  rw [e, orderReports_chain]
  have settled := (completed_abides (E := True) b.alarm t).empty trivial pitch slot
  generalize t.completed b.alarm = d at settled ⊢
  exact settled

theorem Blocks.Leaves.elsewhere {c : Blocks} (h : b.Leaves o c) {was : Alarm} {codes : List Nat}
    (e : b.alarm.elsewhere was codes) : c.alarm.elsewhere was codes := e.of_eq h.alarm

theorem Blocks.Leaves.look_eq {c : Blocks} (h : b.Leaves o c) {code : Nat} {entry : AlarmEntry}
    (e : look b.alarm.codes code = entry) : look c.alarm.codes code = entry := look_of_eq h.alarm e

theorem ranOut_raised (b : Blocks) (pitch : Nat) (o : Component) :
    b.alarm.RaisedOnly (b.ranOut pitch o).alarm [8] := .one 8 _

/-- R75, R88: STEP FAILED beside RUNOUT JAM. -/
theorem ranOut_failed_raised (b : Blocks) (pitch : Nat) (o : Component) (context : AlarmContext) :
    b.alarm.RaisedOnly ((b.ranOut pitch o).alarm.occur 18 context) [8, 18] :=
  ((Alarm.RaisedOnly.refl b.alarm [8, 18]).occur (by simp) _).occur (by simp) context

/-- R138, R144: RUNOUT JAM of class STOP-NOW. -/
theorem ranOut_demand {b : Blocks} (pitch : Nat) (o : Component) (h : (look b.alarm.codes 8).cls = .stopNow) :
    (b.ranOut pitch o).alarm.demand = 4 := by
  have struck : look (b.ranOut pitch o).alarm.codes 8 = (look b.alarm.codes 8).struck ⟨o.step, o.source, o.kind⟩ :=
    Alarm.occur_struck (by decide) _ _
  refine Alarm.demand_of_stopNow (code := 8) (by decide) ?_ ?_ <;> rw [struck]
  · exact AlarmEntry.struck_standing _ _
  · rw [AlarmEntry.struck_cls, h]

theorem Alarm.occur_demand {a : Alarm} (h : a.demand = 4) (code : Nat) (context : AlarmContext) :
    (a.occur code context).demand = 4 := by
  have low := a.demand_le_occur code context
  have high := (a.occur code context).demand_le_four
  omega

theorem ranOut_elsewhere (b : Blocks) (pitch : Nat) (o : Component) : (b.ranOut pitch o).alarm.elsewhere b.alarm [8, 18]
    ∧ look (b.ranOut pitch o).alarm.codes 18 = look b.alarm.codes 18 :=
  ⟨fun code hc hn => (ranOut_raised b pitch o).elsewhere code hc fun h8 =>
      hn (List.mem_cons.mpr (.inl (List.mem_singleton.mp h8))),
    (ranOut_raised b pitch o).elsewhere 18 (by decide) (by decide)⟩

theorem ranOut_failed_look (b : Blocks) (pitch : Nat) (o : Component) (context : AlarmContext) :
    look ((b.ranOut pitch o).alarm.occur 18 context).codes 18 = (look b.alarm.codes 18).struck context := by
  rw [Alarm.occur_struck (by decide)]
  exact congrArg (·.struck context) ((ranOut_raised b pitch o).elsewhere 18 (by decide) (by decide))

/-- O21, INDEX close of an advance without the pulse. -/
theorem indexClose_missing (h : b.chain.indexSeen = false) :
    look (indexClose b).alarm.codes 6 = (look b.alarm.codes 6).struck ⟨none, none, none⟩
      ∧ (indexClose b).chain.pointer = b.chain.pointer := by
  refine ⟨?_, ?_⟩
  · rw [indexClose_spares (by decide) (by decide) (by decide), judgeRunout_spares (by decide) (by decide) (by decide),
      judgeIndex_of_missing h, raise_look (by decide)]
  · rw [(indexClose_abides b).pointer, (judgeRunout_retires _).pointer, (judgeIndex_frame b).2.1]

/-- O21, INDEX close of an advance with the pulse seen, no strip pending and nothing to plan. -/
theorem indexClose_nothing (seen : b.chain.indexSeen = true) (strip : b.chain.stripPending = none) (hq : b.counters.quiet)
    (nothing : b.board.nothingToPlan) : ∃ cause, indexClose b = setStopCause cause (choose b) := by
  have judged : judgeRunout (judgeIndex b) = (b, false) := by rw [judgeIndex_of_seen seen, judgeRunout_of_none strip]
  have chosen := choose_settles b
  obtain ⟨cause, e⟩ := planningEvent_of_nothing (b := choose b) (chosen.board ▸ nothing)
  refine ⟨cause, ?_⟩
  rw [indexClose_eq, judged]
  dsimp only
  rw [completed_of_quiet (by rw [reactRise_same]; exact hq), reactRise_same, e]
  exact orderReports_of_same (congrArg Board.reportOrder chosen.board)

theorem indexClose_strip (h : b.chain.stripPending = some pitch) (ho : b.chain.slotOf pitch = .occupied o) :
    (indexClose b).chain.stripPending = none
      ∧ look (indexClose b).alarm.codes 8 = (look b.alarm.codes 8).struck ⟨o.step, o.source, o.kind⟩ := by
  obtain ⟨-, chain, -⟩ := judgeIndex_frame b
  have judged := judgeRunout_of_pending (b := judgeIndex b) (by rwa [chain]) (by rwa [chain])
  refine ⟨(indexClose_abides b).strip ?_, ?_⟩
  · rw [judged]
    refine (depart_retires (E := False) false pitch _).strip ?_
    rw [raise_chain]
    rfl
  · rw [indexClose_spares (by decide) (by decide) (by decide), judged, depart_spares (by decide) (by decide),
      raise_look (by decide)]
    unfold judgeIndex
    split
    · rfl
    · rw [Blocks.onChain_alarm, raise_spares (by decide) (by decide)]

theorem Chain.length_of_settings {b c : Blocks} (h : c.settings = b.settings) : c.chain.length = b.chain.length :=
  congrArg (fun g : Settings => g.geometry.2.1) h

theorem Shaft.angle_of_position {s t : Shaft} (h : t.position = s.position) : t.angle = s.angle := congrArg Prod.fst h

/-- R86: an occurrence does not move the map. -/
theorem occur_stays (code : Nat) (context : AlarmContext) (b : Blocks) :
    (occur code context b).chain.pointer = b.chain.pointer ∧ (occur code context b).chain.length = b.chain.length
      ∧ (occur code context b).shaft.angle = b.shaft.angle := by
  have steady := (occur_settled b code context).steady
  exact ⟨(occur_abides (E := True) code context b).pointer, Chain.length_of_settings steady.settings,
    Shaft.angle_of_position steady.position⟩

/-! ## The return of the step that the lost component names (R32, R74, R75, R88) -/

section

variable (seen : b.chain.indexSeen = true) (pending : b.chain.stripPending = some pitch)
  (ho : b.chain.slotOf pitch = .occupied o) (hq : b.counters.quiet) (step : o.step = some x.number) (hs : b.board.sound)
  (hx : b.board.context? x.number = some x) (only : b.board.nothingElseToPlan x.number)
include seen pending ho hq step hs hx only

/-- O21: the step of a bad image. -/
theorem runout_bad (hr : x.state ≠ .resolved) (bad : b.board.goodMask.getLsbD x.image = false) :
    (b.planner.freeze = false → b.unmovedBy 8 →
      ((b.ranOut pitch o).resolvedAs { x with badImage := true } .skippedBadImage).Leaves o (indexClose b))
    ∧ ((look b.alarm.codes 8).cls = .stopNow → b.alarm.demand < 4 → b.shaft.machine.turning = true →
      b.chain.gatePending = none → b.head.record = none → (indexClose b).haltedEmpty pitch
        ∧ (indexClose b).board = ((b.ranOut pitch o).resolvedAs { x with badImage := true } .skippedBadImage).board
        ∧ (indexClose b).alarm = (b.ranOut pitch o).alarm) := by
  have departs := departed_bad (b := b.ranOut pitch o) step hs hx hr bad
  have nothing := resolvedAs_nothing (b := b.ranOut pitch o) (x := { x with badImage := true }) only .skippedBadImage
  refine ⟨fun frozen unmoved => ?_, fun cls low turning gate record => ?_⟩
  · exact runout_settles seen pending ho hq departs hq rfl (List.pairwise_singleton _ _) nothing.unplanned rfl
      (ranOut_raised b pitch o) (by simpa using unmoved) frozen (.inl nothing)
  · exact runout_halts seen pending ho hq departs hq rfl (List.pairwise_singleton _ _) nothing.unplanned rfl
      (ranOut_demand pitch o cls) low turning rfl gate record

/-- O21: the step within the limit, or lost for a reason that does not count. -/
theorem runout_returned (good : b.board.goodMask.getLsbD x.image = true)
    (within : o.counts = false ∨ x.makeUps + 1 ≤ b.planner.makeUpLimit) :
    (b.planner.freeze = false → b.unmovedBy 8 → b.plansNothing →
      ((b.ranOut pitch o).requeued x o.counts).Leaves o (indexClose b))
    ∧ (b.unmovedBy 8 → (look b.alarm.codes 25).cls = .note →
      ∃ t, ((b.ranOut pitch o).requeued x o.counts).Leaves o t ∧ t.Plans (indexClose b))
    ∧ ((look b.alarm.codes 8).cls = .stopNow → b.alarm.demand < 4 → b.shaft.machine.turning = true →
      b.chain.gatePending = none → b.head.record = none → (indexClose b).haltedEmpty pitch
        ∧ (indexClose b).board = ((b.ranOut pitch o).requeued x o.counts).board
        ∧ (indexClose b).alarm = (b.ranOut pitch o).alarm) := by
  have departs := departed_returned (b := b.ranOut pitch o) step hs hx good hq only within
  have unplanned := requeued_unplanned (b := b.ranOut pitch o) only o.counts
  have order : ((b.ranOut pitch o).requeued x o.counts).board.reportOrder = b.board.reportOrder ++ [] :=
    (List.append_nil _).symm
  refine ⟨fun frozen unmoved blocked => ?_, fun unmoved note => ?_, fun cls low turning gate record => ?_⟩
  · exact runout_settles seen pending ho hq departs hq order .nil unplanned rfl (ranOut_raised b pitch o)
      (by simpa using unmoved) frozen (.inr (blocked.of_le frozen (Alarm.demand_le_occur _ 8 _) rfl))
  · exact runout_plans seen pending ho hq departs hq order .nil unplanned rfl (ranOut_raised b pitch o)
      (by simpa using unmoved) (withContext_sound hs) ((Alarm.occur_cls _ _ _ _).trans note)
  · exact runout_halts seen pending ho hq departs hq order .nil unplanned rfl (ranOut_demand pitch o cls) low turning rfl
      gate record

/-- O21: the step beyond the limit. -/
theorem runout_failed (hr : x.state ≠ .resolved) (good : b.board.goodMask.getLsbD x.image = true) (counted : o.counts = true)
    (beyond : ¬ x.makeUps + 1 ≤ b.planner.makeUpLimit) :
    (b.planner.freeze = false → b.unmovedBy 8 → b.unmovedBy 18 →
      (((b.ranOut pitch o).resolvedAs x .failed).onAlarm fun a =>
        a.occur 18 ⟨some x.number, x.source, some x.kind⟩).Leaves o (indexClose b))
    ∧ ((look b.alarm.codes 8).cls = .stopNow → b.alarm.demand < 4 → b.shaft.machine.turning = true →
      b.chain.gatePending = none → b.head.record = none → (indexClose b).haltedEmpty pitch
        ∧ (indexClose b).board = ((b.ranOut pitch o).resolvedAs x .failed).board
        ∧ (indexClose b).alarm = (b.ranOut pitch o).alarm.occur 18 ⟨some x.number, x.source, some x.kind⟩) := by
  have departs := departed_failed (b := b.ranOut pitch o) step hs hx hr good hq counted beyond
  have nothing := resolvedAs_nothing (b := b.ranOut pitch o) only .failed
  refine ⟨fun frozen unmoved unmoved' => ?_, fun cls low turning gate record => ?_⟩
  · exact runout_settles seen pending ho hq departs hq rfl (List.pairwise_singleton _ _) nothing.unplanned rfl
      (ranOut_failed_raised b pitch o _) (by simpa using ⟨unmoved, unmoved'⟩) frozen (.inl nothing)
  · exact runout_halts seen pending ho hq departs hq rfl (List.pairwise_singleton _ _) nothing.unplanned rfl
      (Alarm.occur_demand (ranOut_demand pitch o cls) 18 _) low turning rfl gate record

end

/-- Settles O21: the pulse, and the judgments of INDEX close with the departure that they may bring. -/
theorem chainIndexPulse : Obligations.ChainIndexPulse := by
  refine ⟨fun s => ?_, fun station s meets => ?_⟩
  · refine ⟨fun expected => ?_, fun expected => ?_⟩
    · rw [exec_chainIndexPulse, chainPulse_expected expected]
      rfl
    · rw [exec_chainIndexPulse, chainPulse_unbidden expected]
      obtain ⟨pointer, length, angle⟩ := occur_stays 7 ⟨none, none, none⟩ s.blocks
      have alarm := occur_look (code := 7) (by decide) (by decide) ⟨none, none, none⟩ s.blocks
      generalize occur 7 ⟨none, none, none⟩ s.blocks = d at pointer length angle alarm ⊢
      exact ⟨_, rfl, pointer, length, angle, rfl, alarm⟩
  · intro sample counted advance
    have taken : exec sample s = .next { s with blocks := windowEvent station .index false counted } := by
      rw [exec_encoderSample, forwardSample_meets station meets nofun]
    have closes : advance = true → exec sample s = .next { s with blocks := indexClose counted } := fun h => by
      rw [taken]
      exact congrArg (fun d => Host.Outcome.next { s with blocks := d }) (if_pos h)
    refine ⟨fun h => ?_, fun h missing => ?_, fun h seen strip hq nothing => ?_, fun pitch o h pending ho hq => ⟨?_, ?_⟩⟩
    · have still : windowEvent station .index false counted = counted := if_neg (by rw [Bool.not_eq_true]; exact h)
      rw [taken, still]
    · obtain ⟨alarm, pointer⟩ := indexClose_missing (b := counted) missing
      exact ⟨_, closes h, alarm, pointer, rfl⟩
    · obtain ⟨cause, e⟩ := indexClose_nothing (b := counted) seen strip hq nothing
      rw [closes h, e]
      exact ⟨_, rfl, choose_shaft _, choose_chain _, choose_board _, choose_alarm _, choose_source _, choose_counters _,
        choose_lock _, rfl⟩
    · obtain ⟨strip, alarm⟩ := indexClose_strip (b := counted) pending ho
      exact ⟨_, closes h, strip, rfl, alarm, indexClose_empty (b := counted) pending ho⟩
    · intro c step found unresolved hs only seen was skipped failed leaves good counts within stepFailed
      have bad := runout_bad (b := counted) seen pending ho hq step hs found only unresolved
      have returned := runout_returned (b := counted) seen pending ho hq step hs found only
      have fails := runout_failed (b := counted) seen pending ho hq step hs found only unresolved
      have over_limit : ¬ within → o.counts = true ∧ ¬ c.makeUps + 1 ≤ s.blocks.planner.makeUpLimit := fun beyond => by
        obtain ⟨reason, limit⟩ := not_or.mp beyond
        exact ⟨Bool.eq_true_of_not_eq_false reason, limit⟩
      have raised := ranOut_raised counted pitch o
      refine ⟨fun frozen unmoved => ⟨fun isBad => ?_, fun isGood low blocked => ?_, fun isGood low sound note => ?_,
        fun isGood beyond unmoved' => ?_⟩, fun cls low hm gate running record => ?_⟩
      · have left := (bad isBad).1 frozen unmoved
        exact ⟨_, closes h, ⟨left.shaft, left.chain, left.lock, left.record, left.elsewhere raised.elsewhere, rfl⟩, left.board⟩
      · have left := (returned isGood low).1 frozen unmoved blocked
        exact ⟨_, closes h, ⟨left.shaft, left.chain, left.lock, left.record, left.elsewhere raised.elsewhere, rfl⟩, left.board⟩
      · obtain ⟨t, left, plans⟩ := (returned isGood low).2.1 unmoved note
        refine ⟨_, closes h, plans.holdsReturned (x := c.returned counts) ?_ ?_, fun n => plans.others left.board only⟩
        · rw [left.board]
          exact withContext_context?_self found
        · rw [left.chain]
          exact Chain.sound_of_set pitch .empty sound
      · obtain ⟨reason, limit⟩ := over_limit beyond
        have left := (fails isGood reason limit).1 frozen unmoved unmoved'
        exact ⟨_, closes h, ⟨left.shaft, left.chain, left.lock, left.record,
          left.elsewhere (ranOut_failed_raised counted pitch o _).elsewhere, rfl⟩, left.board,
          left.look_eq (ranOut_failed_look counted pitch o _)⟩
      · have turning : counted.shaft.machine.turning = true := by
          rcases hm with e | e <;> exact congrArg MachineState.turning e
        obtain ⟨others, spared⟩ := ranOut_elsewhere counted pitch o
        by_cases isBad : good = false
        · obtain ⟨⟨halted, held, dead, strip, slot⟩, board, alarm⟩ := (bad isBad).2 cls low turning gate record
          have notGood : ¬ good = true := by simpa using isBad
          exact ⟨_, closes h, halted, held, dead, strip, slot, others.of_eq alarm, fun _ => board, fun ok => absurd ok notGood,
            fun ok => absurd ok notGood, fun _ => look_of_eq alarm spared⟩
        · have isGood : good = true := by simpa using isBad
          by_cases hw : within
          · obtain ⟨⟨halted, held, dead, strip, slot⟩, board, alarm⟩ := (returned isGood hw).2.2 cls low turning gate record
            exact ⟨_, closes h, halted, held, dead, strip, slot, others.of_eq alarm, fun no => absurd no isBad, fun _ _ => board,
              fun _ beyond => absurd hw beyond, fun _ => look_of_eq alarm spared⟩
          · obtain ⟨reason, limit⟩ := over_limit hw
            obtain ⟨⟨halted, held, dead, strip, slot⟩, board, alarm⟩ :=
              (fails isGood reason limit).2 cls low turning gate record
            exact ⟨_, closes h, halted, held, dead, strip, slot,
              (ranOut_failed_raised counted pitch o _).elsewhere.of_eq alarm, fun no => absurd no isBad,
              fun _ yes => absurd yes hw, fun _ _ => ⟨board, look_of_eq alarm (ranOut_failed_look counted pitch o _)⟩,
              fun either => absurd either (not_or.mpr ⟨isBad, hw⟩)⟩

end Sys2Proof.Machine
end

section
/-! # Timebase rows -/

namespace Sys2Proof.Machine

set_option Elab.async false

/-- Settles O29: each row is its one update of the blocks. -/
theorem timebaseRowsAct : Obligations.TimebaseRowsAct := by
  refine ⟨fun s => ⟨?_, ?_⟩, fun s => ?_⟩
  · have resent : exec .targetCommandResend s = .next { s with blocks := resendTarget s.blocks } := rfl
    rw [resent, resendTarget]
    cases s.blocks.positioner.target <;> rfl
  · have polled : exec .pollFrame s = .next { s with blocks := pollBanks s.blocks } := rfl
    rw [polled, pollBanks]
    split <;> rfl
  · have ticked : exec .haltedMillisecond s = .next { s with blocks := haltedTick s.blocks } := rfl
    rw [ticked, haltedTick]
    split <;> rfl

end Sys2Proof.Machine
end

section
/-! # LOAD of a kind -/

namespace Sys2Proof.Machine

set_option Elab.async false

variable {b : Blocks} {p : List Byte} {id : Nat} {k : Kind}

/-! ## The fields of a kind (Table 11-15) -/

/-- The payload of a kind LOAD holds the fields of kind `k`, each at its byte. -/
structure Kind.LaidOut (k : Kind) (p : List Byte) : Prop where
  mode : byteAt p 2 = k.mode.code
  loads : bitAt p 2 7 = false
  range : byteAt p 3 = k.range
  bandStart : byteAt p 4 = k.bandStart
  bandCount : byteAt p 5 = k.bandCount
  expectedLo : byteAt p 6 = k.expectedLo
  expectedHi : byteAt p 7 = k.expectedHi
  alternate : (if bitAt p 8 0 then some (byteAt p 9, byteAt p 10) else none) = k.alternate
  span : u16At p 11 = k.span
  profile : byteAt p 13 = k.profile
  policy : byteAt p 14 = k.policy.code
  count : byteAt p 15 = k.sources.length
  source : ∀ i, i < 4 → byteAt p (16 + i) = k.sources[i]?.getD 0
  selection : byteAt p 20 = if k.selection = .fill then 0 else 1
  pin : byteAt p 21 = k.pin.getD 255
  statistics : byteAt p 22 = k.statistics

theorem TestMode.code_le (m : TestMode) : m.code ≤ 4 := by cases m <;> decide

theorem TestMode.testModeOf_code (m : TestMode) : testModeOf (m.code % 8) = m := by cases m <;> rfl

theorem Policy.policyOf_code (q : Policy) : policyOf q.code = q := by cases q <;> rfl

theorem Policy.code_le (q : Policy) : q.code ≤ 1 := by cases q <;> decide

/-- A list of at most four sources is read back. -/
theorem Kind.LaidOut.sourceIdsAt (h : k.LaidOut p) (four : k.sources.length ≤ 4) : sourceIdsAt p = k.sources := by
  refine List.ext_getElem (by simp [Machine.sourceIdsAt, h.count]) fun i hi hk => ?_
  simp [Machine.sourceIdsAt, h.source i (by omega), hk]

theorem Kind.LaidOut.kindOfBytes (h : k.LaidOut p) (fits : k.fits) : kindOfBytes p = k := by
  obtain ⟨-, -, -, -, -, -, -, -, -, -, -, four, -, -, pinned, -⟩ := fits
  have selection : (if byteAt p 20 = 0 then Selection.fill else .spread) = k.selection := by
    rw [h.selection]
    cases k.selection <;> rfl
  have pin : (if byteAt p 21 = 255 then none else some (byteAt p 21)) = k.pin := by
    rw [h.pin]
    cases e : k.pin with
    | none => rfl
    | some i =>
      have := pinned i e
      exact if_neg (by dsimp only [Option.getD_some]; omega)
  simp only [Machine.kindOfBytes, h.mode, h.range, h.bandStart, h.bandCount, h.expectedLo, h.expectedHi, h.alternate,
    h.span, h.profile, h.policy, h.sourceIdsAt four, h.statistics, selection, pin, TestMode.testModeOf_code,
    Policy.policyOf_code]

/-- R37: fields within the values of Table 3-1 pass the tests of the LOAD. -/
theorem Kind.LaidOut.kindFieldFault (h : k.LaidOut p) (fits : k.fits) : kindFieldFault p = none := by
  obtain ⟨range, start, one, most, order, expected, alternate, low, high, profile, nonempty, four, nodup, known, pinned,
    statistics⟩ := fits
  have mode := k.mode.code_le
  have policy := k.policy.code_le
  have between : (bitAt p 8 0 && (decide (k.bandCount ≤ byteAt p 10) || decide (byteAt p 10 < byteAt p 9))) = false := by
    cases e : bitAt p 8 0 with
    | false => rfl
    | true =>
      have := alternate (byteAt p 9, byteAt p 10) (by rw [← h.alternate, e]; rfl)
      simp only [Bool.true_and, Bool.or_eq_false_iff, decide_eq_false_iff_not]
      omega
  have sources : ((k.sources.any fun d => decide (95 < d)) || !decide k.sources.Nodup) = false := by
    simp only [Bool.or_eq_false_iff, List.any_eq_false, decide_eq_true_eq, Bool.not_eq_false', nodup, and_true]
    exact fun d hd => by have := known d hd; omega
  have pin : (decide (k.pin.getD 255 ≠ 255) && decide (k.sources.length ≤ k.pin.getD 255)) = false := by
    cases e : k.pin with
    | none => rfl
    | some i => simp [pinned i e]
  have selection : (if k.selection = .fill then 0 else 1) ≤ 1 := by split <;> omega
  simp only [Machine.kindFieldFault, h.mode, h.range, h.bandStart, h.bandCount, h.expectedLo, h.expectedHi, between,
    h.span, h.profile, h.policy, h.count, h.sourceIdsAt four, Bool.or_assoc, sources, h.selection, h.pin, pin, h.statistics]
  simp [List.ne_nil_of_length_pos nonempty]
  omega

/-! ## The LOAD at the source table (R37, R39) -/

theorem takeLoadKind_of_fits (hi : byteAt p 1 = id) (h : k.LaidOut p) (fits : k.fits) (hb : b.board.phase = .none) :
    takeLoadKind p b = .accept { b with source := { b.source with
      kinds := put b.source.kinds id ⟨some k, k.sources.length - 1, false⟩ } } := by
  simp only [takeLoadKind, hi, h.loads, Bool.false_eq_true, if_false, h.kindFieldFault fits, h.kindOfBytes fits,
    Board.not_standing hb]
  rfl

/-- R37: an unload request. -/
theorem takeLoadKind_of_unload (hi : byteAt p 1 = id) (unloads : bitAt p 2 7 = true) (hb : b.board.phase = .none) :
    takeLoadKind p b = .accept { b with source := { b.source with
      kinds := put b.source.kinds id ⟨none, 3, false⟩ } } := by
  simp only [takeLoadKind, hi, unloads, if_true, Board.not_standing hb]
  rfl

/-- The bytes of the alternate range: its flag and its two ends (Table 11-15). -/
def Kind.alternateBytes (k : Kind) : List Byte :=
  match k.alternate with
  | some a => [1#8, byteOf a.1, byteOf a.2]
  | none => [0#8, 0#8, 0#8]

/-- The contents of a kind LOAD (Table 11-15). -/
def Kind.contents (k : Kind) : List Byte :=
  [byteOf k.mode.code, byteOf k.range, byteOf k.bandStart, byteOf k.bandCount, byteOf k.expectedLo, byteOf k.expectedHi]
    ++ k.alternateBytes ++ be16 k.span ++ [byteOf k.profile, byteOf k.policy.code, byteOf k.sources.length]
    ++ (List.range 4).map (fun i => byteOf (k.sources[i]?.getD 0))
    ++ [if k.selection = .fill then 0#8 else 1#8, byteOf (k.pin.getD 255), byteOf k.statistics]

theorem Kind.alternateBytes_eq (k : Kind) : ∃ x y z, k.alternateBytes = [x, y, z]
    ∧ ((∀ a, k.alternate = some a → a.1 < 256 ∧ a.2 < 256) →
      (if x.getLsbD 0 then some (y.toNat, z.toNat) else none) = k.alternate) := by
  unfold Kind.alternateBytes
  cases k.alternate with
  | none => exact ⟨_, _, _, rfl, fun _ => rfl⟩
  | some a =>
    refine ⟨_, _, _, rfl, fun h => ?_⟩
    obtain ⟨lo, hi⟩ := h a rfl
    rw [if_pos (by decide), toNat_byteOf_of_lt lo, toNat_byteOf_of_lt hi]

theorem Kind.contents_length (k : Kind) : k.contents.length = 21 := by
  obtain ⟨x, y, z, e, -⟩ := k.alternateBytes_eq
  simp [Kind.contents, e, be16]

theorem Kind.fits.laidOut (fits : k.fits) (id : Nat) : k.LaidOut (byteOf 2 :: byteOf id :: k.contents) := by
  obtain ⟨range, start, one, most, order, expected, alternate, low, high, profile, nonempty, four, nodup, known, pinned,
    statistics⟩ := fits
  have mode := k.mode.code_le
  have policy := k.policy.code_le
  obtain ⟨x, y, z, bytes, read⟩ := k.alternateBytes_eq
  have source : ∀ i : Nat, k.sources[i]?.getD 0 < 256 := fun i => by
    cases e : k.sources[i]? with
    | none => decide
    | some d => exact (known d (List.mem_of_getElem? e)).trans (by decide)
  have pin : k.pin.getD 255 < 256 := by
    cases e : k.pin with
    | none => decide
    | some i => exact (pinned i e).trans_le (four.trans (by decide))
  rw [Kind.contents, bytes]
  constructor
  · exact byteAt_of_byteOf rfl (by omega)
  · refine (bitAt_of_byte rfl 7).trans ?_
    cases k.mode <;> decide
  · exact byteAt_of_byteOf rfl (by omega)
  · exact byteAt_of_byteOf rfl (by omega)
  · exact byteAt_of_byteOf rfl (by omega)
  · exact byteAt_of_byteOf rfl (by omega)
  · exact byteAt_of_byteOf rfl (by omega)
  · exact read fun a ha => by have := alternate a ha; omega
  · exact u16At_of_be16 rfl rfl (by omega)
  · exact byteAt_of_byteOf rfl (by omega)
  · exact byteAt_of_byteOf rfl (by omega)
  · exact byteAt_of_byteOf rfl (by omega)
  · intro i hi
    refine byteAt_of_byteOf ?_ (source i)
    interval_cases i <;> rfl
  · refine (byteAt_of_byte rfl).trans ?_
    split <;> rfl
  · exact byteAt_of_byteOf rfl pin
  · exact byteAt_of_byteOf rfl (by omega)

/-- Settles O50: the fields read back from the record pass the tests of Table 3-1. -/
theorem kindLoads : Obligations.KindLoads := by
  intro id k rest s hid fits hb
  refine ⟨fun h => ?_, fun xs len h => ?_⟩
  · have taken := answerLoad_accept (contents := k.contents) (f := takeLoadKind) (by decide) h
      (takeLoadKind_of_fits (byteAt_of_byteOf rfl hid) (fits.laidOut id) fits hb)
    rwa [k.contents_length] at taken
  · have taken := answerLoad_accept (f := takeLoadKind) (by decide) h
      (takeLoadKind_of_unload (byteAt_of_byteOf rfl hid) ((bitAt_of_byte rfl 7).trans (by decide)) hb)
    rwa [List.length_cons, len] at taken

end Sys2Proof.Machine
end

section
/-! # What a stop and a planning event leave of the reels -/

/-! Under all that the stop demand asks for, and under a planning event, a dispenser's entry changes in its proving-in-flight
flag alone, and only a PROVING source gets it set (R47, R66, R69, R83). -/

namespace Sys2Proof

theorem look_adjust {α : Type} [Inhabited α] {n : Nat} (t : Vector α n) {i : Nat} (f : α → α) (h : i < n) (q : Nat) :
    look (adjust t i f) q = if q = i then f (look t i) else look t q := Machine.look_put t _ h q

end Sys2Proof

namespace Sys2Proof.Machine

set_option Elab.async false

variable {a b c : Blocks}

/-- From `b` to `c` each dispenser has kept its entry but for the proving-in-flight flag, which is set only if it was set
or the source is PROVING; and no fire frame has become outstanding. -/
structure Blocks.KeepsReels (b c : Blocks) : Prop where
  entry : ∀ e, ∃ p, look c.source.dispensers e = { look b.source.dispensers e with proving := p }
    ∧ (p = true → (look b.source.dispensers e).proving = true ∨ (look b.source.dispensers e).condition = .proving)
  outstanding : b.source.outstanding = none → c.source.outstanding = none

theorem Blocks.KeepsReels.of_same (hd : c.source.dispensers = b.source.dispensers)
    (ho : b.source.outstanding = none → c.source.outstanding = none) : b.KeepsReels c :=
  ⟨fun e => ⟨(look b.source.dispensers e).proving, by rw [hd], .inl⟩, ho⟩

theorem Blocks.KeepsReels.of_source (h : c.source = b.source) : b.KeepsReels c := .of_same (by rw [h]) (by simp [h])

theorem Blocks.KeepsReels.refl (b : Blocks) : b.KeepsReels b := .of_source rfl

theorem Blocks.KeepsReels.trans (h : a.KeepsReels b) (h' : b.KeepsReels c) : a.KeepsReels c where
  entry e := by
    obtain ⟨p, hp, set⟩ := h.entry e
    obtain ⟨p', hp', set'⟩ := h'.entry e
    rw [hp] at hp' set'
    exact ⟨p', hp', fun t => (set' t).elim set .inr⟩
  outstanding ho := h'.outstanding (h.outstanding ho)

/-- What comes before may be anything that leaves the source table. -/
theorem Blocks.KeepsReels.after (h : b.KeepsReels c) (hs : b.source = a.source) : a.KeepsReels c :=
  (Blocks.KeepsReels.of_source hs).trans h

theorem Blocks.KeepsReels.foldl {α : Type} {f : Blocks → α → Blocks} (hf : ∀ (b : Blocks) x, b.KeepsReels (f b x)) (l : List α)
    (b : Blocks) : b.KeepsReels (l.foldl f b) := by
  induction l generalizing b with
  | nil => exact .refl b
  | cons x l ih => exact (hf b x).trans (ih _)

/-- An entry that has its flag clear and is not PROVING stays. -/
theorem Blocks.KeepsReels.look_eq (h : b.KeepsReels c) {e : Nat} {entry : Dispenser}
    (he : look b.source.dispensers e = entry) (clear : entry.proving = false) (hc : entry.condition ≠ .proving) :
    look c.source.dispensers e = entry := by
  obtain ⟨p, hp, set⟩ := h.entry e
  rw [he] at hp set
  cases p with
  | true => exact absurd (set rfl) (by simp [clear, hc])
  | false => rw [hp, ← clear]

/-! ## Reservations (R66, R69) -/

theorem setProving_keepsReels (d : Nat) (p : Bool) (h : p = true → (look b.source.dispensers d).condition = .proving) :
    b.KeepsReels (b.onDispenser d fun e => { e with proving := p }) where
  entry e := by
    by_cases hd : d < 96
    · simp only [Blocks.onDispenser, Blocks.onSource_source, look_adjust _ _ hd]
      split
      · next same =>
        subst same
        exact ⟨p, rfl, fun t => .inr (h t)⟩
      · exact ⟨_, rfl, .inl⟩
    · simp only [Blocks.onDispenser, Blocks.onSource_source, adjust, put_of_le _ _ (Nat.le_of_not_lt hd)]
      exact ⟨_, rfl, .inl⟩
  outstanding := id

theorem settleGain_keepsReels (before : Source) (d : Nat) (b : Blocks) : b.KeepsReels (settleGain before d b).1 := by
  refine .of_same (settleGain_dispensers before d b) fun ho => ?_
  unfold settleGain
  split <;> exact ho

theorem clearProving_keepsReels (d : Nat) (b : Blocks) : b.KeepsReels (clearProving d b).1 :=
  (setProving_keepsReels d false nofun).trans (settleGain_keepsReels _ _ _)

theorem choose_keepsReels (b : Blocks) : b.KeepsReels (choose b) := .of_source (choose_source b)

theorem undoReservation_keepsReels (n : Nat) (b : Blocks) : b.KeepsReels (undoReservation n b).1 := by
  unfold undoReservation
  split
  · exact .refl b
  · next pitch _ =>
    split
    · next d _ =>
      have vacated : b.KeepsReels ((b.setSlot pitch .empty).onStep n fun c => { c.requeue with source := none }) :=
        .of_source rfl
      exact (vacated.trans (clearProving_keepsReels d _)).trans (choose_keepsReels _)
    · exact .refl b

theorem cancelFrom_keepsReels (k : Nat) (b : Blocks) : b.KeepsReels (cancelFrom k b) :=
  .foldl (fun b n => undoReservation_keepsReels n b) _ b

theorem settleDispenser_keepsReels (before : Source) (d : Nat) (b : Blocks) :
    b.KeepsReels (settleDispenser before d b).1 := by
  refine Blocks.KeepsReels.trans ?_ (settleGain_keepsReels before d _)
  split
  · exact cancelFrom_keepsReels _ b
  · exact .refl b

/-! ## Departures and stops (R8, R16, R17, R83, R144) -/

theorem returnStep_keepsReels (n : Nat) (why : Return) (b : Blocks) : b.KeepsReels (returnStep n why b).1 := by
  unfold returnStep
  split
  · exact .refl b
  · split
    · exact .of_source (by simp)
    · split
      · split
        · exact (cancelFrom_keepsReels n _).after (by simp)
        · exact .of_source (by simp)
      · exact (cancelFrom_keepsReels n _).after (by rfl)

theorem leave_keepsReels (gate : Bool) (o : Component) (r : Blocks × Bool) : r.1.KeepsReels (o.leave gate r).1 := by
  unfold Component.leave
  dsimp only
  refine Blocks.KeepsReels.trans ?_ (choose_keepsReels _)
  refine Blocks.KeepsReels.trans ?_ (.of_source ((settlePurge_source _).trans (countEvent_source _ _ _)))
  split
  · split
    · exact clearProving_keepsReels _ r.1
    · exact .refl r.1
  · exact .refl r.1

theorem depart_keepsReels (gate : Bool) (pitch : Nat) (b : Blocks) : b.KeepsReels (depart gate pitch b).1 := by
  cases ho : b.chain.slotOf pitch with
  | empty => simp only [depart, ho]; exact .refl b
  | reserved _ _ => simp only [depart, ho]; exact .refl b
  | occupied o =>
    rw [depart_of_occupied gate ho]
    refine Blocks.KeepsReels.trans ?_ (leave_keepsReels gate o _)
    unfold Blocks.departed
    split
    · exact (returnStep_keepsReels _ _ _).after (by rfl)
    · exact .of_source rfl

theorem cutOffStrip_keepsReels (b : Blocks) : b.KeepsReels (cutOffStrip b) := by
  unfold cutOffStrip
  split
  · exact .refl b
  · split
    · exact (depart_keepsReels _ _ _).after (by rfl)
    · exact .refl b

theorem cutOffGate_keepsReels (b : Blocks) : b.KeepsReels (cutOffGate b) := by
  unfold cutOffGate
  split
  · exact .refl b
  · exact (depart_keepsReels _ _ _).after (by rfl)

theorem dropFireFrame_keepsReels (b : Blocks) : b.KeepsReels (dropFireFrame b) := .of_same rfl fun _ => rfl

theorem interruptInsertion_source (b : Blocks) : (interruptInsertion b).source = b.source := by
  unfold interruptInsertion
  split <;> rfl

theorem cutShort_keepsReels (b : Blocks) : b.KeepsReels (cutShort b) := by
  unfold cutShort
  split
  · have work : b.KeepsReels (cutOffGate (endMeasurement (dropFireFrame (cutOffStrip b)))) :=
      ((cutOffStrip_keepsReels b).trans (dropFireFrame_keepsReels _)).trans
        ((cutOffGate_keepsReels _).after (by rfl))
    exact work.trans (.of_source (interruptInsertion_source _))
  · exact .refl b

theorem brake_keepsReels (b : Blocks) : b.KeepsReels (brake b) :=
  (cutShort_keepsReels _).after (by rfl)

theorem holdOnset_keepsReels (b : Blocks) : b.KeepsReels (holdOnset b) :=
  (cancelFrom_keepsReels 0 b).trans (.of_source (noteBlocked_source _))

theorem enterHalted_keepsReels (b : Blocks) : b.KeepsReels (enterHalted b) := by
  simp only [enterHalted]
  refine Blocks.KeepsReels.trans ?_ (.of_source (noteBlocked_source _))
  exact (cancelFrom_keepsReels 0 _).after (by rfl)

theorem stopNow_keepsReels (b : Blocks) : b.KeepsReels (stopNow b) := by
  rcases stopNow_cases b with ⟨-, e⟩ | ⟨-, e⟩ | ⟨-, e⟩ <;> rw [e]
  · exact (brake_keepsReels b).trans (enterHalted_keepsReels _)
  · exact enterHalted_keepsReels b
  · exact .refl b

theorem stopAtPark_keepsReels (b : Blocks) : b.KeepsReels (stopAtPark b) := by
  rcases stopAtPark_cases b with ⟨-, e | e | e⟩ | ⟨-, e⟩ | ⟨-, e⟩ <;> rw [e]
  · exact (brake_keepsReels b).trans (enterHalted_keepsReels _)
  · exact .refl b
  · exact .of_source rfl
  · exact enterHalted_keepsReels b
  · exact .refl b

theorem reactRise_keepsReels (before : Alarm) (b : Blocks) : b.KeepsReels (reactRise before b) := by
  unfold reactRise
  dsimp only
  have held : b.KeepsReels (if before.demand < 2 ∧ 2 ≤ b.alarm.demand then holdOnset b else b) := by
    split
    · exact holdOnset_keepsReels b
    · exact .refl b
  split
  · exact held.trans (stopNow_keepsReels _)
  · split
    · exact held.trans (stopAtPark_keepsReels _)
    · exact held

theorem occur_keepsReels (code : Nat) (context : AlarmContext) (b : Blocks) : b.KeepsReels (occur code context b) :=
  (reactRise_keepsReels _ _).after (raise_source b code context)

/-! ## Planning (R60 to R67) -/

@[simp] theorem settleWaiting_source (b : Blocks) : (settleWaiting b).source = b.source := by
  unfold settleWaiting
  (repeat' split) <;> rfl

theorem reserve_keepsReels (n kind index d j : Nat) (b : Blocks) : b.KeepsReels (reserve n kind index d j b) := by
  have taken : b.KeepsReels (((b.setSlot (b.chain.pitchAt j) (.reserved n d)).onStep n fun c =>
      { c with state := .planned, source := some d, slot := some (b.chain.pitchAt j) }).onSource fun s =>
        { s with kinds := adjust s.kinds kind fun k => { k with lastUsed := index } }) := .of_same rfl id
  simp only [reserve]
  refine Blocks.KeepsReels.trans ?_ (.of_source ((settleWaiting_source _).trans (choose_source _)))
  split
  · next proving => exact taken.trans (setProving_keepsReels d true fun _ => proving)
  · exact taken

theorem stopNoSource_keepsReels (n kind : Nat) (b : Blocks) : b.KeepsReels (stopNoSource n kind b) := by
  simp only [stopNoSource]
  split
  · exact .of_source rfl
  · refine Blocks.KeepsReels.trans ?_ (occur_keepsReels _ _ _)
    exact .of_same rfl id

theorem planPass_keepsReels (l : List Nat) (b : Blocks) : b.KeepsReels (planPass l b) := by
  induction l generalizing b with
  | nil => exact .of_source rfl
  | cons n rest ih =>
    unfold planPass
    split
    · exact ih b
    · split
      · exact stopNoSource_keepsReels _ _ b
      · split
        · exact stopNoSource_keepsReels _ _ b
        · split
          · exact .of_source rfl
          · exact (reserve_keepsReels _ _ _ _ _ b).trans (ih _)

theorem planningEvent_keepsReels (b : Blocks) : b.KeepsReels (planningEvent b) := by
  unfold planningEvent
  split
  · exact .of_source rfl
  · exact planPass_keepsReels _ b

theorem planIf_keepsReels (due : Bool) (b : Blocks) : b.KeepsReels (planIf due b) := by
  unfold planIf
  split
  · exact planningEvent_keepsReels b
  · exact .refl b

theorem settleDispensers_keepsReels (before : Source) (ds : List Nat) (b : Blocks) :
    b.KeepsReels (settleDispensers before ds b) :=
  .foldl (fun b d => (settleDispenser_keepsReels before d b).trans (planIf_keepsReels _ _)) ds b

theorem conclude_keepsReels (a : Blocks) (r : Blocks × Bool) : r.1.KeepsReels (conclude a r) :=
  ((reactRise_keepsReels _ _).trans (planIf_keepsReels _ _)).trans (.of_source rfl)

end Sys2Proof.Machine
end

section
/-! # LOAD of a dispenser -/

namespace Sys2Proof

theorem adjust_adjust {α : Type} [Inhabited α] {n : Nat} (t : Vector α n) (i : Nat) (f g : α → α) :
    adjust (adjust t i f) i g = adjust t i fun x => g (f x) := by
  by_cases h : i < n
  · refine table_ext fun q _ => ?_
    simp only [look_adjust _ _ h, if_true]
    split <;> rfl
  · simp only [adjust, put_of_le _ _ (Nat.le_of_not_lt h)]

/-- A change that leaves the entry as it is. -/
theorem adjust_of_same {α : Type} [Inhabited α] {n : Nat} {t : Vector α n} {i : Nat} {f : α → α}
    (h : f (look t i) = look t i) : adjust t i f = t := by
  by_cases hi : i < n
  · refine table_ext fun q _ => ?_
    rw [look_adjust _ _ hi]
    split
    · next e => rw [h, e]
    · rfl
  · exact put_of_le _ _ (Nat.le_of_not_lt hi)

end Sys2Proof

namespace Sys2Proof.Machine

set_option Elab.async false

variable {a b : Blocks} {d : Nat}

/-! ## A dispenser's entry -/

theorem onDispenser_look (hd : d < 96) (f : Dispenser → Dispenser) (e : Nat) :
    look (b.onDispenser d f).source.dispensers e
      = if e = d then f (look b.source.dispensers d) else look b.source.dispensers e := look_adjust _ f hd e

theorem onDispenser_onDispenser (b : Blocks) (d : Nat) (f g : Dispenser → Dispenser) :
    (b.onDispenser d f).onDispenser d g = b.onDispenser d fun e => g (f e) := by
  simp only [Blocks.onDispenser, Blocks.onSource, adjust_adjust]

/-- R45: a report of a LOW reel that was not reported. -/
theorem reportLow_of_unreported (h : (look b.source.dispensers d).lowReported = false) :
    reportLow d b = raise 26 ⟨none, some d, none⟩ (b.onDispenser d fun e => { e with lowReported := true }) :=
  if_neg (by simp [h])

theorem reportOut_of_unreported (h : (look b.source.dispensers d).outReported = false) :
    reportOut d b = raise 24 ⟨none, some d, none⟩ (b.onDispenser d fun e => { e with outReported := true }) :=
  if_neg (by simp [h])

theorem reportOut_of_reported (h : (look b.source.dispensers d).outReported = true) : reportOut d b = b := if_pos h

/-! ## A refill (R41, R44, R45) -/

/-- The reel is LOW as soon as it is full. -/
def Dispenser.lowAtOnce (e : Dispenser) : Bool := decide (e.threshold = e.capacity) && decide (e.threshold ≠ 0)

/-- The entry after a refill and the report that it may make. -/
def Dispenser.refillReported (e : Dispenser) (condition : Condition) : Dispenser :=
  { e.refilled condition with lowReported := e.lowAtOnce }

theorem refilled_reel_eq_low (e : Dispenser) (condition : Condition) :
    (e.refilled condition).reel = .low ↔ e.lowAtOnce = true := by
  simp only [Dispenser.refilled, Dispenser.lowAtOnce, Bool.and_eq_true, decide_eq_true_eq]
  split
  · next h => exact iff_of_true rfl h
  · next h => exact iff_of_false nofun h

theorem refill_of_full (hd : d < 96) (h : (look b.source.dispensers d).lowAtOnce = false) (condition : Condition) :
    refill d condition b = b.onDispenser d fun e => e.refillReported condition := by
  have full : ¬ (look (b.onDispenser d fun e => e.refilled condition).source.dispensers d).reel = .low := by
    rw [onDispenser_look hd, if_pos rfl, refilled_reel_eq_low, h]
    exact Bool.false_ne_true
  simp only [refill]
  rw [if_neg full]
  have entry : adjust b.source.dispensers d (fun e => e.refilled condition)
      = adjust b.source.dispensers d fun e => e.refillReported condition := by
    simp only [adjust, Dispenser.refillReported, h]
    rfl
  simp only [Blocks.onDispenser, Blocks.onSource, entry]

theorem refill_of_low (hd : d < 96) (h : (look b.source.dispensers d).lowAtOnce = true) (condition : Condition) :
    refill d condition b = raise 26 ⟨none, some d, none⟩ (b.onDispenser d fun e => e.refillReported condition) := by
  have entry : adjust b.source.dispensers d (fun e => { e.refilled condition with lowReported := true })
      = adjust b.source.dispensers d fun e => e.refillReported condition := by
    simp only [adjust, Dispenser.refillReported, h]
  have low : (look (b.onDispenser d fun e => e.refilled condition).source.dispensers d).reel = .low := by
    rw [onDispenser_look hd, if_pos rfl]
    exact (refilled_reel_eq_low _ _).mpr h
  have unreported : (look (b.onDispenser d fun e => e.refilled condition).source.dispensers d).lowReported = false := by
    rw [onDispenser_look hd, if_pos rfl]
    rfl
  simp only [refill]
  rw [if_pos low, reportLow_of_unreported unreported, onDispenser_onDispenser]
  simp only [Blocks.onDispenser, Blocks.onSource, entry]

/-! ## A dispenser's availability, with no step PLANNED (R51, R52) -/

theorem lostStep_of_unplanned (h : ∀ e ∈ b.board.window, e.state ≠ .planned) (d : Nat) : b.lostStep d = none := by
  have none : b.board.plannedFrom 0 = [] := by
    rw [Board.plannedFrom, List.map_eq_nil_iff, List.filter_eq_nil_iff]
    intro e he
    simp [h e he]
  rw [Blocks.lostStep, none]
  rfl

theorem settleDispenser_of_unplanned (h : ∀ e ∈ b.board.window, e.state ≠ .planned) (before : Source) (d : Nat) :
    settleDispenser before d b = settleGain before d b := by
  simp only [settleDispenser, lostStep_of_unplanned h, Option.isSome_none, Bool.or_false]

/-! ## The fields of a dispenser (Table 11-15) -/

/-- The payload of a dispenser LOAD holds these fields, each at its byte. -/
structure DispenserLaidOut (p : List Byte) (id offset capacity threshold : Nat) (installed enabled : Bool) : Prop where
  id : byteAt p 1 = id
  installed : byteAt p 2 = if installed then 1 else 0
  offset : byteAt p 3 = offset
  capacity : u16At p 4 = capacity
  threshold : u16At p 6 = threshold
  enabled : byteAt p 8 = if enabled then 1 else 0

/-- R40: the values that Table 3-3 allows. -/
structure DispenserFits (id offset capacity threshold : Nat) : Prop where
  id : id < 96
  low : 3 ≤ offset
  high : offset ≤ 238
  nonempty : 1 ≤ capacity
  capacity : capacity < 65536
  threshold : threshold < 65536

/-- R40: the entry with the fields of the LOAD, the threshold no higher than the capacity. -/
def Dispenser.given (e : Dispenser) (installed enabled : Bool) (offset capacity threshold : Nat) : Dispenser :=
  { e with
    loaded := true, installed := installed, offset := offset, capacity := capacity
    threshold := min threshold capacity, enabled := enabled }

section

variable {id offset capacity threshold : Nat} {installed enabled : Bool} {p : List Byte}

theorem given_lowAtOnce (nonempty : 1 ≤ capacity) (e : Dispenser) :
    (e.given installed enabled offset capacity threshold).lowAtOnce = decide (capacity ≤ threshold) := by
  have least : (min threshold capacity = capacity ∧ min threshold capacity ≠ 0) ↔ capacity ≤ threshold := by omega
  rw [Dispenser.lowAtOnce, ← Bool.decide_and]
  exact decide_eq_decide.mpr least

theorem dispenserLaidOut (fits : DispenserFits id offset capacity threshold) (installed enabled : Bool) :
    DispenserLaidOut (byteOf 3 :: byteOf id :: ([if installed then 1#8 else 0#8, byteOf offset] ++ be16 capacity
      ++ be16 threshold ++ [if enabled then 1#8 else 0#8])) id offset capacity threshold installed enabled := by
  obtain ⟨hid, -, high, -, hcapacity, hthreshold⟩ := fits
  have flag : ∀ x : Bool, (if x then 1#8 else 0#8).toNat = if x then 1 else 0 := fun x => by cases x <;> rfl
  exact ⟨byteAt_of_byteOf rfl (by omega), (byteAt_of_byte rfl).trans (flag _), byteAt_of_byteOf rfl (by omega),
    u16At_of_be16 rfl rfl hcapacity, u16At_of_be16 rfl rfl hthreshold, (byteAt_of_byte rfl).trans (flag _)⟩

variable (h : DispenserLaidOut p id offset capacity threshold installed enabled)
include h

theorem DispenserLaidOut.load (e : Dispenser) : e.load p = e.given installed enabled offset capacity threshold := by
  obtain ⟨-, hinstalled, hoffset, hcapacity, hthreshold, henabled⟩ := h
  simp only [Dispenser.load, hinstalled, hoffset, hcapacity, hthreshold, henabled]
  cases installed <;> cases enabled <;> rfl

variable (fits : DispenserFits id offset capacity threshold)
include fits

theorem DispenserLaidOut.fieldFault : dispenserFieldFault p = none := by
  obtain ⟨-, hinstalled, hoffset, hcapacity, -, henabled⟩ := h
  obtain ⟨-, low, high, nonempty, -, -⟩ := fits
  have flag : ∀ x : Bool, ¬ 1 < if x then 1 else 0 := fun x => by cases x <;> decide
  rw [dispenserFieldFault, hinstalled, hoffset, hcapacity, henabled, if_neg (flag _), if_neg (by omega),
    if_neg (by omega), if_neg (flag _)]

/-- R40: a LOAD of allowed values is answered by what a standing board lets change. -/
theorem DispenserLaidOut.takeLoadDispenser_eq (b : Blocks) :
    takeLoadDispenser p b = if b.board.standing = true ∧ ((look b.source.dispensers id).installed ≠ installed
        ∨ (look b.source.dispensers id).offset ≠ offset) then .refuse .busy (.number id) b
      else .accept (loadDispenser id p b) := by
  have read : decide (byteAt p 2 = 1) = installed := by
    rw [h.installed]
    cases installed <;> rfl
  have known := fits.id
  simp only [takeLoadDispenser, h.id, h.fieldFault fits, read, h.offset]
  rw [if_neg (by omega)]

end

/-! ## The LOAD at the source table (R40, R41) -/

theorem answerLoad_refuse {s : State} {rest : List Record} {table index : Nat} {contents : List Byte}
    {f : List Byte → Blocks → Answer} {reason : RefusalReason} {detail : Detail} (ht : table ≤ 10)
    (h : s.offers (loadRecord table index contents) rest)
    (hf : f (byteOf table :: byteOf index :: contents) s.blocks = .refuse reason detail s.blocks) :
    answerLoad table (contents.length + 2) f s = .next (s.answered rest (refusal 0x10#8 reason detail)) :=
  answerRow_refuse h (takeable_of_not_stream (by simp [Record.isStream, loadRecord_row ht]) _ _)
    (loadRecord_row ht index contents) hf

/-- What a dispenser LOAD leaves of its entry. -/
def loadedEntry (installed enabled : Bool) (offset capacity threshold : Nat) (full : Bool) : Dispenser :=
  ⟨true, installed, offset, capacity, threshold, enabled, capacity, if full then .low else .loaded, .operational, false, 0,
    0, false, full, false⟩

section

variable {id offset capacity threshold : Nat} {installed enabled : Bool} {p : List Byte}
variable (h : DispenserLaidOut p id offset capacity threshold installed enabled)
variable (fits : DispenserFits id offset capacity threshold) (nothing : b.board.nothingToPlan)
include h fits nothing

/-- R41: below the capacity of its reel the LOAD changes the entry alone. -/
theorem loadDispenser_of_below (below : threshold < capacity) :
    (b.onDispenser id fun _ => loadedEntry installed enabled offset capacity threshold false).Settles
      (loadDispenser id p b) := by
  have entry : ∀ e : Dispenser, (e.given installed enabled offset capacity threshold).refillReported .operational
      = loadedEntry installed enabled offset capacity threshold false := fun e => by
    have least : min threshold capacity = threshold := by omega
    have apart : threshold ≠ capacity := by omega
    simp [Dispenser.refillReported, Dispenser.refilled, Dispenser.given, Dispenser.lowAtOnce, loadedEntry, least, apart]
  have full : (look (b.onDispenser id fun e => e.load p).source.dispensers id).lowAtOnce = false := by
    rw [onDispenser_look fits.id, if_pos rfl, h.load, given_lowAtOnce fits.nonempty]
    exact decide_eq_false (by omega)
  have refilled : refill id .operational (b.onDispenser id fun e => e.load p)
      = b.onDispenser id fun _ => loadedEntry installed enabled offset capacity threshold false := by
    rw [refill_of_full fits.id full, onDispenser_onDispenser]
    simp only [h.load, entry]
  rw [loadDispenser, refilled, settleDispenser_of_unplanned (b := b.onDispenser id _) nothing.unplanned]
  refine (settleGain_settles _ _ _).trans (conclude_settles (l := []) (reactRise_of_same ?_) ?_ .nil (.inr (.inl ?_)))
  · exact settleGain_alarm _ _ _
  · rw [settleGain_board, List.append_nil]
    rfl
  · rw [settleGain_board]
    exact nothing

/-- R41, R45: with the threshold at the capacity or above, REEL LOW occurs as well. -/
theorem loadDispenser_of_above (above : capacity ≤ threshold) :
    look (loadDispenser id p b).source.dispensers id = loadedEntry installed enabled offset capacity capacity true
      ∧ look (loadDispenser id p b).alarm.codes 26 = (look b.alarm.codes 26).struck ⟨none, some id, none⟩ := by
  have entry : ∀ e : Dispenser, (e.given installed enabled offset capacity threshold).refillReported .operational
      = loadedEntry installed enabled offset capacity capacity true := fun e => by
    have least : min threshold capacity = capacity := by omega
    have positive : capacity ≠ 0 := by have := fits.nonempty; omega
    simp [Dispenser.refillReported, Dispenser.refilled, Dispenser.given, Dispenser.lowAtOnce, loadedEntry, least, positive]
  have low : (look (b.onDispenser id fun e => e.load p).source.dispensers id).lowAtOnce = true := by
    rw [onDispenser_look fits.id, if_pos rfl, h.load, given_lowAtOnce fits.nonempty]
    exact decide_eq_true above
  have refilled : refill id .operational (b.onDispenser id fun e => e.load p) = raise 26 ⟨none, some id, none⟩
      (b.onDispenser id fun _ => loadedEntry installed enabled offset capacity capacity true) := by
    rw [refill_of_low fits.id low, onDispenser_onDispenser]
    simp only [h.load, entry]
  have unplanned : ∀ e ∈ (raise 26 ⟨none, some id, none⟩
      (b.onDispenser id fun _ => loadedEntry installed enabled offset capacity capacity true)).board.window,
      e.state ≠ .planned := by
    rw [raise_board]
    exact nothing.unplanned
  rw [loadDispenser, refilled, settleDispenser_of_unplanned unplanned]
  constructor
  · refine (conclude_keepsReels _ _).look_eq ?_ rfl nofun
    rw [settleGain_dispensers, raise_source, onDispenser_look fits.id, if_pos rfl]
  · rw [conclude_spares (by decide) (by decide) (by decide), settleGain_alarm, raise_look (by decide)]
    rfl

end

/-- Settles O51: what the LOAD refuses is a change at a standing board, and what it takes is a refill. -/
theorem dispenserLoads : Obligations.DispenserLoads := by
  intro id offset capacity threshold installed enabled rest s hid low high nonempty hcapacity hthreshold h was
  have fits : DispenserFits id offset capacity threshold := ⟨hid, low, high, nonempty, hcapacity, hthreshold⟩
  have laidOut := dispenserLaidOut fits installed enabled
  have answer := laidOut.takeLoadDispenser_eq fits s.blocks
  have taken : s.blocks.board.phase = .none ∨ (was.installed = installed ∧ was.offset = offset) →
      exec .loadDispenser s = .next (s.taken rest (loadDispenser id _ s.blocks)) := fun free => by
    refine answerLoad_accept (f := takeLoadDispenser) (by decide) h (answer.trans (if_neg ?_))
    rintro ⟨standing, changed⟩
    rcases free with idle | ⟨sameInstalled, sameOffset⟩
    · rw [Board.not_standing idle] at standing
      cases standing
    · exact changed.elim (· sameInstalled) (· sameOffset)
  refine ⟨fun standing changed => ?_, fun free nothing below => ?_, fun free nothing above => ?_⟩
  · refine answerLoad_refuse (f := takeLoadDispenser) (by decide) h (answer.trans (if_pos ⟨?_, changed⟩))
    simpa [Board.standing] using standing
  · have settles := loadDispenser_of_below laidOut fits nothing below
    refine ⟨_, taken free, ?_, fun e ne => ?_, settles.board, settles.chain, settles.alarm, settles.shaft, rfl⟩
    · exact (congrArg (look · id) settles.dispensers).trans ((onDispenser_look hid _ id).trans (if_pos rfl))
    · exact (congrArg (look · e) settles.dispensers).trans ((onDispenser_look hid _ e).trans (if_neg ne))
  · obtain ⟨entry, struck⟩ := loadDispenser_of_above laidOut fits nothing above
    exact ⟨_, taken free, entry, struck, rfl⟩

end Sys2Proof.Machine
end

section
/-! # The end of an event with nothing to plan -/

namespace Sys2Proof.Machine

set_option Elab.async false

/-! ## Several occurrences (R138) -/

/-- The alarm table after several occurrences, one after another. -/
def Alarm.strike (a : Alarm) (l : List (Nat × AlarmContext)) : Alarm := l.foldl (fun a p => a.occur p.1 p.2) a

section

variable {a : Alarm} {l : List (Nat × AlarmContext)} {code : Nat}

theorem Alarm.strike_raisedOnly (a : Alarm) (l : List (Nat × AlarmContext)) :
    a.RaisedOnly (a.strike l) (l.map Prod.fst) := by
  induction l generalizing a with
  | nil => exact .refl a _
  | cons p l ih =>
    have first : a.RaisedOnly (a.occur p.1 p.2) ((p :: l).map Prod.fst) :=
      (Alarm.RaisedOnly.refl a _).occur (by simp) p.2
    refine first.trans ⟨fun other ho hn => (ih _).elsewhere other ho fun h => hn (List.mem_cons_of_mem _ h), ?_⟩
    intro other _
    rw [Alarm.strike, List.foldl_cons]
    exact foldl_leaves (fun a : Alarm => (look a.codes other).cls) _
      (fun a (p : Nat × AlarmContext) => Alarm.occur_cls a p.1 p.2 other) l _

theorem Alarm.strike_look_of_not_mem (h : code ∉ l.map Prod.fst) (a : Alarm) :
    look (a.strike l).codes code = look a.codes code := by
  induction l generalizing a with
  | nil => rfl
  | cons p l ih =>
    rw [List.map_cons, List.mem_cons, not_or] at h
    exact (ih h.2 _).trans (Alarm.occur_other (Ne.symm h.1) _)

theorem Alarm.strike_look_of_mem (hc : code < 32) {context : AlarmContext} (h : (code, context) ∈ l)
    (once : (l.map Prod.fst).Nodup) (a : Alarm) :
    look (a.strike l).codes code = (look a.codes code).struck context := by
  induction l generalizing a with
  | nil => exact absurd h List.not_mem_nil
  | cons p l ih =>
    obtain ⟨fresh, once⟩ := List.nodup_cons.mp once
    rcases List.mem_cons.mp h with rfl | h
    · exact (Alarm.strike_look_of_not_mem fresh _).trans (Alarm.occur_struck hc context a)
    · refine (ih h once _).trans (congrArg (·.struck context) (Alarm.occur_other ?_ _))
      rintro rfl
      exact fresh (List.mem_map.mpr ⟨_, h, rfl⟩)

end

/-! ## The end of the event (R28, R60, R144) -/

/-- An event of which nothing is asked at once, and after which no pass is made or nothing is to be planned, ends in the stop
cause alone. -/
theorem conclude_idle {a : Blocks} {r : Blocks × Bool} (react : ∃ cause, reactRise a.alarm r.1 = setStopCause cause r.1)
    (order : r.1.board.reportOrder = a.board.reportOrder)
    (h : r.2 = false ∨ r.1.board.nothingToPlan ∨ r.1.plansNothing) : ∃ cause, conclude a r = setStopCause cause r.1 := by
  obtain ⟨cause, e⟩ := react
  obtain ⟨cause', e'⟩ := planIf_idle (b := setStopCause cause r.1) h
  exact ⟨cause', by rw [conclude, e, e']; exact orderReports_of_same order⟩

end Sys2Proof.Machine
end

section
/-! # Verify results -/

namespace Sys2Proof.Machine

set_option Elab.async false

variable {b c : Blocks} {o : Component} {v : VerifyRecord} {r : VerifyResult} {pitch d : Nat} {k : Kind}

/-! ## Readings and results (R93, R94) -/

theorem Verifier.readCount_of_reads {v : Verifier} {count : Nat} {r : Reading} (h : v.reads k count r) :
    v.readCount k count = r := by
  unfold Verifier.readCount
  cases r with
  | short => exact if_pos h
  | opened =>
    obtain ⟨above, beyond⟩ := h
    have none : (List.range k.bandCount).find?
        (fun b => decide (count ≤ (look v.bands (k.bandStart + b)).getD 0)) = none := by
      rw [List.find?_eq_none]
      intro b hb
      have := beyond b (List.mem_range.mp hb)
      simpa using this
    rw [if_neg (by omega), none]
  | band b =>
    obtain ⟨above, inSet, within, beyond⟩ := h
    have found : (List.range k.bandCount).find?
        (fun b => decide (count ≤ (look v.bands (k.bandStart + b)).getD 0)) = some b := by
      rw [List.find?_range_eq_some]
      refine ⟨by simpa using within, List.mem_range.mpr inSet, fun a ha => ?_⟩
      have := beyond a ha
      simpa using this
    rw [if_neg (by omega), found]

/-- A band within the alternate range. -/
def Kind.alternates (k : Kind) (b : Nat) : Bool :=
  match k.alternate with
  | some a => decide (a.1 ≤ b) && decide (b ≤ a.2)
  | none => false

/-- R94: the result of a band, the expected range coming before the alternate one. -/
theorem bandResult_eq (k : Kind) (b : Nat) :
    (if k.inExpected b then VerifyResult.pass else if k.inAlternate b then .passAlt else .value)
      = if k.expectedLo ≤ b ∧ b ≤ k.expectedHi then .pass else if k.alternates b then .passAlt else .value := by
  have expected : k.inExpected b = true ↔ k.expectedLo ≤ b ∧ b ≤ k.expectedHi := by simp [Kind.inExpected]
  by_cases h : k.inExpected b = true
  · rw [if_pos h, if_pos (expected.mp h)]
  · have alternate : k.inAlternate b = k.alternates b := by
      unfold Kind.inAlternate Kind.alternates
      cases k.alternate <;> simp [h]
    rw [if_neg h, if_neg (mt expected.mpr h), alternate]

theorem VerifyResult.passes_eq (r : VerifyResult) : r.passes = (decide (r = .pass) || decide (r = .passAlt)) := by
  cases r <;> rfl

/-! ## The source of a result (R46, Table 3-6) -/

theorem Dispenser.after_of_ne (e : Dispenser) (h : r ≠ .missing) : e.after r = e.judged r := by
  have capped : (if e.badPart < 3 then e.badPart + 1 else 3) = min (e.badPart + 1) 3 := by split <;> omega
  cases r with
  | missing => exact absurd rfl h
  | opened => simp only [Dispenser.after, Dispenser.judged, capped]
  | short => simp only [Dispenser.after, Dispenser.judged, capped]
  | _ => rfl

theorem Dispenser.after_missing (e : Dispenser) :
    e.after .missing = { e.judged .missing with outReported := e.outReported || decide (e.missing = 1) } := by
  have capped : (if e.missing < 2 then e.missing + 1 else 2) = min (e.missing + 1) 2 := by split <;> omega
  simp only [Dispenser.after, Dispenser.judged, capped]

theorem wrongReel_eq (e : Dispenser) (r : VerifyResult) : wrongReel e r = e.raises r 23 := by
  cases r <;> simp [wrongReel, Dispenser.raises]

theorem Dispenser.raises_out (e : Dispenser) (r : VerifyResult) :
    e.raises r 24 = (decide (r = .missing) && decide (e.missing = 1) && !e.outReported) := by
  cases r <;> simp [Dispenser.raises]

/-- The codes that a result raises at its source's entry, each with its context. -/
def Dispenser.verdicts (e : Dispenser) (r : VerifyResult) (d : Nat) (step kind : Option Nat) : List (Nat × AlarmContext) :=
  (if e.raises r 23 then [(23, ⟨step, some d, kind⟩)] else []) ++ if e.raises r 24 then [(24, ⟨none, some d, none⟩)] else []

/-- R45: the source after a MISSING result, REEL OUT being reported at the second in a row. -/
theorem reportMissing_eq (hq : b.counters.quiet) (d : Nat) :
    (if (look b.source.dispensers d).missing = 1 then reportOut d (b.onDispenser d fun e => e.judged .missing)
      else b.onDispenser d fun e => e.judged .missing)
      = (b.onDispenser d fun e => e.after .missing).onAlarm fun a =>
        a.strike (if (look b.source.dispensers d).raises .missing 24 then [(24, ⟨none, some d, none⟩)] else []) := by
  generalize hw : look b.source.dispensers d = was
  have kept : (look (b.onDispenser d fun e => e.judged .missing).source.dispensers d).outReported = was.outReported := by
    by_cases hd : d < 96
    · rw [onDispenser_look hd, if_pos rfl, hw]
      rfl
    · simp only [Blocks.onDispenser, Blocks.onSource_source, adjust, put_of_le _ _ (Nat.le_of_not_lt hd), hw]
  have entry : ∀ x, (x = (was.outReported || decide (was.missing = 1))) →
      (b.onDispenser d fun e => { e.judged .missing with outReported := x }) = b.onDispenser d fun e => e.after .missing := by
    rintro _ rfl
    simp only [Blocks.onDispenser, Blocks.onSource, adjust, hw, Dispenser.after_missing]
  have same : (b.onDispenser d fun e => e.judged .missing)
      = b.onDispenser d fun e => { e.judged .missing with outReported := was.outReported } := by
    simp only [Blocks.onDispenser, Blocks.onSource, adjust, hw]
    rfl
  by_cases second : was.missing = 1
  · rw [if_pos second]
    by_cases reported : was.outReported = true
    · rw [reportOut_of_reported (kept.trans reported), same, entry _ (by simp [reported])]
      simp only [Dispenser.raises, reported, Bool.not_true, Bool.and_false, Bool.false_eq_true, if_false]
      rfl
    · rw [reportOut_of_unreported (kept.trans (by simpa using reported)), onDispenser_onDispenser,
        entry _ (by simp [second]), raise_quiet (by exact hq)]
      simp [Dispenser.raises, second, reported, Alarm.strike]
  · rw [if_neg second, same, entry _ (by simp [second])]
    simp only [Dispenser.raises, second, decide_false, Bool.and_false, Bool.false_and, Bool.false_eq_true, if_false]
    rfl

/-- R45, R46: the source after a result, before the consequences for its availability. -/
theorem judgeDispenser_eq (hq : b.counters.quiet) (hp : ∀ e ∈ b.board.window, e.state ≠ .planned) (d : Nat)
    (r : VerifyResult) (step kind : Option Nat) : judgeDispenser d r step kind b = settleGain b.source d
      ((b.onDispenser d fun e => e.after r).onAlarm fun a =>
        a.strike ((look b.source.dispensers d).verdicts r d step kind)) := by
  have unplanned : ∀ f g, settleDispenser b.source d ((b.onDispenser d f).onAlarm g)
      = settleGain b.source d ((b.onDispenser d f).onAlarm g) :=
    fun f g => settleDispenser_of_unplanned (b := (b.onDispenser d f).onAlarm g) hp _ d
  by_cases missing : r = .missing
  · subst missing
    have right : ∀ e, wrongReel e .missing = false := fun _ => rfl
    simp only [judgeDispenser, right, Bool.false_eq_true, if_false, true_and]
    rw [reportMissing_eq hq, unplanned]
    rfl
  · have entry : (b.onDispenser d fun e => e.judged r) = b.onDispenser d fun e => e.after r := by
      simp only [Dispenser.after_of_ne _ missing]
    have loaded : ∀ e : Dispenser, e.raises r 24 = false := fun e => by simp [Dispenser.raises_out, missing]
    simp only [judgeDispenser, missing, false_and, if_false, entry, wrongReel_eq, Dispenser.verdicts, loaded]
    split
    · rw [raise_quiet (by exact hq), unplanned]
      rfl
    · exact unplanned _ id

/-! ## The fault run (R98) -/

/-- R98: four entries name several dispensers as soon as one of them is not the last one. -/
theorem severalNamed_eq (l : List Nat) (d : Nat) : severalNamed (l ++ [d]) = (l ++ [d]).any fun e => decide (e ≠ d) := by
  rw [Bool.eq_iff_iff]
  cases l with
  | nil => simp [severalNamed]
  | cons x l =>
    simp only [List.cons_append, severalNamed, List.any_cons, List.any_append, List.any_eq_true, decide_eq_true_eq,
      Bool.or_eq_true, List.any_nil, Bool.false_eq_true, or_false, ne_eq, not_true_eq_false]
    constructor
    · rintro (⟨y, hy, ne⟩ | ne)
      · by_cases h : x = d
        · exact .inr ⟨y, hy, fun e => ne (e.trans h.symm)⟩
        · exact .inl h
      · exact .inl (Ne.symm ne)
    · rintro (ne | ⟨y, hy, ne⟩)
      · exact .inr (Ne.symm ne)
      · by_cases h : x = d
        · exact .inl ⟨y, hy, fun e => ne (e.trans h)⟩
        · exact .inr (Ne.symm h)

/-- R98: the result is a VERIFIER FAULT. -/
def Verifier.faults (v : Verifier) (r : VerifyResult) (source : Option Nat) : Bool :=
  match source with
  | some d => decide (r = .opened) && v.faultsAt d
  | none => false

/-- R98: the fault run after a result. -/
def Verifier.runAfter (v : Verifier) (r : VerifyResult) (source : Option Nat) : List Nat :=
  if r = .missing ∨ (r = .opened ∧ source = none) then v.faultRun
  else match source with
    | some d => if r = .opened ∧ v.faultsAt d = false then v.runWith d else []
    | none => []

theorem extendFaultRun_eq (hq : b.counters.quiet) (r : VerifyResult) (source : Option Nat) :
    extendFaultRun r source b = (b.onVerifier fun v => { v with faultRun := v.runAfter r source }).onAlarm fun a =>
      a.strike (if b.verifier.faults r source then [(17, ⟨none, source, none⟩)] else []) := by
  cases r with
  | missing => cases source <;> rfl
  | opened =>
    cases source with
    | none => rfl
    | some d =>
      have faulty : ((b.verifier.runWith d).length = Config.faultRunLength ∧ severalNamed (b.verifier.runWith d) = true)
          ↔ b.verifier.faultsAt d = true := by
        rw [Verifier.runWith, severalNamed_eq]
        simp [Verifier.faultsAt, Verifier.runWith, Config.faultRunLength]
      change (if (b.verifier.runWith d).length = Config.faultRunLength ∧ severalNamed (b.verifier.runWith d) = true then
          raise 17 ⟨none, some d, none⟩ (b.onVerifier fun v => { v with faultRun := [] })
        else b.onVerifier fun v => { v with faultRun := b.verifier.runWith d }) = _
      by_cases fault : b.verifier.faultsAt d = true
      · rw [if_pos (faulty.mpr fault), raise_quiet (by exact hq)]
        simp [Verifier.faults, Verifier.runAfter, fault, Blocks.onVerifier, Blocks.onAlarm, Alarm.strike]
      · rw [if_neg (mt faulty.mp fault)]
        simp [Verifier.faults, Verifier.runAfter, fault, Blocks.onVerifier, Blocks.onAlarm, Alarm.strike]
  | _ => cases source <;> rfl

/-! ## The result itself (R96) -/

/-- R46: the sources after a result. -/
def Blocks.sourceAfter (b : Blocks) (o : Component) (r : VerifyResult) : Source :=
  match o.source with
  | some d => (b.onDispenser d fun e => e.after r).source
  | none => b.source

/-- R45, R46: the codes that a result raises at the component's source, each with its context. -/
def Blocks.verdictsAt (b : Blocks) (o : Component) (r : VerifyResult) : List (Nat × AlarmContext) :=
  match o.source with
  | some d => (look b.source.dispensers d).verdicts r d o.step o.kind
  | none => []

/-- R45, R46, R98: the codes that a result raises, in order, each with its context. -/
def Blocks.strikes (b : Blocks) (o : Component) (r : VerifyResult) : List (Nat × AlarmContext) :=
  b.verdictsAt o r ++ if b.verifier.faults r o.source then [(17, ⟨none, o.source, none⟩)] else []

/-- R96: the slot and the step record after a result. -/
def Blocks.recorded (b : Blocks) (pitch : Nat) (o : Component) (v : VerifyRecord) : Blocks :=
  { b with
    chain := { b.chain with slots := b.chain.slots.set pitch (.occupied (o.measured v.result)) }
    board := { b.board with
      window := b.board.window.map fun e =>
        if o.step = some e.number then e.measured v (decide (o.disposition = .insert)) else e } }

/-- R46, R96, R98: the blocks after a result, but for the counters, the selection and the planner. -/
def Blocks.given (b : Blocks) (pitch : Nat) (o : Component) (v : VerifyRecord) : Blocks :=
  { b.recorded pitch o v with
    source := b.sourceAfter o v.result
    verifier := { b.verifier with faultRun := b.verifier.runAfter v.result o.source }
    alarm := b.alarm.strike (b.strikes o v.result) }

theorem recorded_eq (b : Blocks) (pitch : Nat) (o : Component) (v : VerifyRecord) :
    (match o.step with
      | some n => (b.setSlot pitch (.occupied (o.measured v.result))).onStep n fun c =>
        c.measured v (decide (o.disposition = .insert))
      | none => b.setSlot pitch (.occupied (o.measured v.result))) = b.recorded pitch o v := by
  unfold Blocks.recorded
  cases o.step with
  | none => simp [Blocks.setSlot, Blocks.onChain]
  | some n => simp [Blocks.setSlot, Blocks.onChain, Blocks.onStep, Blocks.onBoard, eq_comm]

/-- A result makes no step QUEUED or PLANNED. -/
theorem recorded_nothingToPlan (hp : b.board.nothingToPlan) (pitch : Nat) (o : Component) (v : VerifyRecord) :
    (b.recorded pitch o v).board.nothingToPlan := by
  intro e he
  obtain ⟨was, hw, rfl⟩ := List.mem_map.mp he
  split
  · by_cases insert : o.disposition = .insert
    · cases passes : v.result.passes <;> simp [StepContext.measured, insert, passes]
    · simpa [StepContext.measured, insert] using hp was hw
  · exact hp was hw

/-- Under quiet counters a VERIFY report counts in the statistics alone. -/
theorem reportVerify_quiet (hq : b.counters.quiet) (passed : Bool) (kind : Nat) : ∃ statistics,
    reportVerify passed kind b = b.onCounters fun c => { c with statistics := statistics } := by
  unfold reportVerify
  rw [countEvent_quiet hq, countEvent_quiet hq]
  split
  · exact ⟨b.counters.statistics, rfl⟩
  · exact (countStatistics_eq _ _ _).imp fun _ h => h.1

/-- R46: the result at the component's source, if it names one. -/
def Blocks.judgedAt (b : Blocks) (o : Component) (r : VerifyResult) : Blocks × Bool :=
  match o.source with
  | some d => judgeDispenser d r o.step o.kind b
  | none => (b, false)

/-- R96: the VERIFY report, if the component has a kind. -/
def Blocks.reported (b : Blocks) (o : Component) (r : VerifyResult) : Blocks :=
  match o.kind with
  | some k => reportVerify r.passes k b
  | none => b

theorem giveResult_eq (ho : b.chain.slotOf pitch = .occupied o) (v : VerifyRecord) :
    giveResult pitch v b =
      let judged := (choose (b.recorded pitch o v)).judgedAt o v.result
      conclude b (extendFaultRun v.result o.source (judged.1.reported o v.result), judged.2) := by
  unfold giveResult
  rw [ho, ← recorded_eq]
  rfl

theorem reported_quiet (hq : b.counters.quiet) (o : Component) (r : VerifyResult) : ∃ statistics,
    b.reported o r = b.onCounters fun c => { c with statistics := statistics } := by
  unfold Blocks.reported
  split
  · exact reportVerify_quiet hq _ _
  · exact ⟨b.counters.statistics, rfl⟩

/-- R45, R46: the source of a result judged. -/
theorem judgedAt_settles (hq : b.counters.quiet) (o : Component) (v : VerifyRecord) (pitch : Nat)
    (hp : o.source ≠ none → b.board.nothingToPlan) :
    let a := b.recorded pitch o v
    let judged := (choose a).judgedAt o v.result
    Blocks.Settles { a with
        source := b.sourceAfter o v.result
        alarm := b.alarm.strike (b.verdictsAt o v.result) } judged.1
      ∧ judged.1.planner.freeze = b.planner.freeze ∧ (o.source = none → judged.1.source = b.source)
      ∧ (judged.2 = false ∨ o.source ≠ none) := by
  intro a
  unfold Blocks.judgedAt Blocks.sourceAfter Blocks.verdictsAt
  cases hs : o.source with
  | none =>
    exact ⟨choose_settles a, congrArg Planner.freeze (choose_planner (b := a)), fun _ => choose_source (b := a), .inl rfl⟩
  | some d =>
    have unplanned : ∀ e ∈ (choose a).board.window, e.state ≠ .planned := by
      rw [choose_board]
      exact fun e he => (recorded_nothingToPlan (hp (by simp [hs])) pitch o v e he).2
    have quiet : (choose a).counters.quiet := by rw [choose_counters]; exact hq
    dsimp only
    rw [judgeDispenser_eq quiet unplanned]
    refine ⟨.trans ?_ (settleGain_settles _ _ _), ?_, nofun, .inr nofun⟩
    · constructor <;> simp [Blocks.onDispenser] <;> rfl
    · simp
      rfl

theorem Alarm.strike_append (a : Alarm) (l l' : List (Nat × AlarmContext)) :
    a.strike (l ++ l') = (a.strike l).strike l' := List.foldl_append

/-- The codes of a result ask nothing of the shaft at once. -/
theorem reactRise_given {a : Blocks} (hs : c.shaft = a.shaft) (ha : c.alarm = a.alarm.strike (a.strikes o r))
    (hu : ∀ code ∈ (a.strikes o r).map Prod.fst, a.unmovedBy code)
    (hp : o.source ≠ none → ∀ e ∈ c.board.window, e.state ≠ .planned) :
    ∃ cause, reactRise a.alarm c = setStopCause cause c := by
  by_cases hn : o.source = none
  · refine reactRise_of_same (ha.trans ?_)
    simp [Blocks.strikes, Blocks.verdictsAt, hn, Verifier.faults, Alarm.strike]
  · exact reactRise_unplanned hs (ha ▸ Alarm.strike_raisedOnly _ _) hu (hp hn)

/-- R96: a result, stated where its codes ask nothing of the shaft at once. -/
theorem giveResult_settles (ho : b.chain.slotOf pitch = .occupied o) (hq : b.counters.quiet)
    (hp : o.source ≠ none → b.board.nothingToPlan)
    (hu : ∀ code ∈ (b.strikes o v.result).map Prod.fst, b.unmovedBy code) :
    ∃ statistics, Blocks.Settles { b.given pitch o v with counters := { b.counters with statistics := statistics } }
        (giveResult pitch v b)
      ∧ (giveResult pitch v b).planner.freeze = b.planner.freeze
      ∧ (o.source = none → (giveResult pitch v b).source = b.source) := by
  obtain ⟨settles, freeze, source, due⟩ := judgedAt_settles hq o v pitch hp
  rw [giveResult_eq ho]
  dsimp only
  generalize (choose (b.recorded pitch o v)).judgedAt o v.result = judged at settles freeze source due ⊢
  have quiet : judged.1.counters.quiet := by rw [settles.counters]; exact hq
  obtain ⟨statistics, counted⟩ := reported_quiet quiet o v.result
  rw [counted, extendFaultRun_eq (by exact quiet)]
  generalize hF : Blocks.onAlarm _ _ = F
  have verifier : judged.1.verifier = b.verifier := settles.verifier
  have ends : Blocks.Settles { b.given pitch o v with counters := { b.counters with statistics := statistics } } F := by
    subst hF
    exact { settles with
      alarm := by simp [settles.alarm, verifier, Blocks.given, Blocks.strikes, Alarm.strike_append]
      counters := by simp [settles.counters, Blocks.recorded]
      verifier := by simp [verifier, Blocks.given]
      freeze := fun h => freeze.trans h }
  have nothing : o.source ≠ none → F.board.nothingToPlan := fun hn => by
    rw [ends.board]
    exact recorded_nothingToPlan (hp hn) pitch o v
  obtain ⟨cause, concluded⟩ := conclude_idle (a := b) (r := (F, judged.2))
    (reactRise_given (by rw [ends.shaft]; rfl) (by rw [ends.alarm]; rfl) hu fun hn e he => (nothing hn e he).2)
    (by rw [ends.board]; rfl) (due.imp_right fun hn => .inl (nothing hn))
  rw [concluded]
  refine ⟨statistics, ends.trans (setStopCause_settles _ _), ?_, ?_⟩
  · subst hF; exact freeze
  · subst hF; exact source

/-- R45, R46, R98: a result raises a code. -/
def Blocks.raisesCode (b : Blocks) (o : Component) (r : VerifyResult) (code : Nat) : Bool :=
  match o.source with
  | some d => if code = 17 then decide (r = .opened) && b.verifier.faultsAt d else (look b.source.dispensers d).raises r code
  | none => false

/-- R137: the context of a code that a result raises. -/
def Component.contextOf (o : Component) (code : Nat) : AlarmContext :=
  if code = 23 then ⟨o.step, o.source, o.kind⟩ else ⟨none, o.source, none⟩

theorem strikes_eq (b : Blocks) (o : Component) (r : VerifyResult) :
    b.strikes o r = ([23, 24, 17].filter (b.raisesCode o r)).map fun code => (code, o.contextOf code) := by
  unfold Blocks.strikes Blocks.verdictsAt Dispenser.verdicts Verifier.faults
  cases hs : o.source with
  | none => simp [Blocks.raisesCode, hs]
  | some d =>
    have h23 : b.raisesCode o r 23 = (look b.source.dispensers d).raises r 23 := by simp [Blocks.raisesCode, hs]
    have h24 : b.raisesCode o r 24 = (look b.source.dispensers d).raises r 24 := by simp [Blocks.raisesCode, hs]
    have h17 : b.raisesCode o r 17 = (decide (r = .opened) && b.verifier.faultsAt d) := by simp [Blocks.raisesCode, hs]
    simp only [List.filter_cons, List.filter_nil, h23, h24, h17]
    split <;> split <;> split <;> simp [Component.contextOf, hs]

theorem strikes_codes (b : Blocks) (o : Component) (r : VerifyResult) :
    (b.strikes o r).map Prod.fst = [23, 24, 17].filter (b.raisesCode o r) := by
  rw [strikes_eq, List.map_map]
  exact List.map_id _

/-- R138: the entry of a code that a result may raise. -/
theorem strikes_look (b : Blocks) (o : Component) (r : VerifyResult) {code : Nat} (hc : code ∈ [23, 24, 17]) :
    look (b.alarm.strike (b.strikes o r)).codes code = if b.raisesCode o r code then
      (look b.alarm.codes code).struck (o.contextOf code) else look b.alarm.codes code := by
  have bound : code < 32 := by simp at hc; omega
  by_cases raised : b.raisesCode o r code = true
  · rw [if_pos raised]
    refine Alarm.strike_look_of_mem bound ?_ ?_ _
    · rw [strikes_eq]
      exact List.mem_map.mpr ⟨code, List.mem_filter.mpr ⟨hc, raised⟩, rfl⟩
    · rw [strikes_codes]
      exact List.Nodup.filter _ (by decide)
  · rw [if_neg raised]
    refine Alarm.strike_look_of_not_mem ?_ _
    rw [strikes_codes, List.mem_filter]
    exact fun h => raised h.2

end Sys2Proof.Machine
end

section
/-! # The verify station -/

namespace Sys2Proof.Machine

set_option Elab.async false

variable {b : Blocks} {o : Component} {v : VerifyRecord} {r : VerifyResult} {pitch d : Nat} {k : Kind} {s : State}

theorem Component.measured_eq (o : Component) (r : VerifyResult) : o.measured r =
    let passed := decide (r = .pass) || decide (r = .passAlt)
    if decide (o.disposition = .insert) = true ∧ passed = false then { o with
      verify := .failed, disposition := .divert, reason := some (if r = .missing then .missing else .verify) }
    else { o with verify := if passed then .passed else .failed } := by
  unfold Component.measured
  rw [VerifyResult.passes_eq]
  simp only [decide_eq_true_eq]
  split
  next h => simp [h.2]
  next => rfl

theorem StepContext.measured_eq (c : StepContext) (v : VerifyRecord) (insert : Bool) : c.measured v insert = { c with
    verify := some v, passAlt := c.passAlt || decide (v.result = .passAlt)
    state := if insert then
      (if (decide (v.result = .pass) || decide (v.result = .passAlt)) = true then .verified else .diverting)
      else c.state } := by
  unfold StepContext.measured
  rw [VerifyResult.passes_eq]

theorem sourceAfter_look (b : Blocks) (o : Component) (r : VerifyResult) {e : Nat} (he : e < 96) :
    look (b.sourceAfter o r).dispensers e =
      if o.source = some e then (look b.source.dispensers e).after r else look b.source.dispensers e := by
  unfold Blocks.sourceAfter
  cases hs : o.source with
  | none => rw [if_neg nofun]
  | some d =>
    by_cases hd : d < 96
    · dsimp only
      rw [onDispenser_look hd]
      by_cases h : e = d
      · rw [if_pos h, if_pos (congrArg some h.symm), h]
      · rw [if_neg h, if_neg (fun i => h (Option.some.inj i).symm)]
    · have other : d ≠ e := by omega
      rw [if_neg (by simpa using other)]
      simp [Blocks.onDispenser, adjust, put_of_le _ _ (Nat.le_of_not_lt hd)]

/-- R94: the record of one phase. -/
theorem singleRecord_eq (k : Kind) (r : Reading) (count : Nat) : singleRecord k r count =
    ⟨match k.mode with
      | .jumper => if r = .short then VerifyResult.pass else .value
      | _ => match r with
        | .short => .short
        | .opened => .opened
        | .band b => if k.expectedLo ≤ b ∧ b ≤ k.expectedHi then .pass
          else if k.alternates b then .passAlt else .value,
      match r with | .band b => some b | .short => none | .opened => none, some count⟩ := by
  cases r with
  | band b => cases hm : k.mode <;> simp only [singleRecord, hm, bandResult_eq]
  | short => cases hm : k.mode <;> simp only [singleRecord, hm]
  | opened => cases hm : k.mode <;> simp only [singleRecord, hm]

/-- R90: the kind of a component is present. -/
theorem presentKind_eq_some (b : Blocks) (kind : Option Nat) (id : Nat) (k : Kind) : b.presentKind kind = some (id, k) ↔
    kind = some id ∧ b.source.kind? id = some k ∧ b.verifier.bandsPass k := by
  unfold Blocks.presentKind
  cases kind with
  | none => simp
  | some i =>
    simp only [Option.bind_some, Option.bind_eq_some_iff, Option.isNone_iff_eq_none, Verifier.bandFault_eq_none,
      Option.ite_none_right_eq_some, Option.some.injEq, Prod.mk.injEq]
    constructor
    · rintro ⟨k', hk, bands, rfl, rfl⟩
      exact ⟨rfl, hk, bands⟩
    · rintro ⟨rfl, hk, bands⟩
      exact ⟨k, hk, bands, rfl, rfl⟩

theorem presentKind_eq_none (b : Blocks) (kind : Option Nat) : b.presentKind kind = none ↔
    ∀ id k, ¬ (kind = some id ∧ b.source.kind? id = some k ∧ b.verifier.bandsPass k) := by
  rw [Option.eq_none_iff_forall_ne_some]
  simp only [Prod.forall, ne_eq, presentKind_eq_some]

/-- R91: the measurement of a kind of mode R, C or J. -/
theorem startMeasurement_single (h : k.mode = .resistive ∨ k.mode = .capacitive ∨ k.mode = .jumper) (pitch id : Nat)
    (b : Blocks) : startMeasurement pitch id k b =
      b.onVerifier fun v => { v with running := some ⟨pitch, id, k, .single⟩, range := k.range } := by
  unfold startMeasurement
  rcases h with h | h | h <;> rw [h]

theorem startMeasurement_diode (h : k.mode = .diode) (pitch id : Nat) (b : Blocks) :
    startMeasurement pitch id k b =
      b.onVerifier fun v => { v with running := some ⟨pitch, id, k, .forward⟩, range := k.range } := by
  unfold startMeasurement
  rw [h]

section

variable (station : Station) (ho : b.chain.slotOf (b.chain.pitchAt b.chain.verifyOffset) = .occupied o)
  (hv : o.verify = .unmeasured) {id : Nat} (hk : b.presentKind o.kind = some (id, k))

include ho hv hk

theorem verifyOpen_missing (hp : (station.presenceA && station.presenceB) = false) : verifyOpen station b =
    giveResult (b.chain.pitchAt b.chain.verifyOffset) ⟨.missing, none, none⟩ b := by
  unfold verifyOpen
  dsimp only
  rw [ho]
  dsimp only
  rw [if_pos hv, hk, hp]
  rfl

theorem verifyOpen_untested (hp : (station.presenceA && station.presenceB) = true) (hm : k.mode = .none) :
    verifyOpen station b = giveResult (b.chain.pitchAt b.chain.verifyOffset) ⟨.pass, none, none⟩ b := by
  unfold verifyOpen
  dsimp only
  rw [ho]
  dsimp only
  rw [if_pos hv, hk]
  dsimp only
  rw [if_pos hp, hm]

theorem verifyOpen_starts (hp : (station.presenceA && station.presenceB) = true) (hm : k.mode ≠ .none) :
    verifyOpen station b = startMeasurement (b.chain.pitchAt b.chain.verifyOffset) id k b := by
  unfold verifyOpen
  dsimp only
  rw [ho]
  dsimp only
  rw [if_pos hv, hk]
  dsimp only
  rw [if_pos hp]
  split
  next h => exact absurd h hm
  next => rfl

end

/-- R90: VERIFY open at a component that is measured, or whose kind is not present. -/
theorem verifyOpen_absent (station : Station) (ho : b.chain.slotOf (b.chain.pitchAt b.chain.verifyOffset) = .occupied o)
    (h : o.verify ≠ .unmeasured ∨ b.presentKind o.kind = none) : verifyOpen station b = b := by
  unfold verifyOpen
  dsimp only
  rw [ho]
  dsimp only
  by_cases hv : o.verify = .unmeasured
  · rw [if_pos hv, h.resolve_left (not_not_intro hv)]
  · rw [if_neg hv]

theorem verifyOpen_empty (station : Station) (ho : b.chain.slotOf (b.chain.pitchAt b.chain.verifyOffset) = .empty) :
    verifyOpen station b =
      if station.presenceA && station.presenceB then findStray (b.chain.pitchAt b.chain.verifyOffset) b else b := by
  unfold verifyOpen
  dsimp only
  rw [ho]

theorem verifyOpen_reserved (station : Station) {n : Nat}
    (ho : b.chain.slotOf (b.chain.pitchAt b.chain.verifyOffset) = .reserved n d) : verifyOpen station b = b := by
  unfold verifyOpen
  dsimp only
  rw [ho]

/-- R91, R92: a trip under a measurement. -/
theorem measureTrip_of_running {m : Measurement} (h : b.verifier.running = some m) {count : Nat}
    (hr : b.verifier.reached m count = count) (reads : b.verifier.reads m.kind count x) :
    measureTrip count b = endPhase m x count b := by
  unfold measureTrip
  rw [h]
  dsimp only
  rw [hr, Verifier.readCount_of_reads reads]

theorem measureTrip_idle (h : b.verifier.running = none) (count : Nat) : measureTrip count b = b := by
  unfold measureTrip
  rw [h]

/-- R92: the limit of a diode phase. -/
theorem phaseLimit_of_running {m : Measurement} (h : b.verifier.running = some m) (hp : m.phase ≠ .single)
    (top : b.verifier.lastMax m.kind < 65535) :
    phaseLimit b = endPhase m .opened (b.verifier.lastMax m.kind + 1) b := by
  unfold phaseLimit
  rw [h]
  exact if_neg (not_or.mpr ⟨hp, by simp [Config.countTop]; omega⟩)

theorem phaseLimit_idle (h : b.verifier.running = none) : phaseLimit b = b := by
  unfold phaseLimit
  rw [h]

theorem reached_single {v : Verifier} {m : Measurement} (h : m.phase = .single) (ticks : Nat) :
    v.reached m ticks = min ticks 65535 := by
  unfold Verifier.reached
  rw [h]

theorem reached_diode {v : Verifier} {m : Measurement} (h : m.phase ≠ .single) (ticks : Nat) :
    v.reached m ticks = min (min ticks (v.lastMax m.kind + 1)) 65535 := by
  unfold Verifier.reached
  cases hp : m.phase with
  | single => exact absurd hp h
  | _ => rfl

theorem endPhase_single {m : Measurement} (h : m.phase = .single) (r : Reading) (count : Nat) (b : Blocks) :
    endPhase m r count b = giveResult m.pitch (singleRecord m.kind r count) (endMeasurement b) := by
  unfold endPhase
  rw [h]

theorem endPhase_forward {m : Measurement} (h : m.phase = .forward) (r : Reading) (count : Nat) (b : Blocks) :
    endPhase m r count b = b.onVerifier fun v => { v with running := some { m with phase := .reverse r count } } := by
  unfold endPhase
  rw [h]

theorem endPhase_reverse {m : Measurement} {fwd : Reading} {n : Nat} (h : m.phase = .reverse fwd n) (r : Reading)
    (count : Nat) (b : Blocks) :
    endPhase m r count b = giveResult m.pitch (diodeRecord m.kind fwd n r count) (endMeasurement b) := by
  unfold endPhase
  rw [h]

/-- R91, R92, R95: VERIFY close of a measurement. -/
theorem verifyClose_of_running {m : Measurement} (h : b.verifier.running = some m) (ticks : Nat) :
    verifyClose ticks b = giveResult m.pitch (match m.phase with
      | .single => singleRecord m.kind .opened (min ticks 65535)
      | .forward => ⟨.opened, none, some (min (min ticks (b.verifier.lastMax m.kind + 1)) 65535)⟩
      | .reverse fwd n => diodeRecord m.kind fwd n .opened (min (min ticks (b.verifier.lastMax m.kind + 1)) 65535))
      (endMeasurement b) := by
  unfold verifyClose
  rw [h]
  dsimp only
  cases hp : m.phase with
  | single => rw [endPhase_single hp, reached_single hp]
  | forward => rw [reached_diode (by simp [hp])]; rfl
  | reverse fwd n => rw [endPhase_reverse hp, reached_diode (by simp [hp])]

theorem verifyClose_idle (h : b.verifier.running = none) (ticks : Nat) : verifyClose ticks b = b := by
  unfold verifyClose
  rw [h]

theorem exec_measureSenseTrip (count : Nat) (s : State) :
    exec (.measureSenseTrip count) s = .next { s with blocks := measureTrip count s.blocks } := rfl

theorem exec_verifyPhaseLimit (s : State) : exec .verifyPhaseLimit s = .next { s with blocks := phaseLimit s.blocks } := rfl

theorem exec_sample_meets (station : Station) {w : Window} {opens : Bool} (h : s.blocks.meets w opens)
    (advance : s.blocks.shaft.advance = true) : exec (.encoderSample true false station) s =
      .next { s with blocks := windowEvent station w opens (s.blocks.counted w opens) } := by
  rw [exec_encoderSample, forwardSample_meets station h fun _ => advance]

/-- Settles O18: each line or window event ends a phase, starts a measurement, or gives a result, whose effect is
`giveResult_settles`. -/
theorem tripsEndPhases : Obligations.TripsEndPhases := by
  unfold Obligations.TripsEndPhases
  intro resultOf single stays slotted given
  have singleIs : ∀ k r count, singleRecord k r count = single k r count := fun k r count => singleRecord_eq k r count
  have give : ∀ (i : Instr) (s : State) (shaft : Shaft) (running : Option Measurement) (pitch : Nat) (o : Component)
      (v : VerifyRecord), (exec i s = .next { s with blocks := giveResult pitch v { s.blocks with
        shaft := shaft, verifier := { s.blocks.verifier with running := running } } }) →
      given i s shaft running pitch o v := by
    intro i s shaft running pitch o v ran
    unfold given
    intro r passed insert reel raised ho hq hp hu
    have codes : raised = s.blocks.raisesCode o r := by
      funext code
      simp only [raised, Blocks.raisesCode]
      cases o.source <;> rfl
    obtain ⟨statistics, settles, freeze, source⟩ := giveResult_settles (b := { s.blocks with
      shaft := shaft, verifier := { s.blocks.verifier with running := running } }) (o := o) (v := v) ho hq hp (by
        rw [strikes_codes]
        intro code h
        obtain ⟨mem, raises⟩ := List.mem_filter.mp h
        refine hu code ?_ ?_
        · simp at mem ⊢; omega
        · rw [codes]; exact raises)
    refine ⟨_, ran, ⟨freeze, settles.lock, settles.record, rfl⟩, settles.shaft, ?_, ?_, fun e he => ?_, source, ?_, ?_, ?_⟩
    · rw [← Component.measured_eq]
      exact settles.chain
    · refine settles.board.trans ?_
      simp only [Blocks.given, Blocks.recorded, StepContext.measured_eq]
      rfl
    · rw [settles.dispensers]
      exact sourceAfter_look _ o r he
    · exact settles.verifier
    · rw [settles.alarm]
      intro code bound other
      refine Alarm.strike_look_of_not_mem (fun h => other ?_) _
      rw [strikes_codes] at h
      have := (List.mem_filter.mp h).1
      simp at this ⊢
      omega
    · intro code context mem
      have known : code ∈ [23, 24, 17] ∧ context = o.contextOf code := by
        simp only [List.mem_cons, List.not_mem_nil, or_false, Prod.mk.injEq] at mem
        rcases mem with ⟨rfl, rfl⟩ | ⟨rfl, rfl⟩ | ⟨rfl, rfl⟩ <;> exact ⟨by decide, rfl⟩
      rw [settles.alarm, codes, known.2]
      exact strikes_look _ o r known.1
  have reversing : ∀ (s : State) (m : Measurement) (r : Reading) (n : Nat), m.phase = .forward →
      { s with blocks := endPhase m r n s.blocks } = { s with blocks := { s.blocks with
        verifier := { s.blocks.verifier with running := some { m with phase := .reverse r n } } } } := by
    intro s m r n forward
    rw [endPhase_forward forward]
    rfl
  refine ⟨fun s => ⟨fun m count running forward => ⟨fun r within bound reads => ?_, fun top => ?_⟩,
      fun idle => ⟨fun count => ?_, ?_⟩⟩,
    fun count m o r s running bound => ⟨fun phase mode reads => ?_,
      fun fwd n reverse => ⟨fun within reads => ?_, fun top => ?_⟩⟩,
    fun station s advance => ⟨fun meets => ⟨fun empty absent => ?_, fun n d reserved => ?_, fun empty present => ?_,
        fun o ho => ⟨fun absent => ?_, fun id k present => ⟨fun presence mode => ?_,
          fun presence mode => ?_, fun noMode => ?_⟩⟩⟩,
      fun meets => ⟨fun idle => ?_, fun m o running phase => ?_⟩⟩⟩
  · have diode : m.phase ≠ .single := by simp [forward]
    rw [exec_measureSenseTrip, measureTrip_of_running running (by rw [reached_diode diode]; omega) reads]
    exact congrArg _ (reversing s m r count forward)
  · rw [exec_verifyPhaseLimit, phaseLimit_of_running running (by simp [forward]) top]
    exact congrArg _ (reversing s m _ _ forward)
  · rw [exec_measureSenseTrip, measureTrip_idle idle]
  · rw [exec_verifyPhaseLimit, phaseLimit_idle idle]
  · refine give _ s s.blocks.shaft none m.pitch o _ ?_
    rw [exec_measureSenseTrip, measureTrip_of_running running (by rw [reached_single phase]; omega) reads,
      endPhase_single phase, singleIs]
    rfl
  · refine give _ s s.blocks.shaft none m.pitch o _ ?_
    rw [exec_measureSenseTrip, measureTrip_of_running running (by rw [reached_diode (by simp [reverse])]; omega) reads,
      endPhase_reverse reverse]
    rfl
  · refine give _ s s.blocks.shaft none m.pitch o _ ?_
    rw [exec_verifyPhaseLimit, phaseLimit_of_running running (by simp [reverse]) top, endPhase_reverse reverse]
    rfl
  · rw [exec_sample_meets station meets advance, windowEvent,
      verifyOpen_empty (b := s.blocks.counted .verify true) station empty, absent]
    rfl
  · rw [exec_sample_meets station meets advance, windowEvent,
      verifyOpen_reserved (b := s.blocks.counted .verify true) station reserved]
  · refine ⟨_, exec_sample_meets station meets advance, ?_⟩
    rw [windowEvent, verifyOpen_empty (b := s.blocks.counted .verify true) station empty, if_pos present]
    have settles := choose_settles ((s.blocks.counted .verify true).setSlot
      (s.blocks.chain.pitchAt s.blocks.chain.verifyOffset) (.occupied ⟨none, none, none, .failed, .divert, some .stray, false⟩))
    exact ⟨settles.chain, ⟨congrArg Planner.freeze (choose_planner _), settles.lock, settles.record, rfl⟩, settles.shaft,
      settles.board, choose_source _, settles.verifier, settles.counters, settles.alarm⟩
  · rw [exec_sample_meets station meets advance, windowEvent,
      verifyOpen_absent (b := s.blocks.counted .verify true) station ho]
    by_cases hv : o.verify = .unmeasured
    · exact .inr ((presentKind_eq_none _ _).mpr fun id k h => absent id k ⟨hv, h⟩)
    · exact .inl hv
  · have tested : k.mode ≠ .none := by rcases mode with h | h | h <;> simp [h]
    rw [exec_sample_meets station meets advance, windowEvent, verifyOpen_starts (b := s.blocks.counted .verify true)
      station ho present.1 ((presentKind_eq_some _ _ id k).mpr present.2) presence tested, startMeasurement_single mode]
    rfl
  · have tested : k.mode ≠ .none := by simp [mode]
    rw [exec_sample_meets station meets advance, windowEvent, verifyOpen_starts (b := s.blocks.counted .verify true)
      station ho present.1 ((presentKind_eq_some _ _ id k).mpr present.2) presence tested, startMeasurement_diode mode]
    rfl
  · refine give _ s _ s.blocks.verifier.running _ o _ ?_
    have kind := (presentKind_eq_some (s.blocks.counted .verify true) _ id k).mpr present.2
    rw [exec_sample_meets station meets advance, windowEvent]
    cases hp : station.presenceA && station.presenceB with
    | false =>
      rw [verifyOpen_missing (b := s.blocks.counted .verify true) station ho present.1 kind hp]
      rfl
    | true =>
      rw [verifyOpen_untested (b := s.blocks.counted .verify true) station ho present.1 kind hp
        (noMode.resolve_left (by simp [hp]))]
      rfl
  · rw [exec_sample_meets station meets advance, windowEvent, verifyClose_idle (b := s.blocks.counted .verify false) idle]
  · refine give _ s _ none m.pitch o _ ?_
    rw [exec_sample_meets station meets advance, windowEvent,
      verifyClose_of_running (b := s.blocks.counted .verify false) running]
    cases hp : m.phase with
    | single => rw [singleIs]; rfl
    | _ => rfl

end Sys2Proof.Machine
end

section
/-! # Presses and reports of a bank reply -/

namespace Sys2Proof.Machine

set_option Elab.async false

variable {a b c y : Blocks} {d e n p pitch : Nat} {x : StepContext}

/-! ## The positions of a reply (R57) -/

/-- A fold whose step acts at one position alone. -/
theorem foldl_range_at {α : Type} {f : α → Nat → α} {k : Nat} (hp : p < k) (others : ∀ a q, q < k → q ≠ p → f a q = a)
    (a : α) : (List.range k).foldl f a = f a p := by
  have skip : ∀ (l : List Nat), (∀ q ∈ l, q < k ∧ q ≠ p) → ∀ a, l.foldl f a = a := by
    intro l hl
    induction l with
    | nil => exact fun _ => rfl
    | cons q l ih =>
      intro a
      obtain ⟨lt, ne⟩ := hl q List.mem_cons_self
      rw [List.foldl_cons, others a q lt ne]
      exact ih (fun r hr => hl r (List.mem_cons_of_mem _ hr)) a
  obtain ⟨before, after, split⟩ := List.append_of_mem (List.mem_range.mpr hp)
  have nodup : (before ++ p :: after).Nodup := split ▸ List.nodup_range
  have within : ∀ q ∈ before ++ p :: after, q < k := fun q hq => List.mem_range.mp (split ▸ hq)
  obtain ⟨-, tail, apart⟩ := List.nodup_append.mp nodup
  rw [split, List.foldl_append, List.foldl_cons,
    skip before fun q hq => ⟨within q (List.mem_append_left _ hq), apart q hq p List.mem_cons_self⟩,
    skip after fun q hq => ⟨within q (List.mem_append_right _ (List.mem_cons_of_mem _ hq)), ?_⟩]
  rintro rfl
  exact (List.nodup_cons.mp tail).1 hq

theorem oneBit_getLsbD : ∀ p < 8, ∀ q < 8, (1#8 <<< p).getLsbD q = decide (q = p) := by decide

theorem takeHome_idle (h : b.source.outstanding = none) (bank frame : Nat) (home : BitVec 8) :
    takeHome bank frame home b = b := by
  unfold takeHome
  rw [h]

section

variable (hp : p < 8) (ho : b.source.outstanding = none) (bank frame : Nat) (home : BitVec 8)
include hp ho

/-- R57: a reply with one press and no report. -/
theorem takeReply_press : takeReply bank frame home (1#8 <<< p) 0 b = reactRise b.alarm (takePress (bank * 8 + p) b) := by
  have others : ∀ (a : Blocks) q, q < 8 → q ≠ p → takePosition bank (1#8 <<< p) 0 a q = a := fun a q hq ne => by
    simp [takePosition, oneBit_getLsbD p hp q hq, ne]
  rw [takeReply, takeHome_idle ho, foldl_range_at hp others]
  simp [takePosition, oneBit_getLsbD p hp p hp]

/-- R57: a reply with one report and no press. -/
theorem takeReply_report :
    takeReply bank frame home 0 (1#8 <<< p) b = reactRise b.alarm (takeEmptySense (bank * 8 + p) b) := by
  have others : ∀ (a : Blocks) q, q < 8 → q ≠ p → takePosition bank 0 (1#8 <<< p) a q = a := fun a q hq ne => by
    simp [takePosition, oneBit_getLsbD p hp q hq, ne]
  rw [takeReply, takeHome_idle ho, foldl_range_at hp others]
  simp [takePosition, oneBit_getLsbD p hp p hp]

end

theorem exec_bankReply (bank frame : Nat) (home loaded empties : BitVec 8) (s : State) :
    exec (.bankReply bank frame home loaded empties) s
      = .next { s with blocks := takeReply bank frame home loaded empties s.blocks } := rfl

/-! ## The reel (R41, R43, R44, R45) -/

/-- R44: a dispenser detached from the chain. -/
def Blocks.detached (b : Blocks) (d : Nat) : Blocks := b.onChain fun c => { c with slots := c.slots.map (detachFrom d) }

/-- R44, R45: the blocks after the refill of a press, before the replan. -/
def Blocks.pressed (b : Blocks) (d : Nat) : Blocks :=
  ((b.onDispenser d fun e => e.refillReported .proving).onAlarm fun a =>
    a.strike (if (look b.source.dispensers d).lowAtOnce then [(26, ⟨none, some d, none⟩)] else [])).detached d

/-- R43, R45: the blocks after an EMPTY SENSE report, before the replan. -/
def Blocks.emptied (b : Blocks) (d : Nat) : Blocks :=
  (b.onDispenser d fun e => { e with reel := .empty, outReported := true }).onAlarm fun a =>
    a.strike (if (look b.source.dispensers d).outReported then [] else [(24, ⟨none, some d, none⟩)])

theorem pressed_of_full_alarm (h : (look b.source.dispensers d).lowAtOnce = false) : (b.pressed d).alarm = b.alarm :=
  congrArg b.alarm.strike (if_neg (ne_true_of_eq_false h))

theorem pressed_of_low_alarm (h : (look b.source.dispensers d).lowAtOnce = true) :
    (b.pressed d).alarm = b.alarm.strike [(26, ⟨none, some d, none⟩)] := congrArg b.alarm.strike (if_pos h)

theorem emptied_of_reported_alarm (h : (look b.source.dispensers d).outReported = true) : (b.emptied d).alarm = b.alarm :=
  congrArg b.alarm.strike (if_pos h)

theorem emptied_of_unreported_alarm (h : (look b.source.dispensers d).outReported = false) :
    (b.emptied d).alarm = b.alarm.strike [(24, ⟨none, some d, none⟩)] :=
  congrArg b.alarm.strike (if_neg (ne_true_of_eq_false h))

theorem emptied_raisedOnly (b : Blocks) (d : Nat) : b.alarm.RaisedOnly (b.emptied d).alarm [24] := by
  cases h : (look b.source.dispensers d).outReported with
  | true => exact emptied_of_reported_alarm h ▸ .refl _ _
  | false => exact emptied_of_unreported_alarm h ▸ Alarm.strike_raisedOnly _ _

theorem pressed_board (b : Blocks) (d : Nat) : (b.pressed d).board = b.board := rfl

theorem pressed_chain_detached (b : Blocks) (d : Nat) : (b.pressed d).chain = (b.detached d).chain := rfl

theorem emptied_board (b : Blocks) (d : Nat) : (b.emptied d).board = b.board := rfl

theorem emptied_chain (b : Blocks) (d : Nat) : (b.emptied d).chain = b.chain := rfl

theorem refill_eq (hq : b.counters.quiet) (hd : d < 96) : (refill d .proving b).detached d = b.pressed d := by
  unfold Blocks.pressed
  congr 1
  by_cases low : (look b.source.dispensers d).lowAtOnce = true
  · rw [refill_of_low hd low, raise_quiet (by exact hq), low]
    rfl
  · rw [refill_of_full hd (by simpa using low), if_neg low]
    rfl

theorem reportOut_eq (hq : b.counters.quiet) (hd : d < 96) :
    reportOut d (b.onDispenser d fun e => { e with reel := .empty }) = b.emptied d := by
  have kept : (look (b.onDispenser d fun e => { e with reel := .empty }).source.dispensers d).outReported
      = (look b.source.dispensers d).outReported := by rw [onDispenser_look hd, if_pos rfl]
  unfold Blocks.emptied
  by_cases reported : (look b.source.dispensers d).outReported = true
  · rw [reportOut_of_reported (kept.trans reported), if_pos reported]
    have entry : adjust b.source.dispensers d (fun e => { e with reel := .empty })
        = adjust b.source.dispensers d fun e => { e with reel := .empty, outReported := true } := by
      simp only [adjust, ← reported]
    simp only [Blocks.onDispenser, Blocks.onSource, entry]
    rfl
  · rw [reportOut_of_unreported (kept.trans (by simpa using reported)), raise_quiet (by exact hq),
      onDispenser_onDispenser, if_neg reported]
    rfl

theorem takePress_absent (h : (look b.source.dispensers d).installed = false) : takePress d b = b := if_neg (by simp [h])

theorem takeEmptySense_absent (h : (look b.source.dispensers d).installed = false) : takeEmptySense d b = b :=
  if_neg (by simp [h])

/-- R51, R70: the replan from a step, if there is one. -/
def replanFrom (held : Option Nat) (b : Blocks) : Blocks :=
  match held with
  | some k => cancelFrom k b
  | none => b

/-- R44: a press, with the step that it replans from. -/
theorem takePress_eq (hq : b.counters.quiet) (hd : d < 96) (h : (look b.source.dispensers d).installed = true) :
    takePress d b =
      let gain := settleGain b.source d (replanFrom (b.reservedOn d) (b.pressed d))
      planIf (gain.2 || (b.reservedOn d).isSome) gain.1 := by
  unfold takePress
  rw [if_pos h, ← refill_eq hq hd]
  rfl

theorem takeEmptySense_eq (hq : b.counters.quiet) (hd : d < 96) (h : (look b.source.dispensers d).installed = true) :
    takeEmptySense d b = let r := settleDispenser b.source d (b.emptied d); planIf r.2 r.1 := by
  unfold takeEmptySense
  rw [if_pos h, reportOut_eq hq hd]
  rfl

theorem reservedOn_of_unplanned (h : ∀ e ∈ b.board.window, e.state ≠ .planned) (d : Nat) : b.reservedOn d = none := by
  have none : b.board.plannedFrom 0 = [] := by
    rw [Board.plannedFrom, List.map_eq_nil_iff, List.filter_eq_nil_iff]
    intro e he
    simp [h e he]
  rw [Blocks.reservedOn, none]
  rfl

theorem planIf_settles {due : Bool} (h : due = false ∨ b.board.nothingToPlan ∨ b.plansNothing) :
    b.Settles (planIf due b) := by
  obtain ⟨cause, e⟩ := planIf_idle h
  exact e ▸ setStopCause_settles cause b

/-- R45, R60: the end of a reply with nothing to plan. -/
theorem reactRise_settles {l : List (Nat × AlarmContext)} (h : y.Settles c) (hs : y.shaft = b.shaft)
    (ha : y.alarm = b.alarm.strike l) (hu : ∀ code ∈ l.map Prod.fst, b.unmovedBy code)
    (hp : l ≠ [] → ∀ e ∈ y.board.window, e.state ≠ .planned) : y.Settles (reactRise b.alarm c) := by
  have react : ∃ cause, reactRise b.alarm c = setStopCause cause c := by
    by_cases none : l = []
    · exact reactRise_of_same (by rw [h.alarm, ha, none]; rfl)
    · refine reactRise_unplanned (h.shaft.trans hs) (codes := l.map Prod.fst) ?_ hu (h.board ▸ hp none)
      rw [h.alarm, ha]
      exact Alarm.strike_raisedOnly _ _
  obtain ⟨cause, e⟩ := react
  exact e ▸ h.trans (setStopCause_settles cause c)

section

variable (hq : b.counters.quiet) (hd : d < 96) (hi : (look b.source.dispensers d).installed = true)
  (hn : b.board.nothingToPlan)
include hq hd hi hn

theorem takePress_settles (hu : (look b.source.dispensers d).lowAtOnce = true → b.unmovedBy 26) :
    (b.pressed d).Settles (reactRise b.alarm (takePress d b)) := by
  refine reactRise_settles (l := if (look b.source.dispensers d).lowAtOnce then [(26, ⟨none, some d, none⟩)] else [])
    ?_ rfl rfl (fun code h => ?_) fun _ => hn.unplanned
  · rw [takePress_eq hq hd hi, reservedOn_of_unplanned hn.unplanned d]
    refine (settleGain_settles _ _ _).trans (planIf_settles (.inr (.inl ?_)))
    rw [settleGain_board]
    exact hn
  · split at h
    · next low => exact List.mem_singleton.mp h ▸ hu low
    · exact absurd h List.not_mem_nil

theorem takeEmptySense_settles (hu : (look b.source.dispensers d).outReported = false → b.unmovedBy 24) :
    (b.emptied d).Settles (reactRise b.alarm (takeEmptySense d b)) := by
  refine reactRise_settles (l := if (look b.source.dispensers d).outReported then [] else [(24, ⟨none, some d, none⟩)])
    ?_ rfl rfl (fun code h => ?_) fun _ => hn.unplanned
  · rw [takeEmptySense_eq hq hd hi, settleDispenser_of_unplanned (b := b.emptied d) hn.unplanned]
    refine (settleGain_settles _ _ _).trans (planIf_settles (.inr (.inl ?_)))
    rw [settleGain_board]
    exact hn
  · split at h
    · exact absurd h List.not_mem_nil
    · next unreported => exact List.mem_singleton.mp h ▸ hu (by simpa using unreported)

end

/-! ## The step to replan from (R44, R51) -/

/-- The lowest PLANNED step with a property. -/
theorem Board.sound.find?_planned {w : Board} (hs : w.sound) (hx : x ∈ w.window) (hp : x.state = .planned) {q : Nat → Bool}
    (holds : q x.number = true)
    (below : ∀ e ∈ w.window, e.number < x.number → e.state = .planned → q e.number = false) :
    (w.plannedFrom 0).find? q = some x.number := by
  obtain ⟨ascending, -⟩ := hs
  have listed : x.number ∈ w.plannedFrom 0 :=
    List.mem_map.mpr ⟨x, List.mem_filter.mpr ⟨hx, by simp [hp]⟩, rfl⟩
  have sorted : (w.plannedFrom 0).Pairwise (· < ·) := ascending.sublist (List.filter_sublist.map _)
  have planned : ∀ m ∈ w.plannedFrom 0, ∃ e ∈ w.window, e.state = .planned ∧ e.number = m := fun m hm => by
    obtain ⟨e, he, rfl⟩ := List.mem_map.mp hm
    obtain ⟨hw, hf⟩ := List.mem_filter.mp he
    exact ⟨e, hw, by simpa using hf, rfl⟩
  obtain ⟨before, after, split⟩ := List.append_of_mem listed
  rw [List.find?_eq_some_iff_append]
  refine ⟨holds, before, after, split, fun m hm => ?_⟩
  rw [split] at sorted planned
  obtain ⟨e, he, state, rfl⟩ := planned m (List.mem_append_left _ hm)
  rw [below e he ((List.pairwise_append.mp sorted).2.2 _ hm _ List.mem_cons_self) state]
  rfl

section

variable (hs : b.board.sound) (hx : x ∈ b.board.window) (hp : x.state = .planned)
  (named : b.chain.namesOnly pitch x.number) (slot : b.chain.slotOf pitch = .reserved x.number d)
  (below : ∀ e ∈ b.board.window, e.number < x.number → e.state = .planned →
    ∀ q f, b.chain.slotOf q = .reserved e.number f → f ≠ d)
include hs hx hp named slot below

theorem reservedOn_eq : b.reservedOn d = some x.number := by
  refine hs.find?_planned hx hp ?_ fun e he lt state => ?_
  · rw [Chain.pitchOfStep_of_namesOnly named]
    simp [slot]
  · split
    · next q hq =>
      have step := Chain.pitchOfStep_eq_some hq
      split
      · next m f hf =>
        rw [hf] at step
        obtain rfl := Option.some.inj step
        exact decide_eq_false (below e he lt state q f hf)
      · rfl
    · rfl

/-- R51: an EMPTY reel holds no reservation. -/
theorem lostStep_eq (he : (look b.source.dispensers d).reel = .empty) : b.lostStep d = some x.number := by
  have unheld : ∀ k, b.source.holdable d k = false := fun k => by simp [Source.holdable, he]
  rw [Blocks.lostStep, List.head?_filter]
  refine hs.find?_planned hx hp ?_ fun e he lt state => ?_
  · rw [Chain.pitchOfStep_of_namesOnly named, show b.context? x.number = some x from hs.context?_of_mem hx]
    dsimp only
    rw [slot]
    cases b.source.kind? x.kind <;> simp [unheld]
  · split
    · next q c hq _ =>
      have step := Chain.pitchOfStep_eq_some hq
      rw [Bool.and_eq_false_iff]
      left
      split
      · next m f hf =>
        rw [hf] at step
        obtain rfl := Option.some.inj step
        exact decide_eq_false (below e he lt state q f hf)
      · rfl
    · rfl

end

/-! ## The replan (R69, R70) -/

/-- R69: a reservation that is cancelled leaves its source's proving-in-flight flag clear. -/
theorem cancelFrom_proving (hs : b.board.sound) (hx : b.board.context? n = some x) (hp : x.state = .planned) {k : Nat}
    (hk : k ≤ n) {m : Nat} (named : b.chain.namesOnly pitch n) (slot : b.chain.slotOf pitch = .reserved m d) :
    (look (cancelFrom k b).source.dispensers d).proving = false := by
  obtain rfl := Board.context?_number hx
  have listed : x ∈ b.board.plannedContexts k :=
    List.mem_filter.mpr ⟨List.mem_of_find?_eq_some hx, by simp [hp, hk]⟩
  have nodup : ((b.board.plannedContexts k).map StepContext.number).Nodup := hs.nodup.sublist (List.filter_sublist.map _)
  obtain ⟨mid, before, after⟩ := foldl_touches_around (g := fun b => b)
    (fun b _ => cancelStep_touches (P := (· = _)) rfl b) nodup listed b
  rw [← cancelFrom_eq] at after
  obtain ⟨same, named'⟩ := before.slot (not_not.mpr rfl) named
  obtain ⟨-, -, clear⟩ := undoReservation_at named' (same.trans slot) ((before.contexts _ (not_not.mpr rfl)).trans hx)
  exact after.proving d clear

/-- The replan from step `k` of the steps of `b` has been made: every PLANNED step from it on that one slot holds is QUEUED
without slot and source, its slot EMPTY and its source's flag clear, and every step below it stays. -/
structure Blocks.Replans (b : Blocks) (k : Nat) (c : Blocks) : Prop where
  stays : ∀ e ∈ b.board.window, e.state ≠ .planned ∨ e.number < k → c.board.context? e.number = some e
  queued : ∀ e ∈ b.board.window, ∀ pitch m f, b.chain.slotOf pitch = .reserved m f → b.chain.namesOnly pitch e.number →
    e.state = .planned → k ≤ e.number → c.chain.slotOf pitch = .empty
      ∧ c.board.context? e.number = some { e with state := .queued, slot := none, source := none, dwell := 0 }
      ∧ (look c.source.dispensers f).proving = false

theorem cancelFrom_replans (hs : b.board.sound) (k : Nat) : b.Replans k (cancelFrom k b) where
  stays e he h := by
    have context := hs.context?_of_mem he
    refine ((cancelFrom_touches k b).contexts _ (hs.not_mem_plannedContexts context fun state => ?_)).trans context
    exact h.elim (absurd state) (by omega)
  queued e he pitch m f slot named state above := by
    have context := hs.context?_of_mem he
    obtain ⟨queued, empty⟩ := cancelFrom_at hs context state above named slot
    exact ⟨empty, queued, cancelFrom_proving hs context state above named slot⟩

theorem Blocks.Replans.trans {k : Nat} (h : b.Replans k y) (settles : y.Settles c) : b.Replans k c where
  stays e he hk := by
    rw [settles.board]
    exact h.stays e he hk
  queued e he pitch m f slot named state above := by
    rw [settles.board, settles.chain, settles.dispensers]
    exact h.queued e he pitch m f slot named state above

/-- A detachment leaves the reservations and what the slots name. -/
theorem detached_slotOf (b : Blocks) (d pitch : Nat) :
    (b.detached d).chain.slotOf pitch = detachFrom d (b.chain.slotOf pitch) := by
  simp only [Blocks.detached, Chain.slotOf, Blocks.onChain, List.getElem?_map]
  cases b.chain.slots[pitch]? <;> rfl

theorem detachFrom_step? (d : Nat) (t : Slot) : (detachFrom d t).step? = t.step? := by
  unfold detachFrom
  split
  · split
    · rfl
    · split <;> rfl
  · rfl

theorem detached_namesOnly (h : b.chain.namesOnly pitch n) (d : Nat) : (b.detached d).chain.namesOnly pitch n := by
  obtain ⟨named, only⟩ := h
  refine ⟨by rw [detached_slotOf, detachFrom_step?, named], fun q hq hn => only q ?_ ?_⟩
  · simpa [Blocks.detached, Blocks.onChain] using hq
  · rwa [detached_slotOf, detachFrom_step?] at hn

/-- The replan is that of blocks with the same steps and the same reservations. -/
theorem Blocks.Replans.of_same {k : Nat} (h : y.Replans k c) (hb : y.board = b.board) (hc : y.chain = b.chain) :
    b.Replans k c where
  stays e he hk := h.stays e (hb ▸ he) hk
  queued e he pitch m f slot named := h.queued e (hb ▸ he) pitch m f (hc ▸ slot) (hc ▸ named)

theorem Blocks.Replans.of_detached {k : Nat} (h : y.Replans k c) (hb : y.board = b.board)
    (hc : y.chain = (b.detached d).chain) : b.Replans k c where
  stays e he hk := h.stays e (hb ▸ he) hk
  queued e he pitch m f slot named :=
    h.queued e (hb ▸ he) pitch m f (by rw [hc, detached_slotOf, slot]; rfl) (hc ▸ detached_namesOnly named d)

theorem plansNothing_of_same (hs : c.shaft = b.shaft) (hp : c.planner = b.planner) (ha : b.alarm.demand ≤ c.alarm.demand)
    (h : b.plansNothing) : c.plansNothing := by
  unfold Blocks.plansNothing at h ⊢
  rw [hs, hp]
  exact h.imp_left fun low => low.trans ha

section

variable (hq : b.counters.quiet) (hd : d < 96) (hi : (look b.source.dispensers d).installed = true)
  (hs : b.board.sound) (blocked : b.plansNothing) (hx : x ∈ b.board.window) (hp : x.state = .planned)
  (named : b.chain.namesOnly pitch x.number) (slot : b.chain.slotOf pitch = .reserved x.number d)
  (below : ∀ e ∈ b.board.window, e.number < x.number → e.state = .planned →
    ∀ q f, b.chain.slotOf q = .reserved e.number f → f ≠ d)
include hq hd hi hs blocked hx hp named slot below

/-- R44, R70: a press while planning is blocked. -/
theorem takePress_replans (full : (look b.source.dispensers d).lowAtOnce = false) :
    (cancelFrom x.number (b.pressed d)).Settles (reactRise b.alarm (takePress d b)) := by
  have alarm : (cancelFrom x.number (b.pressed d)).alarm = b.alarm := by
    rw [cancelFrom_alarm, pressed_of_full_alarm full]
  refine reactRise_settles (l := []) ?_ (cancelFrom_shaft (b := b.pressed d) _) alarm nofun (absurd rfl)
  rw [takePress_eq hq hd hi, reservedOn_eq hs hx hp named slot below]
  refine (settleGain_settles _ _ _).trans (planIf_settles (.inr (.inr ?_)))
  refine plansNothing_of_same ?_ ?_ ?_ blocked
  · exact (settleGain_shaft _ _ _).trans (cancelFrom_shaft (b := b.pressed d) _)
  · exact (settleGain_planner _ _ _).trans (cancelFrom_planner (b := b.pressed d) _)
  · exact le_of_eq (congrArg Alarm.demand ((settleGain_alarm _ _ _).trans alarm)).symm

/-- R43, R51, R70: a report while planning is blocked, REEL OUT being of class NOTE. -/
theorem takeEmptySense_replans (note : (look b.alarm.codes 24).cls = .note) :
    (cancelFrom x.number (b.emptied d)).Settles (reactRise b.alarm (takeEmptySense d b)) := by
  have lost : (b.emptied d).lostStep d = some x.number := by
    refine lostStep_eq (b := b.emptied d) hs hx hp named slot below ?_
    exact congrArg Dispenser.reel ((onDispenser_look hd _ d).trans (if_pos rfl))
  have demand : b.alarm.demand ≤ (b.emptied d).alarm.demand := by
    cases h : (look b.source.dispensers d).outReported with
    | true => rw [emptied_of_reported_alarm h]
    | false =>
      rw [emptied_of_unreported_alarm h]
      exact Alarm.demand_le_occur _ _ _
  have settles : (cancelFrom x.number (b.emptied d)).Settles (takeEmptySense d b) := by
    rw [takeEmptySense_eq hq hd hi]
    simp only [settleDispenser, lost]
    refine (settleGain_settles _ _ _).trans (planIf_settles (.inr (.inr (plansNothing_of_same ?_ ?_ ?_ blocked))))
    · exact (settleGain_shaft _ _ _).trans (cancelFrom_shaft (b := b.emptied d) _)
    · exact (settleGain_planner _ _ _).trans (cancelFrom_planner (b := b.emptied d) _)
    · rw [settleGain_alarm, cancelFrom_alarm]
      exact demand
  rw [reactRise_note (codes := [24])]
  · exact settles
  · exact settles.shaft.trans (cancelFrom_shaft (b := b.emptied d) _)
  · rw [settles.alarm, cancelFrom_alarm]
    exact emptied_raisedOnly b d
  · simpa using note

end

/-- R44, R47: the entry of the pressed dispenser after the replan. -/
theorem pressed_look_cancelFrom (hd : d < 96) (k : Nat) :
    look (cancelFrom k (b.pressed d)).source.dispensers d = (look b.source.dispensers d).refillReported .proving := by
  have entry : look (b.pressed d).source.dispensers d = (look b.source.dispensers d).refillReported .proving :=
    (onDispenser_look hd _ d).trans (if_pos rfl)
  obtain ⟨flag, after, -⟩ := (cancelFrom_keepsReels k (b.pressed d)).entry d
  have clear := (cancelFrom_touches k (b.pressed d)).proving d (by rw [entry]; rfl)
  rw [after, entry] at clear ⊢
  obtain rfl : flag = false := clear
  rfl

theorem refillReported_eq (e : Dispenser) (condition : Condition) : e.refillReported condition = { e with
    count := e.capacity, reel := if e.lowAtOnce then .low else .loaded, condition := condition, jammed := false
    missing := 0, badPart := 0, proving := false, lowReported := e.lowAtOnce, outReported := false } := by
  simp only [Dispenser.refillReported, Dispenser.refilled, Dispenser.lowAtOnce, Bool.and_eq_true, decide_eq_true_eq]

theorem strike_one_occurred (a : Alarm) {code : Nat} (hc : code < 32) (context : AlarmContext) :
    look (a.strike [(code, context)]).codes code = (look a.codes code).struck context
      ∧ (a.strike [(code, context)]).elsewhere a [code] :=
  ⟨Alarm.occur_struck hc context a, (Alarm.strike_raisedOnly a [(code, context)]).elsewhere⟩

theorem pressed_chain (b : Blocks) (d : Nat) : (b.pressed d).chain = { b.chain with
    slots := b.chain.slots.map fun slot => match slot with
      | .occupied o =>
        if o.source = some d ∧ o.verify = .unmeasured then .occupied { o with source := none }
        else if o.source = some d then .occupied { o with unjudged := false }
        else .occupied o
      | .reserved n e => .reserved n e
      | .empty => .empty } := by
  refine congrArg (fun f => { b.chain with slots := b.chain.slots.map f }) (funext fun slot => ?_)
  cases slot <;> rfl

/-- Settles O32: what a press and a report do to the entry, to the chain and to the alarms, and the replan they bring. -/
theorem loadedPressRefills : Obligations.LoadedPressRefills := by
  unfold Obligations.LoadedPressRefills
  intro bank frame p home s hb hp ho press report d reel was full entry stays refilled names replanned holds lowest
  have hd : d < 96 := by simp only [d]; omega
  have pressed : exec press s = .next { s with blocks := reactRise s.blocks.alarm (takePress d s.blocks) } := by
    rw [exec_bankReply, takeReply_press hp ho]
  have reported : exec report s = .next { s with blocks := reactRise s.blocks.alarm (takeEmptySense d s.blocks) } := by
    rw [exec_bankReply, takeReply_report hp ho]
  clear_value d press report
  have refilledIs : was.refillReported .proving = refilled := refillReported_eq was .proving
  refine ⟨fun absent => ?_, fun hi hn hq => ⟨fun hu => ?_, fun hu => ?_⟩, fun c hi hq lowest => ?_⟩
  · rw [pressed, reported, takePress_absent absent, takeEmptySense_absent absent, reactRise_same]
    exact ⟨rfl, rfl⟩
  · have settles := takePress_settles hq hd hi hn hu
    refine ⟨_, pressed, ⟨settles.board, settles.shaft, rfl, fun e ne => ?_⟩, ?_, ?_, fun low => ?_, fun low => ?_⟩
    · rw [settles.dispensers]
      exact (onDispenser_look hd _ e).trans (if_neg ne)
    · rw [settles.dispensers, ← refilledIs]
      exact (onDispenser_look hd _ d).trans (if_pos rfl)
    · rw [settles.chain]
      exact pressed_chain s.blocks d
    · rw [settles.alarm, pressed_of_full_alarm low]
    · unfold entry
      rw [settles.alarm, pressed_of_low_alarm low]
      exact strike_one_occurred _ (code := 26) (by decide) _
  · have settles := takeEmptySense_settles hq hd hi hn hu
    refine ⟨_, reported, ⟨settles.board, settles.shaft, rfl, fun e ne => ?_⟩, ?_, settles.chain, fun told => ?_,
      fun told => ?_⟩
    · rw [settles.dispensers]
      exact (onDispenser_look hd _ e).trans (if_neg ne)
    · rw [settles.dispensers]
      exact (onDispenser_look hd _ d).trans (if_pos rfl)
    · rw [settles.alarm, emptied_of_reported_alarm told]
    · unfold entry
      rw [settles.alarm, emptied_of_unreported_alarm told]
      exact strike_one_occurred _ (code := 24) (by decide) _
  · obtain ⟨⟨hx, state, pitch, -, slot, named⟩, sound, blocked, below⟩ := lowest
    have made : ∀ b, s.blocks.Replans c.number b → replanned { s with blocks := b } c := fun b h e he =>
      ⟨h.stays e he, fun pitch m f slot named state above => h.queued e he pitch m f slot named state above⟩
    refine ⟨fun low => ?_, fun note => ?_⟩
    · have settles := takePress_replans hq hd hi sound blocked hx state named slot below low
      have replans := (cancelFrom_replans (b := s.blocks.pressed d) sound c.number).trans settles
      refine ⟨_, pressed, ?_, made _ (replans.of_detached (pressed_board _ d) (pressed_chain_detached _ d)), ?_, ?_, rfl⟩
      · rw [settles.dispensers, ← refilledIs]
        exact pressed_look_cancelFrom hd _
      · exact settles.shaft.trans (cancelFrom_shaft (b := s.blocks.pressed d) _)
      · rw [settles.alarm, cancelFrom_alarm, pressed_of_full_alarm low]
    · have settles := takeEmptySense_replans hq hd hi sound blocked hx state named slot below note
      have replans := (cancelFrom_replans (b := s.blocks.emptied d) sound c.number).trans settles
      have emptied : look (s.blocks.emptied d).source.dispensers d = { was with reel := .empty, outReported := true } :=
        (onDispenser_look hd _ d).trans (if_pos rfl)
      obtain ⟨flag, after, -⟩ := (cancelFrom_keepsReels c.number (s.blocks.emptied d)).entry d
      rw [emptied] at after
      refine ⟨_, reported, ?_, ?_, made _ (replans.of_same (emptied_board _ d) (emptied_chain _ d)), ?_, ?_, rfl⟩
      · rw [settles.dispensers, after]
      · rw [settles.dispensers, after]
      · exact settles.shaft.trans (cancelFrom_shaft (b := s.blocks.emptied d) _)
      · rw [settles.alarm, cancelFrom_alarm]
        exact (emptied_raisedOnly _ d).elsewhere

end Sys2Proof.Machine
end

section
/-! # The choice of a source -/

namespace Sys2Proof.Machine

set_option Elab.async false

variable {b : Blocks} {k : Kind} {d j n u : Nat} {p : Nat × Nat} {l : List (Nat × Nat)}

/-! ## Candidates (R50) -/

theorem Source.mem_candidates (s : Source) (k : Kind) : p ∈ s.candidates k ↔
    k.sources[p.1]? = some p.2 ∧ (k.pin = none ∨ k.pin = some p.1) ∧ s.available p.2 k = true := by
  obtain ⟨i, d⟩ := p
  unfold Source.candidates
  rw [List.mem_filter]
  cases hp : k.pin with
  | none =>
    have named : (i, d) ∈ k.sources.zipIdx.map (fun p : Nat × Nat => (p.2, p.1)) ↔ k.sources[i]? = some d := by
      simp [List.mem_zipIdx_iff_getElem?]
    simp [named]
  | some q =>
    have named : (i, d) ∈ (k.sources[q]?).toList.map (fun d => (q, d)) ↔ k.sources[i]? = some d ∧ q = i := by
      simp only [List.mem_map, Option.mem_toList, Prod.mk.injEq]
      constructor
      · rintro ⟨e, he, rfl, rfl⟩
        exact ⟨he, rfl⟩
      · rintro ⟨he, rfl⟩
        exact ⟨d, he, rfl, rfl⟩
    simp [named, and_assoc]

theorem Source.candidates_ascending (s : Source) (k : Kind) : (s.candidates k).Pairwise (·.1 < ·.1) := by
  refine List.Pairwise.filter _ ?_
  cases k.pin with
  | none =>
    have indices : (k.sources.zipIdx.map Prod.snd).Pairwise (· < ·) := by
      rw [List.zipIdx_map_snd]
      exact List.pairwise_lt_range'
    exact List.pairwise_map.mpr (List.pairwise_map.mp indices)
  | some q => cases h : k.sources[q]? <;> simp [h]

/-! ## Offsets (R62, R63) -/

theorem Chain.frontierPlus_le (c : Chain) (j : Nat) :
    c.frontierPlus ≤ j ↔ ∀ i, i < c.length ∧ c.slotAt i ≠ .empty → i < j := by
  have used : ∀ t : Slot, t.used = true ↔ t ≠ .empty := fun t => by cases t <;> simp [Slot.used]
  constructor
  · rintro h i ⟨hi, ne⟩
    exact lt_of_lt_of_le (le_foldl_frontier c c.length i hi ((used _).mpr ne)) h
  · intro h
    have bounded : ∀ m, m ≤ c.length →
        (List.range m).foldl (fun m j => if (c.slotAt j).used then j + 1 else m) 0 ≤ j := by
      intro m hm
      induction m with
      | zero => exact Nat.zero_le _
      | succ m ih =>
        rw [List.range_succ, List.foldl_append, List.foldl_cons, List.foldl_nil]
        split
        · next hu => exact h m ⟨hm, (used _).mp hu⟩
        · exact ih (by omega)
    exact bounded c.length le_rfl

/-- R62, R63: a candidate can be reserved at an offset. -/
def Blocks.canFit (b : Blocks) (d j : Nat) : Prop :=
  j < b.chain.length ∧ b.baseOffset d ≤ j ∧ b.clashes d j = false

theorem Blocks.baseOffset_le (b : Blocks) (d j : Nat) : b.baseOffset d ≤ j ↔
    (look b.source.dispensers d).offset < j ∧ ∀ i, i < b.chain.length ∧ b.chain.slotAt i ≠ .empty → i < j := by
  rw [Blocks.baseOffset, Nat.max_le, Chain.frontierPlus_le, Nat.succ_le_iff, and_comm]

theorem Blocks.clashes_iff (b : Blocks) (d j : Nat) : b.clashes d j = true ↔
    ∃ i n e, i < b.chain.length ∧ b.chain.slotAt i = .reserved n e ∧ e / 8 = d / 8
      ∧ i + (look b.source.dispensers d).offset = j + (look b.source.dispensers e).offset := by
  unfold Blocks.clashes
  rw [List.any_eq_true]
  constructor
  · rintro ⟨i, hi, h⟩
    split at h
    · next n e slot =>
      obtain ⟨bank, wait⟩ := Bool.and_eq_true_iff.mp h
      exact ⟨i, n, e, List.mem_range.mp hi, slot, of_decide_eq_true bank, of_decide_eq_true wait⟩
    · cases h
  · rintro ⟨i, n, e, hi, slot, bank, wait⟩
    refine ⟨i, List.mem_range.mpr hi, ?_⟩
    rw [slot]
    exact Bool.and_eq_true_iff.mpr ⟨decide_eq_true bank, decide_eq_true wait⟩

theorem Blocks.offsetFor_eq_some_iff (b : Blocks) (d j : Nat) :
    b.offsetFor d = some j ↔ b.canFit d j ∧ ∀ h, h < j → ¬ b.canFit d h := by
  rw [Blocks.offsetFor, List.find?_range_eq_some]
  simp only [List.mem_range, Bool.and_eq_true, decide_eq_true_eq, Bool.not_eq_true', Blocks.canFit]
  constructor
  · rintro ⟨⟨base, free⟩, lt, least⟩
    refine ⟨⟨lt, base, free⟩, fun h hh ⟨_, base', free'⟩ => ?_⟩
    simpa [base', free'] using least h hh
  · rintro ⟨⟨lt, base, free⟩, least⟩
    refine ⟨⟨base, free⟩, lt, fun h hh => ?_⟩
    have := least h hh
    simp only [not_and, Bool.not_eq_false] at this
    by_cases base' : b.baseOffset d ≤ h
    · simp [base', this (by omega) base']
    · simp [base']

/-! ## The choice (R64, R65) -/

/-- R65: the place of a source index among tied candidates. -/
def Selection.rank (mode : Selection) (u i : Nat) : Nat :=
  match mode with
  | .fill => i
  | .spread => spreadRank u i

/-- The best of two tied candidates, the first one at a tie of the rank. -/
def takeBetter (rank : Nat → Nat) (best : Option (Nat × Nat)) (c : Nat × Nat) : Option (Nat × Nat) :=
  match best with
  | none => some c
  | some d => if rank c.1 < rank d.1 then some c else best

theorem breakTie_eq (mode : Selection) (u : Nat) (l : List (Nat × Nat)) :
    breakTie mode u l = l.foldl (takeBetter (mode.rank u)) none := by
  cases mode <;> rfl

/-- The first of the best is taken. -/
theorem foldl_takeBetter {rank : Nat → Nat} (sorted : l.Pairwise (·.1 < ·.1)) (hp : p ∈ l)
    (best : ∀ q ∈ l, rank p.1 < rank q.1 ∨ (rank p.1 = rank q.1 ∧ p.1 ≤ q.1)) :
    l.foldl (takeBetter rank) none = some p := by
  obtain ⟨before, after, rfl⟩ := List.append_of_mem hp
  obtain ⟨-, -, apart⟩ := List.pairwise_append.mp sorted
  have worse : ∀ (l : List (Nat × Nat)) (was : Option (Nat × Nat)), (∀ q ∈ l, rank p.1 < rank q.1) →
      (∀ q, was = some q → rank p.1 < rank q.1) →
      ∀ q, l.foldl (takeBetter rank) was = some q → rank p.1 < rank q.1 := by
    intro l
    induction l with
    | nil => exact fun was _ h => h
    | cons x l ih =>
      intro was hl hw
      refine ih _ (fun q hq => hl q (List.mem_cons_of_mem _ hq)) fun q hq => ?_
      have hx := hl x List.mem_cons_self
      unfold takeBetter at hq
      split at hq
      · exact Option.some.inj hq ▸ hx
      · split at hq
        · exact Option.some.inj hq ▸ hx
        · exact hw q hq
  have stays : ∀ (l : List (Nat × Nat)), (∀ q ∈ l, ¬ rank q.1 < rank p.1) →
      l.foldl (takeBetter rank) (some p) = some p := by
    intro l hl
    induction l with
    | nil => rfl
    | cons x l ih =>
      rw [List.foldl_cons, takeBetter, if_neg (hl x List.mem_cons_self)]
      exact ih fun q hq => hl q (List.mem_cons_of_mem _ hq)
  have first := worse before none (fun q hq => ?_) nofun
  · rw [List.foldl_append, List.foldl_cons]
    have taken : takeBetter rank (before.foldl (takeBetter rank) none) p = some p := by
      cases h : before.foldl (takeBetter rank) none with
      | none => rfl
      | some q => exact if_pos (first q h)
    rw [taken]
    refine stays after fun q hq => ?_
    have := best q (List.mem_append_right _ (List.mem_cons_of_mem _ hq))
    omega
  · have := best q (List.mem_append_left _ hq)
    have := apart q hq p List.mem_cons_self
    omega

theorem Blocks.choice_eq_none (h : ∀ p ∈ b.source.candidates k, b.offsetFor p.2 = none) : b.choice k u = none := by
  have none : (b.source.candidates k).filterMap (fun c => (b.offsetFor c.2).map fun j => (c, j)) = [] := by
    rw [List.filterMap_eq_nil_iff]
    intro p hp
    rw [h p hp]
    rfl
  unfold Blocks.choice
  rw [none]
  rfl

/-- R64, R65: the feasible candidate with the smallest offset, and of the tied ones the first by the selection mode. -/
theorem Blocks.choice_eq (hp : p ∈ b.source.candidates k) (hj : b.offsetFor p.2 = some j)
    (best : ∀ q ∈ b.source.candidates k, ∀ i, b.offsetFor q.2 = some i → j < i ∨ (j = i ∧
      (k.selection.rank u p.1 < k.selection.rank u q.1 ∨ (k.selection.rank u p.1 = k.selection.rank u q.1 ∧ p.1 ≤ q.1)))) :
    b.choice k u = some (p.1, p.2, j) := by
  have mem : ∀ f : (Nat × Nat) × Nat,
      f ∈ (b.source.candidates k).filterMap (fun c => (b.offsetFor c.2).map fun j => (c, j))
        ↔ f.1 ∈ b.source.candidates k ∧ b.offsetFor f.1.2 = some f.2 := by
    rintro ⟨c, i⟩
    simp only [List.mem_filterMap, Option.map_eq_some_iff, Prod.mk.injEq]
    constructor
    · rintro ⟨c', hc, i', hi, rfl, rfl⟩
      exact ⟨hc, hi⟩
    · rintro ⟨hc, hi⟩
      exact ⟨c, hc, i, hi, rfl, rfl⟩
  have least : (((b.source.candidates k).filterMap fun c => (b.offsetFor c.2).map fun j => (c, j)).map Prod.snd).min?
      = some j := by
    rw [List.min?_eq_some_iff]
    refine ⟨List.mem_map.mpr ⟨(p, j), (mem _).mpr ⟨hp, hj⟩, rfl⟩, fun i hi => ?_⟩
    obtain ⟨f, hf, rfl⟩ := List.mem_map.mp hi
    obtain ⟨hc, hi⟩ := (mem f).mp hf
    have := best f.1 hc f.2 hi
    omega
  unfold Blocks.choice
  dsimp only
  rw [least]
  dsimp only
  rw [breakTie_eq, foldl_takeBetter (p := p), Option.map_some]
  · refine (List.Pairwise.filter _ ?_).map _ fun _ _ h => h
    refine (b.source.candidates_ascending k).filterMap _ fun c c' lt f hf f' hf' => ?_
    obtain ⟨-, -, rfl⟩ := Option.map_eq_some_iff.mp hf
    obtain ⟨-, -, rfl⟩ := Option.map_eq_some_iff.mp hf'
    exact lt
  · exact List.mem_map.mpr ⟨(p, j), List.mem_filter.mpr ⟨(mem _).mpr ⟨hp, hj⟩, decide_eq_true rfl⟩, rfl⟩
  · intro q hq
    obtain ⟨f, hf, rfl⟩ := List.mem_map.mp hq
    obtain ⟨hf, same⟩ := List.mem_filter.mp hf
    obtain ⟨hc, hi⟩ := (mem f).mp hf
    have := best f.1 hc f.2 hi
    have := of_decide_eq_true same
    omega

end Sys2Proof.Machine
end

section
/-! # STEP, planned at once -/

namespace Sys2Proof.Machine

set_option Elab.async false

variable {b : Blocks} {n kind index d j : Nat} {k : Kind} {x : StepContext}

/-! ## One reservation (R66) -/

/-- R66: the blocks after a reservation, before the selection. -/
def Blocks.reservedAt (b : Blocks) (n kind index d j : Nat) : Blocks :=
  let pitch := b.chain.pitchAt j
  { b.onStep n fun c => { c with state := .planned, source := some d, slot := some pitch } with
    chain := { b.chain with slots := b.chain.slots.set pitch (.reserved n d) }
    source := { b.source with
      kinds := adjust b.source.kinds kind fun k => { k with lastUsed := index }
      dispensers := if (look b.source.dispensers d).condition = .proving then
        adjust b.source.dispensers d fun e => { e with proving := true } else b.source.dispensers } }

theorem reserve_of_stopped (h : b.shaft.machine = .stopped) :
    reserve n kind index d j b = choose (b.reservedAt n kind index d j) := by
  have settled : ∀ c : Blocks, c.shaft = b.shaft → settleWaiting (choose c) = choose c := fun c hc =>
    if_neg (by rw [choose_shaft, hc, h]; decide)
  unfold reserve Blocks.reservedAt
  dsimp only
  rw [settled _ (by split <;> rfl)]
  by_cases hc : (look b.source.dispensers d).condition = .proving
  · rw [if_pos hc]
    exact congrArg choose (if_pos hc)
  · rw [if_neg hc]
    exact congrArg choose (if_neg hc)

/-! ## A pass over one step (R61, R67) -/

section

variable (hx : b.board.context? n = some x) (hk : b.source.kind? x.kind = some k)
include hx hk

theorem planPass_of_choice (hm : b.shaft.machine = .stopped)
    (choice : b.choice k (look b.source.kinds x.kind).lastUsed = some (index, d, j)) (found : b.source.candidates k ≠ []) :
    planPass [n] b = setStopCause .empty (choose (b.reservedAt n x.kind index d j)) := by
  unfold planPass
  rw [show b.context? n = some x from hx]
  dsimp only
  rw [hk]
  dsimp only
  rw [if_neg (by simpa using found), choice]
  dsimp only
  rw [planPass, reserve_of_stopped hm]

theorem planPass_of_infeasible (choice : b.choice k (look b.source.kinds x.kind).lastUsed = none)
    (found : b.source.candidates k ≠ []) : planPass [n] b = setStopCause .horizon b := by
  unfold planPass
  rw [show b.context? n = some x from hx]
  dsimp only
  rw [hk]
  dsimp only
  rw [if_neg (by simpa using found), choice]

theorem planPass_of_sourceless (absent : b.source.candidates k = []) : planPass [n] b = stopNoSource n x.kind b := by
  unfold planPass
  rw [show b.context? n = some x from hx]
  dsimp only
  rw [hk]
  dsimp only
  rw [if_pos (by simp [absent])]

end

/-- R45, R61: NO SOURCE of class NOTE. -/
theorem stopNoSource_eq (hq : b.counters.quiet) (note : (look b.alarm.codes 25).cls = .note) :
    stopNoSource n kind b = { setStopCause .noSource b with
      source := { b.source with kinds := adjust b.source.kinds kind fun k => { k with noSource := true } }
      alarm := b.alarm.strike (if (look b.source.kinds kind).noSource then [] else [(25, ⟨some n, none, some kind⟩)]) } := by
  unfold stopNoSource
  dsimp only
  split
  · next told =>
    have told' : (look b.source.kinds kind).noSource = true := told
    rw [if_pos told', adjust_of_same (by rw [← told'])]
    rfl
  · next untold =>
    have untold' : ¬ (look b.source.kinds kind).noSource = true := untold
    rw [occur_note (b := (setStopCause .noSource b).onSource _) hq note, if_neg untold']
    rfl

/-! ## The effects of a pass over one step -/

section

variable (hm : b.shaft.machine = .stopped) (hq : b.counters.quiet) (note : (look b.alarm.codes 25).cls = .note)
  (hx : b.board.context? n = some x) (hk : b.source.kind? x.kind = some k)
include hm hq note hx hk

/-- On a STOPPED machine the pass leaves the shaft and every other step. -/
theorem planPass_one_leaves : (planPass [n] b).shaft = b.shaft
    ∧ ∀ m, m ≠ n → (planPass [n] b).board.context? m = b.board.context? m := by
  by_cases absent : b.source.candidates k = []
  · rw [planPass_of_sourceless hx hk absent, stopNoSource_eq hq note]
    exact ⟨rfl, fun _ _ => rfl⟩
  · cases choice : b.choice k (look b.source.kinds x.kind).lastUsed with
    | none =>
      rw [planPass_of_infeasible hx hk choice absent]
      exact ⟨rfl, fun _ _ => rfl⟩
    | some c =>
      obtain ⟨index, d, j⟩ := c
      rw [planPass_of_choice hx hk hm choice absent]
      refine ⟨choose_shaft _, fun m ne => ?_⟩
      exact (congrArg (Board.context? · m) (choose_board _)).trans (onStep_context?_of_ne (f := fun c =>
        { c with state := .planned, source := some d, slot := some (b.chain.pitchAt j) }) (fun _ => rfl) ne)

end

theorem reservedAt_dispensers (b : Blocks) (n kind index d j : Nat) {e : Nat} (he : e < 96) :
    look (b.reservedAt n kind index d j).source.dispensers e =
      if e = d ∧ (look b.source.dispensers d).condition = .proving then
        { look b.source.dispensers e with proving := true } else look b.source.dispensers e := by
  simp only [Blocks.reservedAt]
  by_cases hc : (look b.source.dispensers d).condition = .proving
  · by_cases hd : e = d
    · subst hd
      rw [if_pos hc, if_pos ⟨rfl, hc⟩, look_adjust _ _ he, if_pos rfl]
    · rw [if_pos hc, if_neg (fun h => hd h.1)]
      exact look_put_of_ne _ _ (Ne.symm hd)
  · rw [if_neg hc, if_neg (fun h => hc h.2)]

/-! ## The record accepted and planned -/

section

variable {f : StepFields} {s : State} {rest : List Record}

theorem aimed_context? (fresh : ∀ x ∈ b.board.window, x.number ≠ f.number) :
    (f.aimed b).board.context? f.number = some { f.context with target := some (f.target b) } :=
  context?_of_tail (c := { f.context with target := some (f.target b) }) rfl fresh

theorem aimed_context?_of_ne {m : Nat} (ne : m ≠ f.number) : (f.aimed b).board.context? m = b.board.context? m := by
  have other : (fun c : StepContext => decide (c.number = m)) { f.context with target := some (f.target b) } = false :=
    decide_eq_false (Ne.symm ne)
  simp only [Board.context?, StepFields.aimed, Blocks.onBoard_board, List.find?_append, List.find?_cons, other,
    List.find?_nil, Option.or_none]

theorem aimed_queue (idle : ∀ c ∈ b.board.window, c.state ≠ .queued) : (f.aimed b).board.queue = [f.number] := by
  have none : b.board.window.filter (fun c => decide (c.state = .queued)) = [] := by
    rw [List.filter_eq_nil_iff]
    exact fun c hc => by simpa using idle c hc
  simp only [Board.queue, StepFields.aimed, Blocks.onBoard_board, List.filter_append, none, List.nil_append]
  rfl

/-- R60: a planning event that is not blocked makes a pass. -/
theorem planningEvent_of_free (h : b.blockedBy = none) : planningEvent b = planPass b.board.queue b := by
  unfold planningEvent
  rw [h]

theorem aimed_free (hm : b.shaft.machine = .stopped) (hd : b.alarm.demand < 2) (hz : b.planner.freeze = false) :
    (f.aimed b).blockedBy = none := by
  unfold Blocks.blockedBy StepFields.aimed
  simp only [Blocks.onBoard_alarm, Blocks.onBoard_shaft, Blocks.onBoard_planner, hm, hz]
  rw [if_neg (not_le.mpr hd)]
  rfl

/-- R25, R59, R67: a STEP of a good image on a STOPPED machine brings a pass over it alone. -/
theorem exec_step_planned (hf : f.Fits) (h : s.offers ⟨0x02#8, stepPayload f⟩ rest)
    (hw : s.blocks.board.window.length < 256) (hp : s.blocks.board.phase = .opened)
    (hn : f.number = s.blocks.board.expectedStep) (hc : ∀ n, s.blocks.board.expectedCount = some n → f.number < n)
    (pass : f.Passes s.blocks) (fresh : ∀ x ∈ s.blocks.board.window, x.number ≠ f.number)
    (good : s.blocks.board.imageGood f.image = true) (inside : s.blocks.positioner.config.inField (f.target s.blocks) = true)
    (hm : s.blocks.shaft.machine = .stopped) (hd : s.blocks.alarm.demand < 2) (hz : s.blocks.planner.freeze = false)
    (idle : ∀ c ∈ s.blocks.board.window, c.state ≠ .queued) :
    exec .step s = .next (s.taken rest (planPass [f.number] (f.aimed s.blocks))) := by
  rw [exec_step_of_passes hf h hw hp hn hc pass, settleAccepted_of_good fresh good, if_pos inside,
    planningEvent_of_free (aimed_free hm hd hz), aimed_queue idle]

end

/-! ## An empty chain with one source -/

theorem Chain.slotAt_of_idle {c : Chain} (h : c.work = false) (j : Nat) : c.slotAt j = .empty := by
  have unused : ∀ t ∈ c.slots, t.used = false := by
    simpa [Chain.work] using h
  unfold Chain.slotAt Chain.slotOf
  cases hj : c.slots[c.pitchAt j]? with
  | none => rfl
  | some t =>
    have := unused t (List.mem_of_getElem? hj)
    cases t <;> simp [Slot.used] at this ⊢

theorem offsetFor_of_idle (idle : b.chain.work = false) (room : (look b.source.dispensers d).offset + 1 < b.chain.length) :
    b.offsetFor d = some ((look b.source.dispensers d).offset + 1) := by
  have empty := Chain.slotAt_of_idle idle
  rw [Blocks.offsetFor_eq_some_iff]
  refine ⟨⟨room, ?_, ?_⟩, fun j lt fits => ?_⟩
  · rw [Blocks.baseOffset_le]
    exact ⟨Nat.lt_succ_self _, fun i hi => absurd (empty i) hi.2⟩
  · rw [← Bool.not_eq_true, Blocks.clashes_iff]
    rintro ⟨i, n, e, -, slot, -⟩
    rw [empty i] at slot
    cases slot
  · obtain ⟨-, base, -⟩ := fits
    have := ((Blocks.baseOffset_le b d j).mp base).1
    omega

theorem candidates_of_only {s : Source} (hs : k.sources = [d]) (hp : k.pin = none) (ha : s.available d k = true) :
    s.candidates k = [(0, d)] := by
  simp [Source.candidates, hs, hp, ha]

theorem Blocks.choice_of_only {u : Nat} (h : b.source.candidates k = [(index, d)]) (hj : b.offsetFor d = some j) :
    b.choice k u = some (index, d, j) := by
  refine Blocks.choice_eq (p := (index, d)) (by simp [h]) hj fun q hq i hi => ?_
  rw [h, List.mem_singleton] at hq
  subst hq
  exact .inr ⟨Option.some.inj (hj.symm.trans hi), .inr ⟨rfl, le_rfl⟩⟩

/-- Settles O45: an accepted STEP with no other step QUEUED is planned by a pass over it alone. -/
theorem stepReservedOnEmptyChain : Obligations.StepReservedOnEmptyChain := by
  unfold Obligations.StepReservedOnEmptyChain
  refine ⟨?_, ?_⟩
  · intro number kind image x y tier theta d k rest s hnumber hkind himage hx hy htier htheta h window phase hn hc hlast
      hknown hsources hpin havailable hcondition hinstalled hgood inside hm hd hz _ work room pitch
    have fields : (StepFields.mk number kind image x y tier 0 theta).Fits :=
      ⟨hnumber, hkind, himage.trans (by decide), hx.trans_lt (by decide), hy.trans_lt (by decide), htier,
        Nat.zero_lt_succ 3, htheta⟩
    have fresh : ∀ x ∈ s.blocks.board.window, x.number ≠ number := by simp [window]
    have ran : exec .step s = .next (s.taken rest (planPass [number] (StepFields.aimed _ s.blocks))) :=
      exec_step_planned (f := ⟨number, kind, image, x, y, tier, 0, theta⟩) fields h (by simp [window]) phase hn hc
        ⟨himage, hx, hy, Nat.zero_lt_succ 2, hlast, by simp [hknown], hinstalled⟩ fresh hgood inside hm hd hz
        (by simp [window])
    obtain ⟨queued, context, rfl⟩ : ∃ c,
        (StepFields.aimed ⟨number, kind, image, x, y, tier, 0, theta⟩ s.blocks).board.context? number = some c
          ∧ c.kind = kind := ⟨_, aimed_context? fresh, rfl⟩
    generalize ha : StepFields.aimed ⟨number, queued.kind, image, x, y, tier, 0, theta⟩ s.blocks = a at ran context
    have source : a.source = s.blocks.source := ha ▸ rfl
    have chain : a.chain = s.blocks.chain := ha ▸ rfl
    have shaft : a.shaft = s.blocks.shaft := ha ▸ rfl
    have alarm : a.alarm = s.blocks.alarm := ha ▸ rfl
    have only : a.source.candidates k = [(0, d)] := candidates_of_only hsources hpin (source ▸ havailable)
    have chosen : a.choice k (look a.source.kinds queued.kind).lastUsed
        = some (0, d, (look a.source.dispensers d).offset + 1) := by
      refine Blocks.choice_of_only only (offsetFor_of_idle ?_ ?_)
      · exact chain ▸ work
      · rw [source, chain]
        exact room
    have hk : a.source.kind? queued.kind = some k := source ▸ hknown
    rw [planPass_of_choice context hk (shaft ▸ hm) chosen (by simp [only])] at ran
    have slot : a.chain.pitchAt ((look a.source.dispensers d).offset + 1) = pitch := by rw [chain, source]
    refine ⟨_, ran, ?_, ⟨{ queued with
      state := .planned, source := some d
      slot := some (a.chain.pitchAt ((look a.source.dispensers d).offset + 1)) }, ?_, rfl, rfl, congrArg some slot, rfl⟩,
      ?_, rfl, ?_, ?_, rfl⟩
    · refine (choose_chain _).trans ?_
      rw [← slot, ← chain]
      rfl
    · refine (congrArg (Board.context? · number) (choose_board _)).trans ?_
      exact onStep_context?_self (f := fun c => { c with
        state := .planned, source := some d
        slot := some (a.chain.pitchAt ((look a.source.dispensers d).offset + 1)) }) (fun _ => rfl) context
    · refine (congrArg (fun s => (look s.kinds queued.kind).lastUsed) (choose_source _)).trans ?_
      exact congrArg KindEntry.lastUsed ((look_adjust _ _ hkind _).trans (if_pos rfl))
    · exact (choose_shaft _).trans shaft
    · exact (choose_alarm _).trans alarm
  · intro number kind image x y tier theta k rest s hnumber hkind himage hx hy htier htheta h hw sound phase hn hc hlast
      hknown hinstalled hgood target inside hm hd hz idle hq note chain reel entry queued candidate used clashes fits
      feasible turn kept
    have fields : (StepFields.mk number kind image x y tier 0 theta).Fits :=
      ⟨hnumber, hkind, himage.trans (by decide), hx.trans_lt (by decide), hy.trans_lt (by decide), htier,
        Nat.zero_lt_succ 3, htheta⟩
    have fresh : ∀ x ∈ s.blocks.board.window, x.number ≠ number := hn ▸ sound.number_ne
    have ran : exec .step s = .next (s.taken rest (planPass [number] (StepFields.aimed _ s.blocks))) :=
      exec_step_planned (f := ⟨number, kind, image, x, y, tier, 0, theta⟩) fields h hw phase hn hc
        ⟨himage, hx, hy, Nat.zero_lt_succ 2, hlast, by simp [hknown], hinstalled⟩ fresh hgood inside hm hd hz idle
    have context : (StepFields.aimed ⟨number, kind, image, x, y, tier, 0, theta⟩ s.blocks).board.context? number
        = some queued := aimed_context? fresh
    have others : ∀ m, m ≠ number →
        (StepFields.aimed ⟨number, kind, image, x, y, tier, 0, theta⟩ s.blocks).board.context? m
          = s.blocks.board.context? m := fun m ne => aimed_context?_of_ne ne
    generalize ha : StepFields.aimed ⟨number, kind, image, x, y, tier, 0, theta⟩ s.blocks = a at ran context others
    have source : a.source = s.blocks.source := ha ▸ rfl
    have achain : a.chain = chain := ha ▸ rfl
    have shaft : a.shaft = s.blocks.shaft := ha ▸ rfl
    have alarm : a.alarm = s.blocks.alarm := ha ▸ rfl
    have counters : a.counters = s.blocks.counters := ha ▸ rfl
    have hk : a.source.kind? kind = some k := source ▸ hknown
    have stopped : a.shaft.machine = .stopped := shaft ▸ hm
    have quiet : a.counters.quiet := counters ▸ hq
    have noted : (look a.alarm.codes 25).cls = .note := alarm ▸ note
    have member : ∀ i d, candidate i d ↔ (i, d) ∈ a.source.candidates k := fun i d => by
      rw [Source.mem_candidates, source]
    have fit : ∀ d j, fits d j ↔ a.canFit d j := fun d j => by
      rw [Blocks.canFit, Blocks.baseOffset_le, ← Bool.not_eq_true, Blocks.clashes_iff, achain, source, and_assoc]
    have able : ∀ i d j, feasible i d j ↔ (i, d) ∈ a.source.candidates k ∧ a.offsetFor d = some j := fun i d j => by
      unfold feasible
      rw [member, Blocks.offsetFor_eq_some_iff, fit]
      simp only [fit]
    have rank : turn = k.selection.rank (look a.source.kinds kind).lastUsed := by
      funext i
      rw [source]
      simp only [turn]
      cases k.selection <;> rfl
    obtain ⟨left, elsewhere⟩ := planPass_one_leaves stopped quiet noted context hk
    refine ⟨_, ran, rfl, left.trans shaft, fun m ne => (elsewhere m ne).trans (others m ne), fun sourceless => ?_,
      fun ⟨i, d, one⟩ infeasible => ?_, fun i d j given best => ?_⟩
    · have absent : a.source.candidates k = [] :=
        List.eq_nil_iff_forall_not_mem.mpr fun p hp => sourceless p.1 p.2 ((member p.1 p.2).mpr hp)
      rw [planPass_of_sourceless context hk absent, stopNoSource_eq quiet noted]
      refine ⟨rfl, ?_, ?_, achain, context, fun told => ?_, fun untold => ?_⟩
      · exact (look_adjust _ _ hkind kind).trans ((if_pos rfl).trans (by rw [source]))
      · exact (congrArg Source.dispensers source :)
      · exact (congrArg a.alarm.strike (if_pos (by rw [source]; exact told))).trans alarm
      · have struck : ∀ t : State, t.blocks.alarm = a.alarm.strike [(25, ⟨some number, none, some kind⟩)] →
            t.blocks.alarm.elsewhere s.blocks.alarm [25] ∧ look t.blocks.alarm.codes 25
              = (look s.blocks.alarm.codes 25).struck ⟨some number, none, some kind⟩ := fun t ht => by
          rw [ht, alarm]
          exact (strike_one_occurred _ (code := 25) (by decide) _).symm
        have unreported : ¬ (look a.source.kinds kind).noSource = true := by
          rw [source]
          exact ne_true_of_eq_false untold
        exact struck _ (congrArg a.alarm.strike (if_neg unreported))
    · have found : a.source.candidates k ≠ [] := List.ne_nil_of_mem ((member i d).mp one)
      have none : a.choice k (look a.source.kinds kind).lastUsed = none := by
        refine Blocks.choice_eq_none fun p hp => Option.eq_none_iff_forall_ne_some.mpr fun j hj => ?_
        exact infeasible p.1 p.2 j ((able _ _ _).mpr ⟨hp, hj⟩)
      rw [planPass_of_infeasible context hk none found]
      exact ⟨⟨alarm, achain, context⟩, rfl, source⟩
    · obtain ⟨mem, offset⟩ := (able i d j).mp given
      have chosen : a.choice k (look a.source.kinds kind).lastUsed = some (i, d, j) := by
        refine Blocks.choice_eq mem offset fun q hq j' hj => ?_
        rw [← rank]
        exact best q.1 q.2 j' ((able _ _ _).mpr ⟨hq, hj⟩)
      rw [planPass_of_choice context hk stopped chosen (List.ne_nil_of_mem mem)]
      have pitch : a.chain.pitchAt j = chain.pitchAt j := by rw [achain]
      refine ⟨?_, ?_, ?_, rfl, ?_, fun e he => ?_⟩
      · refine (choose_chain _).trans ?_
        rw [← achain]
        rfl
      · refine (congrArg (Board.context? · number) (choose_board _)).trans ?_
        rw [← pitch]
        exact onStep_context?_self (f := fun c =>
          { c with state := .planned, source := some d, slot := some (a.chain.pitchAt j) }) (fun _ => rfl) context
      · refine (congrArg (fun s => look s.kinds kind) (choose_source _)).trans ?_
        exact (look_adjust _ _ hkind kind).trans ((if_pos rfl).trans (by rw [source]))
      · exact (choose_alarm _).trans alarm
      · refine (congrArg (fun s => look s.dispensers e) (choose_source _)).trans ?_
        rw [reservedAt_dispensers _ _ _ _ _ _ he, source]

end Sys2Proof.Machine
end

section
/-! # Fire replies -/

namespace Sys2Proof.Machine

set_option Elab.async false

variable {b : Blocks} {bank frame code : Nat} {home : BitVec 8} {f : FireFrame} {e : Fire}

/-! ## The settlement of several dispensers (R51, R52) -/

theorem settleDispensers_spares (hc : code < 28) (h18 : code ≠ 18) (h25 : code ≠ 25) (before : Source) (ds : List Nat)
    (b : Blocks) : look (settleDispensers before ds b).alarm.codes code = look b.alarm.codes code := by
  refine foldl_leaves (fun b => look b.alarm.codes code) _ (fun b d => ?_) ds b
  have settled : (settleDispenser before d b).1.alarm = b.alarm := by simp
  dsimp only
  generalize (settleDispenser before d b).2 = due
  cases due with
  | true => rw [planIf_true, planningEvent_spares hc h18 h25, settled]
  | false => rw [planIf_false, settled]

/-! ## The home set of a reply (R48, R54, R55) -/

/-- A reply with neither press nor report. -/
theorem takeReply_home (bank frame : Nat) (home : BitVec 8) (b : Blocks) :
    takeReply bank frame home 0 0 b = reactRise b.alarm (takeHome bank frame home b) := by
  have idle : ∀ (a : Blocks) p, takePosition bank 0 0 a p = a := fun a p => by simp [takePosition]
  rw [takeReply]
  exact congrArg _ (List.foldl_fixed' (idle _) _)

/-- The blocks after a first reply to the outstanding frame is recorded. -/
def Blocks.replied (b : Blocks) (f : FireFrame) (bank : Nat) : Blocks :=
  b.onSource fun s => { s with outstanding := some { f with replied := bank :: f.replied } }

section

variable (ho : b.source.outstanding = some f)
include ho

theorem takeHome_first (hf : f.number = frame) (hr : bank ∉ f.replied) :
    takeHome bank frame home b = judgeHome bank home f (b.replied f bank) := by
  unfold takeHome
  rw [ho]
  exact if_pos ⟨hf, by simpa using hr⟩

theorem takeHome_other (h : f.number ≠ frame ∨ bank ∈ f.replied) : takeHome bank frame home b = b := by
  unfold takeHome
  rw [ho]
  refine if_neg fun ⟨same, fresh⟩ => ?_
  rcases h with h | h
  · exact h same
  · simp [h] at fresh

end

/-- R55: every fired position of the bank shows home. -/
theorem judgeHome_home (h : ∀ e ∈ f.fires, e.dispenser / 8 = bank → home.getLsbD (e.dispenser % 8) = true) :
    judgeHome bank home f b = b := by
  unfold judgeHome
  split
  · rfl
  · next e he =>
    exact if_pos (h e (List.mem_of_find?_eq_some he) (of_decide_eq_true (List.find?_some he :)))

/-- The fire of a bank that has one alone. -/
theorem find?_fire {l : List Fire} (he : e ∈ l) (hb : e.dispenser / 8 = bank) (only : ∀ g ∈ l, g.dispenser / 8 = bank → g = e) :
    l.find? (fun e => decide (bankOf e.dispenser = bank)) = some e := by
  have found : (l.find? fun e => decide (bankOf e.dispenser = bank)).isSome = true := by
    rw [List.find?_isSome]
    exact ⟨e, he, decide_eq_true hb⟩
  obtain ⟨g, hg⟩ := Option.isSome_iff_exists.mp found
  rw [hg, only g (List.mem_of_find?_eq_some hg) (of_decide_eq_true (List.find?_some hg :))]

theorem judgeHome_away (he : e ∈ f.fires) (hb : e.dispenser / 8 = bank)
    (only : ∀ g ∈ f.fires, g.dispenser / 8 = bank → g = e) (away : home.getLsbD (e.dispenser % 8) = false) :
    judgeHome bank home f b = settleDispensers b.source [e.dispenser]
      (jam e.dispenser (raise 10 ⟨some e.step, some e.dispenser, some e.kind⟩ b)) := by
  unfold judgeHome
  rw [find?_fire he hb only]
  exact if_neg (by simp [away])

/-- The jam of a dispenser stays under all that follows. -/
theorem Blocks.KeepsReels.jammed {c : Blocks} (h : b.KeepsReels c) (d : Nat) :
    (look c.source.dispensers d).jammed = (look b.source.dispensers d).jammed := by
  obtain ⟨p, same, -⟩ := h.entry d
  rw [same]

theorem jam_of_le {d : Nat} (hd : 96 ≤ d) (b : Blocks) : jam d b = b := by
  simp only [jam, Blocks.onDispenser, Blocks.onSource, adjust, put_of_le _ _ hd]

theorem jam_jammed (d : Nat) (b : Blocks) {q : Nat} (hq : q < 96) : (look (jam d b).source.dispensers q).jammed
    = ((look b.source.dispensers q).jammed || decide (d = q)) := by
  by_cases hd : d < 96
  · rw [jam, onDispenser_look hd]
    split
    · next h => simp [h]
    · next h => simp [Ne.symm h]
  · have other : d ≠ q := by omega
    rw [jam_of_le (Nat.le_of_not_lt hd)]
    simp [other]

theorem jam_installed (d : Nat) (b : Blocks) (q : Nat) :
    (look (jam d b).source.dispensers q).installed = (look b.source.dispensers q).installed := by
  by_cases hd : d < 96
  · rw [jam, onDispenser_look hd]
    split
    · next h => rw [h]
    · rfl
  · rw [jam_of_le (Nat.le_of_not_lt hd)]

/-- R48, R55: a position not home jams its dispenser. -/
theorem takeReply_away (ho : b.source.outstanding = some f) (hf : f.number = frame) (hr : bank ∉ f.replied)
    (he : e ∈ f.fires) (hb : e.dispenser / 8 = bank) (only : ∀ g ∈ f.fires, g.dispenser / 8 = bank → g = e)
    (hd : e.dispenser < 96) (away : home.getLsbD (e.dispenser % 8) = false) :
    (look (takeReply bank frame home 0 0 b).source.dispensers e.dispenser).jammed = true
      ∧ look (takeReply bank frame home 0 0 b).alarm.codes 10
        = (look b.alarm.codes 10).struck ⟨some e.step, some e.dispenser, some e.kind⟩ := by
  rw [takeReply_home, takeHome_first ho hf hr, judgeHome_away he hb only away]
  constructor
  · rw [((settleDispensers_keepsReels _ _ _).trans (reactRise_keepsReels _ _)).jammed, jam_jammed _ _ hd]
    simp
  · rw [reactRise_spares (by decide) (by decide), settleDispensers_spares (by decide) (by decide) (by decide)]
    exact raise_look (by decide) _ _

end Sys2Proof.Machine
end

section
/-! # FIRE close -/

namespace Sys2Proof.Machine

set_option Elab.async false

variable {b : Blocks} {bank code d q : Nat} {f : FireFrame} {e : Fire}

/-! ## The silent banks (R56) -/

/-- R56: a bank with an installed dispenser has not replied. -/
def Source.silent (s : Source) (f : FireFrame) (bank : Nat) : Bool := (List.range 96).any fun d =>
  (look s.dispensers d).installed && decide (d / 8 = bank) && !f.replied.contains bank

theorem silent_eq (s : Source) (f : FireFrame) (h : bank < 12) :
    s.silent f bank = (s.expectedBank bank && !f.replied.contains bank) := by
  rw [Bool.eq_iff_iff]
  simp only [Source.silent, Source.expectedBank, List.any_eq_true, List.mem_range, Bool.and_eq_true, decide_eq_true_eq]
  constructor
  · rintro ⟨d, hd, ⟨installed, hb⟩, fresh⟩
    refine ⟨⟨d % 8, Nat.mod_lt _ (by decide), ?_⟩, fresh⟩
    rwa [show bank * 8 + d % 8 = d by omega]
  · rintro ⟨⟨p, hp, installed⟩, fresh⟩
    exact ⟨bank * 8 + p, by omega, ⟨installed, by omega⟩, fresh⟩

theorem silentBanks_eq (s : Source) (f : FireFrame) : silentBanks s f = (List.range 12).filter (s.silent f) := by
  refine List.filter_congr fun bank h => ?_
  exact (silent_eq s f (List.mem_range.mp h)).symm

theorem Source.silent_lt {s : Source} (h : s.silent f bank = true) : bank < 12 := by
  simp only [Source.silent, List.any_eq_true, List.mem_range, Bool.and_eq_true, decide_eq_true_eq] at h
  obtain ⟨d, hd, ⟨-, hb⟩, -⟩ := h
  omega

/-- The bank of the highest number comes last. -/
theorem silentBanks_last {s : Source} (h : s.silent f bank = true) (highest : ∀ b, bank < b → s.silent f b = false) :
    ∃ lower, silentBanks s f = lower ++ [bank] := by
  obtain ⟨before, after, split⟩ := List.append_of_mem (List.mem_range.mpr (Source.silent_lt h))
  have ascending : (before ++ bank :: after).Pairwise (· < ·) := split ▸ List.pairwise_lt_range
  have above := (List.pairwise_cons.mp (List.pairwise_append.mp ascending).2.1).1
  have none : after.filter (s.silent f) = [] := by
    rw [List.filter_eq_nil_iff]
    exact fun b hb => by simp [highest b (above b hb)]
  refine ⟨before.filter (s.silent f), ?_⟩
  rw [silentBanks_eq, split, List.filter_append, List.filter_cons_of_pos h, none]

/-! ## One silent bank (R48, R56) -/

/-- R55: the dispenser that the frame fires in a bank. -/
def FireFrame.firedIn (f : FireFrame) (bank : Nat) : Option Nat :=
  (f.fires.find? fun e => decide (bankOf e.dispenser = bank)).map Fire.dispenser

/-- The lowest installed dispenser of a bank. -/
def Source.lowestIn (s : Source) (bank : Nat) : Option Nat :=
  ((List.range 8).map (bank * 8 + ·)).find? fun d => (look s.dispensers d).installed

/-- R56: the context of BANK SILENT. -/
def Source.silentContext (s : Source) (f : FireFrame) (bank : Nat) : AlarmContext :=
  ⟨none, (f.firedIn bank).or (s.lowestIn bank), none⟩

theorem silence_of_fired (h : f.firedIn bank = some d) :
    silence f b bank = jam d (raise 11 (b.source.silentContext f bank) b) := by
  obtain ⟨e, he, rfl⟩ := Option.map_eq_some_iff.mp h
  unfold silence
  rw [he, Source.silentContext, h]
  rfl

theorem silence_of_unfired (h : f.firedIn bank = none) :
    silence f b bank = raise 11 (b.source.silentContext f bank) b := by
  have none := Option.map_eq_none_iff.mp h
  unfold silence
  rw [none, Source.silentContext, h]
  rfl

section

variable (b f bank)

theorem silence_look : look (silence f b bank).alarm.codes 11
    = (look b.alarm.codes 11).struck (b.source.silentContext f bank) := by
  cases h : f.firedIn bank with
  | none => rw [silence_of_unfired h, raise_look (by decide)]
  | some d => rw [silence_of_fired h, jam, Blocks.onDispenser, Blocks.onSource_alarm, raise_look (by decide)]

theorem silence_installed (q : Nat) :
    (look (silence f b bank).source.dispensers q).installed = (look b.source.dispensers q).installed := by
  cases h : f.firedIn bank with
  | none => rw [silence_of_unfired h, raise_source]
  | some d => rw [silence_of_fired h, jam_installed, raise_source]

theorem silence_outstanding : (silence f b bank).source.outstanding = b.source.outstanding := by
  cases h : f.firedIn bank with
  | none => rw [silence_of_unfired h, raise_source]
  | some d => rw [silence_of_fired h, jam, Blocks.onDispenser, Blocks.onSource_source, raise_source]

theorem silence_jammed (hq : q < 96) : (look (silence f b bank).source.dispensers q).jammed
    = ((look b.source.dispensers q).jammed || decide (f.firedIn bank = some q)) := by
  cases h : f.firedIn bank with
  | none => rw [silence_of_unfired h, raise_source]; simp
  | some d => rw [silence_of_fired h, jam_jammed _ _ hq, raise_source]; simp

end

/-! ## Several silent banks -/

theorem silentContext_of_installed {s s' : Source}
    (h : ∀ q, (look s'.dispensers q).installed = (look s.dispensers q).installed) (f : FireFrame) (bank : Nat) :
    s'.silentContext f bank = s.silentContext f bank := by
  simp only [Source.silentContext, Source.lowestIn, h]

theorem foldl_silence_look (l : List Nat) (b : Blocks) : look (l.foldl (silence f) b).alarm.codes 11
    = (l.map (b.source.silentContext f)).foldl AlarmEntry.struck (look b.alarm.codes 11) := by
  induction l generalizing b with
  | nil => rfl
  | cons bank l ih =>
    have same : (silence f b bank).source.silentContext f = b.source.silentContext f :=
      funext fun _ => silentContext_of_installed (silence_installed b bank f) f _
    rw [List.foldl_cons, ih, same, silence_look, List.map_cons, List.foldl_cons]

theorem foldl_silence_jammed (l : List Nat) (b : Blocks) (hq : q < 96) :
    (look (l.foldl (silence f) b).source.dispensers q).jammed
      = ((look b.source.dispensers q).jammed || l.any fun bank => decide (f.firedIn bank = some q)) := by
  induction l generalizing b with
  | nil => simp
  | cons bank l ih => rw [List.foldl_cons, ih, silence_jammed _ _ _ hq, List.any_cons, Bool.or_assoc]

theorem foldl_silence_outstanding (l : List Nat) (b : Blocks) :
    (l.foldl (silence f) b).source.outstanding = b.source.outstanding :=
  foldl_leaves (fun b => b.source.outstanding) _ (fun b bank => silence_outstanding b bank f) l b

/-- R138: the entry of an EDGE code after several occurrences. -/
theorem foldl_struck (l : List AlarmContext) (context : AlarmContext) (e : AlarmEntry) :
    (l ++ [context]).foldl AlarmEntry.struck e = if e.state = .idle then
      { e with state := .latched, count := min (l.length + 1) 255, context := context, noticePending := true }
    else { e with count := min (e.count + (l.length + 1)) 255, context := context } := by
  induction l using List.reverseRecOn generalizing context with
  | nil => rfl
  | append_singleton l last ih =>
    rw [List.foldl_append, ih, List.length_append]
    by_cases idle : e.state = .idle
    · rw [if_pos idle, if_pos idle]
      simp [AlarmEntry.struck]
      omega
    · rw [if_neg idle, if_neg idle]
      simp [AlarmEntry.struck, idle]
      omega

/-! ## The window event (R55, R56) -/

theorem fireClose_idle (h : b.source.outstanding = none) : fireClose b = b := by
  unfold fireClose
  rw [h]

/-- R56: every bank has replied. -/
theorem fireClose_replied (h : b.source.outstanding = some f) (replied : ∀ bank, b.source.silent f bank = false) :
    fireClose b = dropFireFrame b := by
  have none : silentBanks b.source f = [] := by
    rw [silentBanks_eq, List.filter_eq_nil_iff]
    exact fun bank _ => by simp [replied bank]
  unfold fireClose
  rw [h]
  dsimp only
  have settled : (f.fires.filter fun e => ([] : List Nat).contains (bankOf e.dispenser)) = [] := by simp
  rw [none, settled]
  exact reactRise_same (dropFireFrame b)

/-- R56: what a FIRE close with silent banks leaves of the judgment of each. -/
theorem fireClose_judged (h : b.source.outstanding = some f) :
    (fireClose b).source.outstanding = none
      ∧ look (fireClose b).alarm.codes 11 = look ((silentBanks b.source f).foldl (silence f) (dropFireFrame b)).alarm.codes 11
      ∧ ∀ d, (look (fireClose b).source.dispensers d).jammed
        = (look ((silentBanks b.source f).foldl (silence f) (dropFireFrame b)).source.dispensers d).jammed := by
  unfold fireClose
  rw [h]
  dsimp only
  have kept := fun ds judged => (settleDispensers_keepsReels b.source ds judged).trans (reactRise_keepsReels b.alarm _)
  refine ⟨(kept _ _).outstanding ?_, ?_, fun d => (kept _ _).jammed d⟩
  · rw [foldl_silence_outstanding]
    rfl
  · rw [reactRise_spares (by decide) (by decide), settleDispensers_spares (by decide) (by decide) (by decide)]

/-! ## The context and the jams -/

theorem silentContext_of_fire (he : e ∈ f.fires) (hb : e.dispenser / 8 = bank)
    (only : ∀ g ∈ f.fires, g.dispenser / 8 = bank → g = e) (s : Source) :
    s.silentContext f bank = ⟨none, some e.dispenser, none⟩ := by
  rw [Source.silentContext, FireFrame.firedIn, find?_fire he hb only]
  rfl

/-- With no fire in the bank the context names its lowest installed dispenser. -/
theorem silentContext_of_lowest {s : Source} (hb : d / 8 = bank) (unfired : ∀ e ∈ f.fires, e.dispenser / 8 ≠ bank)
    (installed : (look s.dispensers d).installed = true)
    (lowest : ∀ e, e < d → e / 8 = bank → (look s.dispensers e).installed = false) :
    s.silentContext f bank = ⟨none, some d, none⟩ := by
  have none : f.firedIn bank = none := by
    rw [FireFrame.firedIn, Option.map_eq_none_iff, List.find?_eq_none]
    exact fun e he hb => unfired e he (of_decide_eq_true hb)
  have place : bank * 8 + d % 8 = d := by omega
  have found : (List.range 8).find? ((fun d => (look s.dispensers d).installed) ∘ (bank * 8 + ·)) = some (d % 8) := by
    rw [List.find?_range_eq_some]
    refine ⟨?_, List.mem_range.mpr (Nat.mod_lt _ (by decide)), fun p hp => ?_⟩
    · simpa only [Function.comp_apply, place] using installed
    · rw [Function.comp_apply, lowest _ (by omega) (by omega)]
      rfl
  rw [Source.silentContext, none, Source.lowestIn, List.find?_map, found, Option.map_some, place]
  rfl

/-- R48, R56: the dispensers of the silent banks that the frame fires are jammed. -/
theorem any_firedIn (s : Source) (apart : ∀ e ∈ f.fires, ∀ g ∈ f.fires, e.dispenser / 8 = g.dispenser / 8 → e = g) (d : Nat) :
    ((silentBanks s f).any fun bank => decide (f.firedIn bank = some d))
      = (s.silent f (d / 8) && f.fires.any fun e => decide (e.dispenser = d)) := by
  rw [Bool.eq_iff_iff, silentBanks_eq]
  simp only [List.any_eq_true, List.mem_filter, Bool.and_eq_true, decide_eq_true_eq]
  constructor
  · rintro ⟨bank, ⟨-, silent⟩, fired⟩
    obtain ⟨e, he, rfl⟩ := Option.map_eq_some_iff.mp fired
    have hb : e.dispenser / 8 = bank := of_decide_eq_true (List.find?_some he :)
    exact ⟨hb ▸ silent, e, List.mem_of_find?_eq_some he, rfl⟩
  · rintro ⟨silent, e, he, rfl⟩
    refine ⟨e.dispenser / 8, ⟨List.mem_range.mpr (Source.silent_lt silent), silent⟩, ?_⟩
    rw [FireFrame.firedIn, find?_fire he rfl fun g hg hb => apart g hg e he hb]
    rfl

end Sys2Proof.Machine
end

section
/-! # FIRE open -/

namespace Sys2Proof

theorem adjust_congr {α : Type} [Inhabited α] {n : Nat} {t : Vector α n} {i : Nat} {f g : α → α}
    (h : f (look t i) = g (look t i)) : adjust t i f = adjust t i g := congrArg (put t i) h

end Sys2Proof

namespace Sys2Proof.Machine

set_option Elab.async false

variable {b : Blocks} {code d j n q : Nat} {x : Nat × Fire} {e e' e'' : AlarmEntry}

/-! ## An entry that is raised at least once (R138) -/

/-- The entry has been raised once or more. -/
structure AlarmEntry.Raised (e now : AlarmEntry) : Prop where
  state : now.state = if e.state = .idle then .latched else e.state
  count : (if e.state = .idle then 1 else min (e.count + 1) 255) ≤ now.count

/-- The entry is as it was, or has been raised. -/
def AlarmEntry.Rises (e now : AlarmEntry) : Prop := now = e ∨ e.Raised now

theorem AlarmEntry.raised_struck (e : AlarmEntry) (context : AlarmContext) : e.Raised (e.struck context) := by
  unfold AlarmEntry.struck
  by_cases h : e.state = .idle <;> constructor <;> simp [h]

theorem AlarmEntry.Raised.then (h : e.Raised e') (h' : e'.Rises e'') : e.Raised e'' := by
  rcases h' with rfl | h'
  · exact h
  · obtain ⟨state, count⟩ := h
    obtain ⟨state', count'⟩ := h'
    have standing : e'.state ≠ .idle := by
      rw [state]
      split
      · decide
      · assumption
    rw [if_neg standing] at state' count'
    refine ⟨state'.trans state, le_trans ?_ count'⟩
    by_cases idle : e.state = .idle
    · rw [if_pos idle] at count ⊢
      omega
    · rw [if_neg idle] at count ⊢
      omega

theorem AlarmEntry.Rises.then_raised (h : e.Rises e') (h' : e'.Raised e'') : e.Raised e'' := by
  rcases h with rfl | h
  · exact h'
  · exact h.then (.inr h')

theorem AlarmEntry.Rises.trans (h : e.Rises e') (h' : e'.Rises e'') : e.Rises e'' := by
  rcases h with rfl | h
  · exact h'
  · exact .inr (h.then h')

/-! ## One reel (R42, R45) -/

theorem raise_rises (hc : code < 28) (other : Nat) (context : AlarmContext) (b : Blocks) :
    (look b.alarm.codes code).Rises (look (raise other context b).alarm.codes code) := by
  by_cases h : other = code
  · rw [h, raise_look hc]
    exact .inr (AlarmEntry.raised_struck _ _)
  · exact .inl (raise_spares hc h context b)

theorem reportOut_source (d : Nat) (b : Blocks) :
    (reportOut d b).source = (b.onDispenser d fun e => { e with outReported := true }).source := by
  cases h : (look b.source.dispensers d).outReported with
  | true =>
    have same : adjust b.source.dispensers d (fun e => { e with outReported := true }) = b.source.dispensers :=
      adjust_of_same (by rw [← h])
    rw [reportOut_of_reported h, Blocks.onDispenser, Blocks.onSource_source, same]
  | false => rw [reportOut_of_unreported h, raise_source]

theorem reportOut_rises (hc : code < 28) (d : Nat) (b : Blocks) :
    (look b.alarm.codes code).Rises (look (reportOut d b).alarm.codes code) := by
  cases h : (look b.source.dispensers d).outReported with
  | true => exact .inl (by rw [reportOut_of_reported h])
  | false =>
    rw [reportOut_of_unreported h]
    exact raise_rises hc 24 _ (b.onDispenser d _)

theorem reportLow_source (d : Nat) (b : Blocks) :
    (reportLow d b).source = (b.onDispenser d fun e => { e with lowReported := true }).source := by
  cases h : (look b.source.dispensers d).lowReported with
  | true =>
    have same : adjust b.source.dispensers d (fun e => { e with lowReported := true }) = b.source.dispensers :=
      adjust_of_same (by rw [← h])
    rw [reportLow, if_pos h, Blocks.onDispenser, Blocks.onSource_source, same]
  | false => rw [reportLow_of_unreported h, raise_source]

theorem reportLow_rises (hc : code < 28) (d : Nat) (b : Blocks) :
    (look b.alarm.codes code).Rises (look (reportLow d b).alarm.codes code) := by
  cases h : (look b.source.dispensers d).lowReported with
  | true => exact .inl (by rw [reportLow, if_pos h])
  | false =>
    rw [reportLow_of_unreported h]
    exact raise_rises hc 26 _ (b.onDispenser d _)

/-- R42: the reel comes to its threshold with this fire. -/
def Dispenser.turnsLow (e : Dispenser) : Prop := e.threshold ≠ 0 ∧ e.count - 1 = e.threshold ∧ e.reel = .loaded

theorem fireReel_of_empty (h : (look b.source.dispensers d).count ≤ 1) :
    fireReel b d = reportOut d (b.onDispenser d fun e => { e with count := e.count - 1, reel := .empty }) := by
  unfold fireReel
  dsimp only
  rw [if_pos (by omega), onDispenser_onDispenser]
  exact congrArg (reportOut d) (congrArg (fun t => b.onSource fun s => { s with dispensers := t }) (adjust_congr rfl))

theorem fireReel_of_low (h : 2 ≤ (look b.source.dispensers d).count) (low : (look b.source.dispensers d).turnsLow) :
    fireReel b d = reportLow d (b.onDispenser d fun e => { e with count := e.count - 1, reel := .low }) := by
  unfold fireReel
  unfold Dispenser.turnsLow at low
  dsimp only
  rw [if_neg (by omega), if_pos low, onDispenser_onDispenser]
  exact congrArg (reportLow d) (congrArg (fun t => b.onSource fun s => { s with dispensers := t }) (adjust_congr rfl))

theorem fireReel_of_more (h : 2 ≤ (look b.source.dispensers d).count) (low : ¬ (look b.source.dispensers d).turnsLow) :
    fireReel b d = b.onDispenser d fun e => { e with count := e.count - 1 } := by
  unfold fireReel
  unfold Dispenser.turnsLow at low
  dsimp only
  rw [if_neg (by omega), if_neg low]
  exact congrArg (fun t => b.onSource fun s => { s with dispensers := t }) (adjust_congr rfl)

/-- R42: a fire leaves every entry but the dispenser's, whose count is one lower. -/
theorem fireReel_source (b : Blocks) (d : Nat) : ∃ f : Dispenser → Dispenser,
    (fireReel b d).source = (b.onDispenser d f).source ∧ (∀ e, (f e).count = e.count - 1)
      ∧ ((look b.source.dispensers d).count ≤ 1 → ∀ e, (f e).reel = .empty)
      ∧ (2 ≤ (look b.source.dispensers d).count → (look b.source.dispensers d).turnsLow → ∀ e, (f e).reel = .low) := by
  by_cases h : (look b.source.dispensers d).count ≤ 1
  · refine ⟨fun e => { e with count := e.count - 1, reel := .empty, outReported := true }, ?_, fun _ => rfl,
      fun _ _ => rfl, fun h' => absurd h (by omega)⟩
    rw [fireReel_of_empty h, reportOut_source, onDispenser_onDispenser]
  · have more : 2 ≤ (look b.source.dispensers d).count := by omega
    by_cases low : (look b.source.dispensers d).turnsLow
    · refine ⟨fun e => { e with count := e.count - 1, reel := .low, lowReported := true }, ?_, fun _ => rfl,
        fun h' => absurd h' h, fun _ _ _ => rfl⟩
      rw [fireReel_of_low more low, reportLow_source, onDispenser_onDispenser]
    · refine ⟨fun e => { e with count := e.count - 1 }, ?_, fun _ => rfl, fun h' => absurd h' h,
        fun _ low' => absurd low' low⟩
      rw [fireReel_of_more more low]

theorem fireReel_look_of_ne (h : q ≠ d) (b : Blocks) :
    look (fireReel b d).source.dispensers q = look b.source.dispensers q := by
  obtain ⟨f, source, -⟩ := fireReel_source b d
  rw [source, Blocks.onDispenser, Blocks.onSource_source]
  exact look_put_of_ne _ _ h.symm

theorem fireReel_rises (hc : code < 28) (b : Blocks) (d : Nat) :
    (look b.alarm.codes code).Rises (look (fireReel b d).alarm.codes code) := by
  by_cases h : (look b.source.dispensers d).count ≤ 1
  · rw [fireReel_of_empty h]
    exact reportOut_rises hc d (b.onDispenser d _)
  · have more : 2 ≤ (look b.source.dispensers d).count := by omega
    by_cases low : (look b.source.dispensers d).turnsLow
    · rw [fireReel_of_low more low]
      exact reportLow_rises hc d (b.onDispenser d _)
    · rw [fireReel_of_more more low]
      exact .inl rfl

section

variable (hd : d < 96)
include hd

/-- R45: the last part of a reel raises REEL OUT, once. -/
theorem fireReel_struck_out (h : (look b.source.dispensers d).count ≤ 1)
    (unreported : (look b.source.dispensers d).outReported = false) :
    look (fireReel b d).alarm.codes 24 = (look b.alarm.codes 24).struck ⟨none, some d, none⟩ := by
  rw [fireReel_of_empty h, reportOut_of_unreported, raise_look (by decide)]
  · rfl
  · rw [onDispenser_look hd, if_pos rfl]
    exact unreported

theorem fireReel_struck_low (h : 2 ≤ (look b.source.dispensers d).count) (low : (look b.source.dispensers d).turnsLow)
    (unreported : (look b.source.dispensers d).lowReported = false) :
    look (fireReel b d).alarm.codes 26 = (look b.alarm.codes 26).struck ⟨none, some d, none⟩ := by
  rw [fireReel_of_low h low, reportLow_of_unreported, raise_look (by decide)]
  · rfl
  · rw [onDispenser_look hd, if_pos rfl]
    exact unreported

end

/-! ## Several reels -/

theorem foldl_fireReel_look (l : List Nat) (h : d ∉ l) (b : Blocks) :
    look (l.foldl fireReel b).source.dispensers d = look b.source.dispensers d := by
  induction l generalizing b with
  | nil => rfl
  | cons x l ih =>
    rw [List.mem_cons, not_or] at h
    rw [List.foldl_cons, ih h.2, fireReel_look_of_ne h.1]

theorem foldl_fireReel_rises (hc : code < 28) (l : List Nat) (b : Blocks) :
    (look b.alarm.codes code).Rises (look (l.foldl fireReel b).alarm.codes code) := by
  induction l generalizing b with
  | nil => exact .inl rfl
  | cons x l ih => exact (fireReel_rises hc b x).trans (ih _)

/-- Of a list that names a dispenser once, the other dispensers leave its entry, and raise codes at most. -/
theorem foldl_fireReel_around {l : List Nat} (nodup : l.Nodup) (h : d ∈ l) (b : Blocks) : ∃ mid,
    look mid.source.dispensers d = look b.source.dispensers d
      ∧ look (l.foldl fireReel b).source.dispensers d = look (fireReel mid d).source.dispensers d
      ∧ ∀ code < 28, (look b.alarm.codes code).Rises (look mid.alarm.codes code)
        ∧ (look (fireReel mid d).alarm.codes code).Rises (look (l.foldl fireReel b).alarm.codes code) := by
  obtain ⟨before, after, rfl⟩ := List.append_of_mem h
  obtain ⟨-, tail, apart⟩ := List.nodup_append.mp nodup
  have absent : d ∉ before := fun hb => apart d hb d List.mem_cons_self rfl
  refine ⟨before.foldl fireReel b, foldl_fireReel_look before absent b, ?_, fun code hc => ⟨?_, ?_⟩⟩
  · rw [List.foldl_append, List.foldl_cons, foldl_fireReel_look after (List.nodup_cons.mp tail).1]
  · exact foldl_fireReel_rises hc before b
  · rw [List.foldl_append, List.foldl_cons]
    exact foldl_fireReel_rises hc after _

end Sys2Proof.Machine
end

section
/-! # The fires of an advance -/

namespace Sys2Proof.Machine

set_option Elab.async false

variable {b : Blocks} {code d j n q : Nat} {x : Nat × Fire} {c : StepContext}

/-! ## The slots at their stations (R89) -/

/-- R89: at offset `j` a slot is RESERVED for step `n` at the station of its source `d`. -/
def Blocks.stands (b : Blocks) (j n d : Nat) : Prop :=
  j < b.chain.length ∧ b.chain.slotAt j = .reserved n d ∧ (look b.source.dispensers d).offset = j

/-- R89: the fire at an offset. -/
def Blocks.fireAt (b : Blocks) (j : Nat) : Option (Nat × Fire) :=
  match b.chain.slotAt j with
  | .reserved n d =>
    if (look b.source.dispensers d).offset = j then
      some (b.chain.pitchAt j, ⟨d, n, match b.context? n with | some c => c.kind | none => 0⟩)
    else none
  | _ => none

theorem fires_eq (b : Blocks) : b.fires = (List.range b.chain.length).filterMap b.fireAt := rfl

theorem fireAt_of_stands (h : b.stands j n d) (hc : b.board.context? n = some c) :
    b.fireAt j = some (b.chain.pitchAt j, ⟨d, n, c.kind⟩) := by
  obtain ⟨-, slot, station⟩ := h
  unfold Blocks.fireAt
  rw [slot]
  dsimp only
  rw [if_pos station, show b.context? n = some c from hc]

theorem stands_of_fireAt (hj : j < b.chain.length) (h : b.fireAt j = some x) : b.stands j x.2.step x.2.dispenser := by
  unfold Blocks.fireAt at h
  split at h
  · next n d slot =>
    split at h
    · next station =>
      obtain rfl := Option.some.inj h
      exact ⟨hj, slot, station⟩
    · cases h
  · cases h

theorem fires_eq_nil (h : ∀ j n d, ¬ b.stands j n d) : b.fires = [] := by
  rw [fires_eq, List.filterMap_eq_nil_iff]
  intro j hj
  cases hx : b.fireAt j with
  | none => rfl
  | some x => exact absurd (stands_of_fireAt (List.mem_range.mp hj) hx) (h j _ _)

/-- A slot that stands at its station alone is the one fire. -/
theorem fires_eq_one (h : b.stands j n d) (hc : b.board.context? n = some c) (only : ∀ i m e, b.stands i m e → i = j) :
    b.fires = [(b.chain.pitchAt j, ⟨d, n, c.kind⟩)] := by
  obtain ⟨before, after, split⟩ := List.append_of_mem (List.mem_range.mpr h.1)
  have nodup : (before ++ j :: after).Nodup := split ▸ List.nodup_range
  obtain ⟨-, tail, apart⟩ := List.nodup_append.mp nodup
  have none : ∀ i ∈ before ++ j :: after, i ≠ j → b.fireAt i = none := fun i hi ne => by
    cases hx : b.fireAt i with
    | none => rfl
    | some x => exact absurd (only i _ _ (stands_of_fireAt (List.mem_range.mp (split ▸ hi)) hx)) ne
  have first : before.filterMap b.fireAt = [] := List.filterMap_eq_nil_iff.mpr fun i hi =>
    none i (List.mem_append_left _ hi) (apart i hi j List.mem_cons_self)
  have last : after.filterMap b.fireAt = [] := List.filterMap_eq_nil_iff.mpr fun i hi =>
    none i (List.mem_append_right _ (List.mem_cons_of_mem _ hi)) fun e => (List.nodup_cons.mp tail).1 (e ▸ hi)
  rw [fires_eq, split, List.filterMap_append, List.filterMap_cons_some (fireAt_of_stands h hc), first, last]
  rfl

/-- The dispensers that the fires name, in ascending offset. -/
def Blocks.firedDispensers (b : Blocks) : List Nat := b.fires.map fun f => f.2.dispenser

theorem mem_firedDispensers (h : b.stands j n d) (hc : b.board.context? n = some c) : d ∈ b.firedDispensers :=
  List.mem_map.mpr ⟨_, List.mem_filterMap.mpr ⟨j, List.mem_range.mpr h.1, fireAt_of_stands h hc⟩, rfl⟩

/-- A dispenser's station is at one offset, so it is fired once at most. -/
theorem firedDispensers_nodup (b : Blocks) : b.firedDispensers.Nodup := by
  have ascending : b.fires.Pairwise fun f g =>
      (look b.source.dispensers f.2.dispenser).offset < (look b.source.dispensers g.2.dispenser).offset := by
    rw [fires_eq, List.pairwise_filterMap]
    refine List.Pairwise.imp_of_mem ?_ List.pairwise_lt_range
    intro i k hi hk lt f hf g hg
    obtain ⟨-, -, here⟩ := stands_of_fireAt (List.mem_range.mp hi) hf
    obtain ⟨-, -, there⟩ := stands_of_fireAt (List.mem_range.mp hk) hg
    omega
  rw [Blocks.firedDispensers, List.Nodup, List.pairwise_map]
  exact ascending.imp fun lt e => by simp [e] at lt

/-! ## The slots fired, and the frame (R53, R89) -/

@[simp] theorem fireSlot_source (f : Nat × Fire) (b : Blocks) : (fireSlot b f).source = b.source := by
  simp [fireSlot]

theorem fireSlot_spares (hc : code < 28) (f : Nat × Fire) (b : Blocks) :
    look (fireSlot b f).alarm.codes code = look b.alarm.codes code := by
  unfold fireSlot reportFire
  rw [countStatistics_alarm, countEvent_spares hc]
  rfl

/-- R53, R89: the blocks with the slots fired and the frame sent, before any reel is lowered. -/
def Blocks.frameSent (b : Blocks) : Blocks := sendFireFrame (b.fires.map Prod.snd) (b.fires.foldl fireSlot b)

theorem frameSent_dispensers (b : Blocks) : b.frameSent.source.dispensers = b.source.dispensers :=
  foldl_leaves (fun b : Blocks => b.source.dispensers) fireSlot (fun b f => by rw [fireSlot_source]) b.fires b

theorem frameSent_spares (hc : code < 28) (b : Blocks) : look b.frameSent.alarm.codes code = look b.alarm.codes code :=
  foldl_leaves (fun b : Blocks => look b.alarm.codes code) fireSlot (fun b f => fireSlot_spares hc f b) b.fires b

/-- R42, R51, R89: FIRE open, its reels lowered one after another. -/
theorem fireOpen_eq (b : Blocks) : fireOpen b = reactRise b.alarm
    (settleDispensers b.source b.firedDispensers (choose (b.firedDispensers.foldl fireReel b.frameSent))) := rfl

/-- After the reels are lowered each entry keeps its count and its reel. -/
theorem fireOpen_look (b : Blocks) (e : Nat) :
    (look (fireOpen b).source.dispensers e).count
        = (look (b.firedDispensers.foldl fireReel b.frameSent).source.dispensers e).count
      ∧ (look (fireOpen b).source.dispensers e).reel
        = (look (b.firedDispensers.foldl fireReel b.frameSent).source.dispensers e).reel := by
  have kept := ((choose_keepsReels (b.firedDispensers.foldl fireReel b.frameSent)).trans
    (settleDispensers_keepsReels b.source b.firedDispensers _)).trans (reactRise_keepsReels b.alarm _)
  obtain ⟨p, same, -⟩ := kept.entry e
  rw [fireOpen_eq, same]
  exact ⟨rfl, rfl⟩

theorem fireOpen_spares (hc : code < 28) (h18 : code ≠ 18) (h25 : code ≠ 25) (b : Blocks) :
    look (fireOpen b).alarm.codes code
      = look (b.firedDispensers.foldl fireReel b.frameSent).alarm.codes code := by
  rw [fireOpen_eq, reactRise_spares hc h18, settleDispensers_spares hc h18 h25, choose_alarm]

/-- R42: every dispenser that is fired has its count one lower, and its codes as one fire raises them. -/
theorem fireOpen_fired (h : b.stands j n d) (hd : d < 96) (hc : b.board.context? n = some c) : ∃ mid,
    look mid.source.dispensers d = look b.source.dispensers d
      ∧ (look (fireOpen b).source.dispensers d).count = (look b.source.dispensers d).count - 1
      ∧ (look (fireOpen b).source.dispensers d).reel = (look (fireReel mid d).source.dispensers d).reel
      ∧ (∀ code < 28, code ≠ 18 → code ≠ 25 →
        (look b.alarm.codes code).Rises (look mid.alarm.codes code)
          ∧ (look (fireReel mid d).alarm.codes code).Rises (look (fireOpen b).alarm.codes code))
      ∧ ((∀ i m e, b.stands i m e → i = j) → ∀ code < 28, code ≠ 18 → code ≠ 25 →
        look mid.alarm.codes code = look b.alarm.codes code
          ∧ look (fireOpen b).alarm.codes code = look (fireReel mid d).alarm.codes code) := by
  by_cases only : ∀ i m e, b.stands i m e → i = j
  · have one : b.firedDispensers = [d] := by
      rw [Blocks.firedDispensers, fires_eq_one h hc only]
      rfl
    have same : look b.frameSent.source.dispensers d = look b.source.dispensers d := by rw [frameSent_dispensers]
    have entry := fireOpen_look b d
    have codes : ∀ code < 28, code ≠ 18 → code ≠ 25 →
        look (fireOpen b).alarm.codes code = look (fireReel b.frameSent d).alarm.codes code := fun code hc h18 h25 => by
      rw [fireOpen_spares hc h18 h25, one]
      rfl
    rw [one] at entry
    obtain ⟨f, source, count, -⟩ := fireReel_source b.frameSent d
    refine ⟨b.frameSent, same, ?_, entry.2, fun code hc h18 h25 => ⟨.inl (frameSent_spares hc b), .inl (codes code hc h18 h25)⟩,
      fun _ code hc h18 h25 => ⟨frameSent_spares hc b, codes code hc h18 h25⟩⟩
    rw [entry.1, List.foldl_cons, List.foldl_nil, source, onDispenser_look hd, if_pos rfl, count, same]
  · obtain ⟨mid, same, entry, rises⟩ := foldl_fireReel_around (firedDispensers_nodup b) (mem_firedDispensers h hc) b.frameSent
    rw [frameSent_dispensers] at same
    obtain ⟨f, source, count, -⟩ := fireReel_source mid d
    have kept := fireOpen_look b d
    refine ⟨mid, same, ?_, ?_, fun code hc h18 h25 => ⟨?_, ?_⟩, fun only' => absurd only' only⟩
    · rw [kept.1, entry, source, onDispenser_look hd, if_pos rfl, count, same]
    · rw [kept.2, entry]
    · rw [← frameSent_spares hc b]
      exact (rises code hc).1
    · rw [fireOpen_spares hc h18 h25]
      exact (rises code hc).2

end Sys2Proof.Machine
end

section
/-! # Fire frames -/

namespace Sys2Proof.Machine

set_option Elab.async false

variable {b : Blocks} {code d j n q pitch : Nat} {c : StepContext}

/-! ## What is sent stays sent -/

theorem applyTarget_sent (c : StepContext) {x : Emission} (h : x ∈ b.sent) : x ∈ (applyTarget c b).sent := by
  unfold applyTarget
  split
  · exact h
  · split
    · exact h
    · exact List.mem_cons_of_mem _ h

theorem applySpan_sent (span : Nat) {x : Emission} (h : x ∈ b.sent) : x ∈ (applySpan span b).sent := by
  unfold applySpan
  split
  · exact h
  · exact List.mem_cons_of_mem _ h

theorem choose_sent {x : Emission} (h : x ∈ b.sent) : x ∈ (choose b).sent := by
  unfold choose applyCandidate
  dsimp only
  split
  · split
    · exact h
    · split
      · exact applyTarget_sent _ h
      · exact applySpan_sent _ (applyTarget_sent _ h)
  · exact h

/-! ## An advance with no fire, and with one (R42, R53, R89) -/

theorem reactRise_of_alarm {a : Alarm} (h : b.alarm = a) : reactRise a b = b := h ▸ reactRise_same b

theorem fireOpen_of_none (h : b.fires = []) : fireOpen b = choose (sendFireFrame [] b) := by
  have dispensers : b.firedDispensers = [] := by rw [Blocks.firedDispensers, h]; rfl
  have sent : b.frameSent = sendFireFrame [] b := by rw [Blocks.frameSent, h]; rfl
  rw [fireOpen_eq, dispensers, sent]
  exact reactRise_of_alarm (choose_alarm _)

theorem framePositions_one (d n kind : Nat) :
    framePositions [⟨d, n, kind⟩] = (List.range 12).map fun bank => if bank = d / 8 then some (d % 8) else none := by
  refine List.map_congr_left fun bank _ => ?_
  by_cases h : bank = d / 8
  · simp [bankOf, h]
  · simp [bankOf, h, Ne.symm h]

/-- R52: a dispenser that is as available as before has gained nothing. -/
theorem settleGain_of_same {before : Source}
    (hs : (look b.source.dispensers d).serviceable = (look before.dispensers d).serviceable)
    (he : (look b.source.dispensers d).enabled = (look before.dispensers d).enabled) :
    settleGain before d b = (b, false) := by
  have none : Source.gained before b.source d = false := by
    unfold Source.gained
    dsimp only
    rw [hs, he]
    cases (look before.dispensers d).serviceable <;> cases (look before.dispensers d).enabled <;> rfl
  unfold settleGain
  rw [none]
  rfl

/-- R89: the slot and the step of a fire. -/
def Blocks.slotFired (b : Blocks) (pitch : Nat) (f : Fire) : Blocks :=
  (b.setSlot pitch (.occupied ⟨some f.step, some f.dispenser, some f.kind, .unmeasured, .insert, none, false⟩)).onStep
    f.step fun c => { c with state := .fired }

theorem fireSlot_eq (b : Blocks) (pitch : Nat) (f : Fire) :
    fireSlot b (pitch, f) = reportFire f.kind (b.slotFired pitch f) := rfl

/-- Under quiet counters a fire is counted in the statistics alone. -/
theorem fireSlot_quiet (hq : b.counters.quiet) (pitch : Nat) (f : Fire) : ∃ statistics,
    fireSlot b (pitch, f) = (b.slotFired pitch f).onCounters (fun c => { c with statistics := statistics })
      ∧ ∀ k, b.source.kind? f.kind = some k → k.statistics < 64 → (look statistics k.statistics).fired
        = min ((look b.counters.statistics k.statistics).fired + 1) 4294967295 := by
  obtain ⟨statistics, counted, block⟩ :=
    countStatistics_eq (fun t => { t with fired := bump t.fired }) f.kind (b.slotFired pitch f)
  refine ⟨statistics, ?_, fun k hk lt => ?_⟩
  · rw [fireSlot_eq, reportFire, countEvent_quiet (by exact hq), counted]
  · rw [block k hk lt]
    rfl

/-- The one fire of an advance that changes no reel's state, with no other step PLANNED. -/
theorem fireOpen_of_one {kind : Nat} (h : b.fires = [(pitch, ⟨d, n, kind⟩)]) (hd : d < 96) (hq : b.counters.quiet)
    (more : 2 ≤ (look b.source.dispensers d).count) (low : ¬ (look b.source.dispensers d).turnsLow)
    (only : ∀ e ∈ b.board.window, e.state = .planned → e.number = n) : fireOpen b =
      choose ((sendFireFrame [⟨d, n, kind⟩] (fireSlot b (pitch, ⟨d, n, kind⟩))).onDispenser d
        fun e => { e with count := e.count - 1 }) := by
  have dispensers : b.firedDispensers = [d] := by rw [Blocks.firedDispensers, h]; rfl
  have sent : b.frameSent = sendFireFrame [⟨d, n, kind⟩] (fireSlot b (pitch, ⟨d, n, kind⟩)) := by
    rw [Blocks.frameSent, h]
    rfl
  have same : look (sendFireFrame [⟨d, n, kind⟩] (fireSlot b (pitch, ⟨d, n, kind⟩))).source.dispensers d
      = look b.source.dispensers d := by rw [← sent, frameSent_dispensers]
  have lowered : [d].foldl fireReel b.frameSent =
      (sendFireFrame [⟨d, n, kind⟩] (fireSlot b (pitch, ⟨d, n, kind⟩))).onDispenser d
        fun e => { e with count := e.count - 1 } := by
    rw [List.foldl_cons, List.foldl_nil, sent, fireReel_of_more (by rw [same]; exact more) (by rw [same]; exact low)]
  rw [fireOpen_eq, dispensers, lowered]
  generalize hF : choose _ = F
  have board : F.board = (fireSlot b (pitch, ⟨d, n, kind⟩)).board := by subst hF; exact choose_board _
  have entry : look F.source.dispensers d
      = { look b.source.dispensers d with count := (look b.source.dispensers d).count - 1 } := by
    subst hF
    rw [choose_source, onDispenser_look hd, if_pos rfl, same]
  have alarm : F.alarm = b.alarm := by
    subst hF
    obtain ⟨statistics, fired, -⟩ := fireSlot_quiet hq pitch ⟨d, n, kind⟩
    refine (choose_alarm _).trans ?_
    rw [fired]
    rfl
  have unplanned : ∀ e ∈ F.board.window, e.state ≠ .planned := by
    obtain ⟨statistics, fired, -⟩ := fireSlot_quiet hq pitch ⟨d, n, kind⟩
    rw [board, fired]
    intro e he
    obtain ⟨was, hw, rfl⟩ := List.mem_map.mp he
    dsimp only
    split
    · nofun
    · next other => exact fun state => other (only was hw state)
  have settled : settleDispensers b.source [d] F = F := by
    simp only [settleDispensers, List.foldl_cons, List.foldl_nil]
    rw [settleDispenser_of_unplanned unplanned, settleGain_of_same (by rw [entry]; rfl) (by rw [entry])]
    rfl
  rw [settled]
  exact reactRise_of_alarm alarm

end Sys2Proof.Machine
end

section
/-! # Fires and the replies to them -/

namespace Sys2Proof.Machine

set_option Elab.async false

variable {b : Blocks} {d j n bank : Nat} {c : StepContext} {f : FireFrame}

/-! ## FIRE open, with one fire and with several -/

/-- R53: an advance with no fire sends a frame that names no position. -/
theorem fireOpen_firesNone (h : ∀ j n d, ¬ b.stands j n d) : (fireOpen b).shaft = b.shaft
    ∧ (fireOpen b).chain = b.chain ∧ (fireOpen b).board = b.board
    ∧ (fireOpen b).source = { b.source with
        frame := (b.source.frame + 1) % 16, outstanding := some ⟨(b.source.frame + 1) % 16, [], []⟩ }
    ∧ .fireFrame ((b.source.frame + 1) % 16) (List.replicate 12 none) ∈ (fireOpen b).sent
    ∧ (fireOpen b).alarm = b.alarm := by
  rw [fireOpen_of_none (fires_eq_nil h)]
  exact ⟨choose_shaft _, choose_chain _, choose_board _, choose_source _, choose_sent List.mem_cons_self, choose_alarm _⟩

/-- R42, R53, R89: what the one fire of an advance changes. -/
structure Blocks.FiresOne (b : Blocks) (j n d : Nat) (c : StepContext) (t : Blocks) : Prop where
  shaft : t.shaft = b.shaft
  chain : t.chain = { b.chain with
    slots := b.chain.slots.set (b.chain.pitchAt j)
      (.occupied ⟨some n, some d, some c.kind, .unmeasured, .insert, none, false⟩) }
  board : t.board = { b.board with
    window := b.board.window.map fun e => if e.number = n then { e with state := .fired } else e }
  fired : look t.source.dispensers d = { look b.source.dispensers d with count := (look b.source.dispensers d).count - 1 }
  others : ∀ e, e ≠ d → look t.source.dispensers e = look b.source.dispensers e
  outstanding : t.source.outstanding = some ⟨(b.source.frame + 1) % 16, [⟨d, n, c.kind⟩], []⟩
  frame : t.source.frame = (b.source.frame + 1) % 16
  sent : .fireFrame ((b.source.frame + 1) % 16)
    ((List.range 12).map fun bank => if bank = d / 8 then some (d % 8) else none) ∈ t.sent
  counted : ∀ k, b.source.kind? c.kind = some k → k.statistics < 64 → (look t.counters.statistics k.statistics).fired
    = min ((look b.counters.statistics k.statistics).fired + 1) 4294967295
  alarm : t.alarm = b.alarm

theorem fireOpen_firesOne (h : b.stands j n d) (hc : b.board.context? n = some c) (only : ∀ i m e, b.stands i m e → i = j)
    (hd : d < 96) (hq : b.counters.quiet) (more : 2 ≤ (look b.source.dispensers d).count)
    (low : ¬ (look b.source.dispensers d).turnsLow) (planned : ∀ e ∈ b.board.window, e.state = .planned → e.number = n) :
    b.FiresOne j n d c (fireOpen b) := by
  obtain ⟨statistics, fired, block⟩ := fireSlot_quiet hq (b.chain.pitchAt j) ⟨d, n, c.kind⟩
  rw [fireOpen_of_one (fires_eq_one h hc only) hd hq more low planned, fired]
  generalize hF : Blocks.onDispenser _ _ _ = F
  have settles := choose_settles F
  have entry : ∀ e, look (choose F).source.dispensers e = if e = d then
      { look b.source.dispensers d with count := (look b.source.dispensers d).count - 1 }
      else look b.source.dispensers e := fun e => by
    rw [settles.dispensers, ← hF, onDispenser_look hd]
    rfl
  exact {
    shaft := settles.shaft.trans (hF ▸ rfl)
    chain := settles.chain.trans (hF ▸ rfl)
    board := settles.board.trans (hF ▸ rfl)
    fired := (entry d).trans (if_pos rfl)
    others := fun e ne => (entry e).trans (if_neg ne)
    outstanding := (congrArg Source.outstanding (choose_source F)).trans (hF ▸ rfl)
    frame := (congrArg Source.frame (choose_source F)).trans (hF ▸ rfl)
    sent := by
      refine choose_sent ?_
      rw [← hF, ← framePositions_one d n c.kind]
      exact List.mem_cons_self
    counted := fun k hk lt => by
      rw [settles.counters, ← hF]
      exact block k hk lt
    alarm := settles.alarm.trans (hF ▸ rfl) }

/-- R45: a code that a fire strikes is raised once at least, and exactly once where it is the one fire. -/
theorem fireOpen_reported (h : b.stands j n d) (hd : d < 96) (hc : b.board.context? n = some c) :
    (look (fireOpen b).source.dispensers d).count = (look b.source.dispensers d).count - 1
      ∧ ((look b.source.dispensers d).count ≤ 1 → (look (fireOpen b).source.dispensers d).reel = .empty
        ∧ ((look b.source.dispensers d).outReported = false →
          ((∀ i m e, b.stands i m e → i = j) → look (fireOpen b).alarm.codes 24
            = (look b.alarm.codes 24).struck ⟨none, some d, none⟩)
          ∧ (look b.alarm.codes 24).Raised (look (fireOpen b).alarm.codes 24)))
      ∧ (2 ≤ (look b.source.dispensers d).count → (look b.source.dispensers d).turnsLow →
        (look (fireOpen b).source.dispensers d).reel = .low
        ∧ ((look b.source.dispensers d).lowReported = false →
          ((∀ i m e, b.stands i m e → i = j) → look (fireOpen b).alarm.codes 26
            = (look b.alarm.codes 26).struck ⟨none, some d, none⟩)
          ∧ (look b.alarm.codes 26).Raised (look (fireOpen b).alarm.codes 26))) := by
  obtain ⟨mid, same, count, reel, rises, alone⟩ := fireOpen_fired h hd hc
  obtain ⟨f, source, -, empty, low⟩ := fireReel_source mid d
  have entry : (look (fireReel mid d).source.dispensers d).reel = (f (look mid.source.dispensers d)).reel := by
    rw [source, onDispenser_look hd, if_pos rfl]
  have reported : ∀ code, code < 28 → code ≠ 18 → code ≠ 25 →
      look (fireReel mid d).alarm.codes code = (look mid.alarm.codes code).struck ⟨none, some d, none⟩ →
      ((∀ i m e, b.stands i m e → i = j) → look (fireOpen b).alarm.codes code
        = (look b.alarm.codes code).struck ⟨none, some d, none⟩)
      ∧ (look b.alarm.codes code).Raised (look (fireOpen b).alarm.codes code) := by
    intro code hc h18 h25 struck
    obtain ⟨before, after⟩ := rises code hc h18 h25
    refine ⟨fun only => ?_, (before.then_raised ?_).then after⟩
    · obtain ⟨was, now⟩ := alone only code hc h18 h25
      rw [now, struck, was]
    · rw [struck]
      exact AlarmEntry.raised_struck _ _
  rw [same] at empty low
  refine ⟨count, fun few => ⟨?_, fun unreported => ?_⟩, fun more turns => ⟨?_, fun unreported => ?_⟩⟩
  · rw [reel, entry, empty few]
  · exact reported 24 (by decide) (by decide) (by decide)
      (fireReel_struck_out hd (by rw [same]; exact few) (by rw [same]; exact unreported))
  · rw [reel, entry, low more turns]
  · exact reported 26 (by decide) (by decide) (by decide)
      (fireReel_struck_low hd (by rw [same]; exact more) (by rw [same]; exact turns) (by rw [same]; exact unreported))

/-! ## FIRE close -/

/-- R56: BANK SILENT occurs once for each silent bank, and the last one, of the highest number, leaves its context. -/
theorem fireClose_struck (h : b.source.outstanding = some f) (silent : b.source.silent f bank = true)
    (highest : ∀ q, bank < q → b.source.silent f q = false) :
    let n := ((List.range 12).filter (b.source.silent f)).length
    let was := look b.alarm.codes 11
    look (fireClose b).alarm.codes 11 = if was.state = .idle then
        { was with state := .latched, count := n, context := b.source.silentContext f bank, noticePending := true }
      else { was with count := min (was.count + n) 255, context := b.source.silentContext f bank } := by
  obtain ⟨lower, banks⟩ := silentBanks_last silent highest
  obtain ⟨-, codes, -⟩ := fireClose_judged h
  have number : ((List.range 12).filter (b.source.silent f)).length = lower.length + 1 := by
    rw [← silentBanks_eq, banks, List.length_append]
    rfl
  have bound : lower.length + 1 ≤ 12 := by
    rw [← number]
    exact (List.length_filter_le _ _).trans (by simp)
  dsimp only
  rw [codes, foldl_silence_look, banks, List.map_append, List.map_singleton, foldl_struck, List.length_map, number,
    show min (lower.length + 1) 255 = lower.length + 1 by omega]
  rfl

theorem fireClose_jammed (h : b.source.outstanding = some f) (hd : d < 96)
    (apart : ∀ e ∈ f.fires, ∀ g ∈ f.fires, e.dispenser / 8 = g.dispenser / 8 → e = g) :
    (look (fireClose b).source.dispensers d).jammed = ((look b.source.dispensers d).jammed
      || (b.source.silent f (d / 8) && f.fires.any fun e => decide (e.dispenser = d))) := by
  obtain ⟨-, -, jammed⟩ := fireClose_judged h
  rw [jammed, foldl_silence_jammed _ _ hd, any_firedIn _ apart]
  rfl

theorem windowEvent_fire_open (station : Station) (b : Blocks) : windowEvent station .fire true b = fireOpen b := rfl

theorem windowEvent_fire_close (station : Station) (b : Blocks) : windowEvent station .fire false b = fireClose b := rfl

/-- Settles O31: the replies, FIRE open and FIRE close. -/
theorem notHomeIsAJam : Obligations.NotHomeIsAJam := by
  unfold Obligations.NotHomeIsAJam
  refine ⟨?_, ?_, ?_⟩
  · intro bank frame home s f e ho hf hr he hb only hd away
    have ran := exec_bankReply bank frame home 0 0 s
    obtain ⟨jammed, struck⟩ := takeReply_away ho hf hr he hb only hd away
    generalize takeReply bank frame home 0 0 s.blocks = t at ran jammed struck
    exact ⟨_, ran, jammed, struck, rfl⟩
  · intro bank frame home s f ho
    refine ⟨fun hf hr shown => ?_, fun other => ?_⟩
    · rw [exec_bankReply, takeReply_home, takeHome_first ho hf hr, judgeHome_home shown]
      exact congrArg (fun b => Host.Outcome.next { s with blocks := b }) (reactRise_of_alarm rfl)
    · rw [exec_bankReply, takeReply_home, takeHome_other ho other, reactRise_same]
  · intro station s advance sample
    refine ⟨fun meets => ?_, fun meets => ?_⟩
    · have ran : exec sample s = .next { s with blocks := fireOpen (s.blocks.counted .fire true) } := by
        rw [exec_sample_meets station meets advance, windowEvent_fire_open]
      intro chain stands number reported
      refine ⟨fun none => ?_, fun j n d c st hd hc => ⟨fun only planned quiet more low => ?_, ?_⟩⟩
      · obtain ⟨shaft, chain, board, source, sent, alarm⟩ := fireOpen_firesNone (b := s.blocks.counted .fire true) none
        generalize fireOpen (s.blocks.counted .fire true) = t at ran shaft chain board source sent alarm
        exact ⟨_, ran, shaft, chain, board, source, sent, alarm, rfl⟩
      · have one := fireOpen_firesOne (b := s.blocks.counted .fire true) st hc only hd quiet more ?_ planned
        · generalize fireOpen (s.blocks.counted .fire true) = t at ran one
          exact ⟨_, ran, one.shaft, one.chain, one.board, one.fired, one.others, one.outstanding, one.frame, one.sent,
            one.counted, one.alarm, rfl⟩
        · rintro ⟨nonzero, threshold, loaded⟩
          have threshold : (look s.blocks.source.dispensers d).count - 1 = (look s.blocks.source.dispensers d).threshold :=
            threshold
          exact low ⟨nonzero, by omega, loaded⟩
      · obtain ⟨count, out, low⟩ := fireOpen_reported (b := s.blocks.counted .fire true) st hd hc
        generalize fireOpen (s.blocks.counted .fire true) = t at ran count out low
        refine ⟨_, ran, count, fun few => ?_, fun more nonzero threshold loaded => ?_⟩
        · obtain ⟨empty, codes⟩ := out few
          refine ⟨empty, fun unreported => ?_⟩
          obtain ⟨once, raised⟩ := codes unreported
          exact ⟨once, raised.state, raised.count⟩
        · have turns : (look s.blocks.source.dispensers d).turnsLow := ⟨nonzero, by omega, loaded⟩
          obtain ⟨reel, codes⟩ := low more turns
          refine ⟨reel, fun unreported => ?_⟩
          obtain ⟨once, raised⟩ := codes unreported
          exact ⟨once, raised.state, raised.count⟩
    · have ran : exec sample s = .next { s with blocks := fireClose (s.blocks.counted .fire false) } := by
        rw [exec_sample_meets station meets advance, windowEvent_fire_close]
      intro counted silent
      have silentIs : silent = s.blocks.source.silent := rfl
      clear_value silent
      subst silentIs
      refine ⟨fun idle => ?_, fun f ho => ⟨fun replied => ?_, fun bank silent highest => ?_⟩⟩
      · rw [ran, fireClose_idle (b := s.blocks.counted .fire false) idle]
      · rw [ran, fireClose_replied (b := s.blocks.counted .fire false) ho replied]
        rfl
      · obtain ⟨outstanding, -⟩ := fireClose_judged (b := s.blocks.counted .fire false) ho
        have struck := fireClose_struck (b := s.blocks.counted .fire false) ho silent highest
        have jammed := fun d hd apart => fireClose_jammed (d := d) (b := s.blocks.counted .fire false) ho hd apart
        generalize fireClose (s.blocks.counted .fire false) = t at ran outstanding struck jammed
        exact ⟨_, s.blocks.source.silentContext f bank, ran, outstanding, rfl, struck,
          fun e he hb only => silentContext_of_fire he hb only _,
          fun d hb unfired installed lowest => silentContext_of_lowest hb unfired installed lowest, jammed⟩

end Sys2Proof.Machine
end
